-- ==== Sys2Proof/Word.lean ====
section
/-! DEFINITION. The words of the LB8: bytes, sequence numbers, timebase values, counters, and the index types. -/

namespace Sys2Proof

/-- One byte of a segment, a frame or a table field. -/
abbrev Byte := BitVec 8

/-- A group sequence number or a test sequence (R1, R14). -/
abbrev Seq := BitVec 16

/-- A value of the timebase, in microseconds (R166). -/
abbrev Time := BitVec 32

/-- A counter of a counter set: 32 bits, wrapping (R171). -/
abbrev Counter := BitVec 32

/-- A lane number, 0 to 7. -/
abbrev LaneIx := Fin 8

/-- A group number, 0 to 3. -/
abbrev GroupIx := Fin 4

/-- A stream number, 0 to 63. -/
abbrev StreamIx := Fin 64

/-- A slot number of the pending operation table, 0 to 3 (R160). -/
abbrev SlotIx := Fin 4

/-- A set of lanes: bit L stands for lane L (13, first paragraph). -/
abbrev LaneSet := BitVec 8

end Sys2Proof
end

