-- ==== Sys2Proof/Syntax.lean ====
section
/-! DEFINITION. The commands the LB8 takes: one constructor per row of opcode_table.json. -/

namespace Sys2Proof

/-- The origin of a management request at this part (R146). -/
inductive Origin
  /-- LOCAL: from the Local Frame Port. -/
  | localSide
  /-- REMOTE: from the bond. -/
  | remoteSide
  deriving DecidableEq, Repr

/-- The commands. The operands are those the row's rule names; the table gives none of them bits.
The entry commands (ECHO to DEVICE_RESET) are one request entry executed by the Management Engine (log 8):
the origin of its frame and the parameters of 13.3, byte for byte. -/
inductive Instr
  /-- POWER_ON_RESET (R173): the RESET input is asserted. -/
  | powerOnReset
  /-- TRANSMIT_INHIBIT_ASSERT (R120). -/
  | transmitInhibitAssert
  /-- TRANSMIT_INHIBIT_RELEASE (R120). -/
  | transmitInhibitRelease
  /-- CARRIER_LOSS (R25): the carrier-detect input of `lane` goes absent; `midSegment` says that a segment was being
  received on the lane at that moment (R15). -/
  | carrierLoss (lane : LaneIx) (midSegment : Bool)
  /-- CARRIER_RETURN (R26). -/
  | carrierReturn (lane : LaneIx)
  /-- SEGMENT_TAKEN (R15): the last byte of a segment has arrived on `lane`; `bytes` are the bytes received between
  its delimiters. -/
  | segmentTaken (lane : LaneIx) (bytes : List Byte)
  /-- INTERVAL_EXPIRY (R22). -/
  | intervalExpiry (lane : LaneIx)
  /-- MARKER_TIMER_EXPIRY (R116). -/
  | markerTimerExpiry (lane : LaneIx)
  /-- HOLE_TIMER_EXPIRY (R49). -/
  | holeTimerExpiry (group : GroupIx)
  /-- SKEW_HOLD_EXPIRY (R134). -/
  | skewHoldExpiry (lane : LaneIx)
  /-- OPERATION_TIMEOUT (R142): the timeout of the operation in `slot` expires. -/
  | operationTimeout (slot : SlotIx)
  /-- RETRY_EXPIRY (R178). -/
  | retryExpiry
  /-- INGRESS_FRAME_TAKEN (R92): the end delimiter of a frame arrives; `straddlesReset` says that its arrival began
  before a reset that has ended since. -/
  | ingressFrameTaken (stream : StreamIx) (errorMark straddlesReset : Bool) (payload : List Byte)
  /-- EGRESS_PAUSE_ASSERT (R76). -/
  | egressPauseAssert
  /-- EGRESS_PAUSE_RELEASE (R76). -/
  | egressPauseRelease
  /-- EGRESS_TRANSMISSION_END (R77). -/
  | egressTransmissionEnd
  /-- HELD_FRAME_JOIN (R70). -/
  | heldFrameJoin (group : GroupIx)
  /-- SEGMENT_PLACEMENT (R108). -/
  | segmentPlacement (group : GroupIx)
  /-- SEGMENT_TRANSMIT_START (R118). -/
  | segmentTransmitStart (lane : LaneIx)
  /-- SEGMENT_TRANSMIT_END (R118). -/
  | segmentTransmitEnd (lane : LaneIx)
  /-- ENGINE_TAKE_FRAME (R147). -/
  | engineTakeFrame
  /-- RESPONSE_REOFFER (R153). -/
  | responseReoffer
  /-- ECHO (R154). -/
  | echo (origin : Origin) (params : List Byte)
  /-- READ_ENTRY (R164). -/
  | readEntry (origin : Origin) (table index : Byte)
  /-- READ_COUNTERS (R171): a clear is asked for when `clear` is not 0 (13.3). -/
  | readCounters (origin : Origin) (set index clear : Byte)
  /-- CAPTURE_READ (R32). -/
  | captureRead (origin : Origin) (lane : Byte)
  /-- CAPTURE_RELEASE (R32). -/
  | captureRelease (origin : Origin) (lane : Byte)
  /-- WRITE_ENTRY (R155): `items` are the field items of 13.4. -/
  | writeEntry (origin : Origin) (table index : Byte) (items : List Byte)
  /-- GROUP_ENABLE (R156). -/
  | groupEnable (origin : Origin) (group : Byte)
  /-- GROUP_DISABLE (R141). -/
  | groupDisable (origin : Origin) (group : Byte)
  /-- GROUP_RESYNC (R59). -/
  | groupResync (origin : Origin) (group : Byte)
  /-- LANE_ADD (R137). -/
  | laneAdd (origin : Origin) (group lane : Byte)
  /-- LANE_REMOVE (R139). -/
  | laneRemove (origin : Origin) (lane : Byte)
  /-- LANE_SERVICE (R157): direction 1 IN, 2 OUT (13.3). -/
  | laneService (origin : Origin) (lane direction : Byte)
  /-- LANE_DIAG (R182): mode 0 NONE, 1 LOOP-LOCAL, 2 LOOP-REMOTE, 3 TEST (13.3). -/
  | laneDiag (origin : Origin) (lane mode : Byte)
  /-- OP_QUERY (R159): bits 15 to 12 of the tag are the slot, bits 11 to 0 the generation (13.3). -/
  | opQuery (origin : Origin) (tag : BitVec 16)
  /-- NOTIFY_ACK (R179). -/
  | notifyAck (origin : Origin) (n : BitVec 32)
  /-- DEVICE_RESET (R162): `tag` is the transaction tag of its frame. -/
  | deviceReset (origin : Origin) (tag : BitVec 16)
  /-- DEVICE_RESET_EFFECT (R162). -/
  | deviceResetEffect
  /-- NOTIFICATION_OFFER (R177). -/
  | notificationOffer
  /-- RESET_INPUT_RELEASE (R180). -/
  | resetInputRelease
  deriving DecidableEq, Repr

end Sys2Proof
end

