-- ==== Sys2Proof/Decode.lean ====
section
/-! DEFINITION. The command a word of opcode_table.json spells. The table's 41 rows give no bits, so no word spells one;
the byte encodings of chapter 13 (segments, management frames, records) are read and written in Machine/Operands.lean. -/

namespace Sys2Proof

/-- No row of the table has an encoding, so every word is refused. -/
def decodeTableWord (_nbits _w : Nat) : Option Instr := none

end Sys2Proof
end

