-- ==== Sys2Proof/Config.lean ====
section
/-! DEFINITION. The fixed sizes and codes of the LB8, and the one value its manual leaves open. -/

namespace Sys2Proof.Config

/-- Buffers of the Segment Buffer Pool (R80). -/
def poolBuffers : Nat := 2048

/-- Bytes of the Transmit Store (R97). -/
def storeBytes : Nat := 262144

/-- Frames of one class queue (R96). -/
def classQueueMax : Nat := 32

/-- Frames of one group egress queue (R73). -/
def egressQueueMax : Nat := 64

/-- Frames of the management output queue (R74). -/
def mgmtOutMax : Nat := 8

/-- Frames of the request queue (R146). -/
def requestQueueMax : Nat := 8

/-- Data segments of one lane queue (R113). -/
def laneQueueMax : Nat := 8

/-- Segments of one return queue (R184). -/
def returnQueueMax : Nat := 8

/-- Records of the notification queue (R175). -/
def noteQueueMax : Nat := 32

/-- Records of one NOTIFICATION frame (R177). -/
def notesPerFrame : Nat := 8

/-- Bytes of the largest bonded frame (R4, R66). -/
def bondedMax : Nat := 4100

/-- Bytes of the largest management frame (R74, R101). -/
def mgmtFrameMax : Nat := 1024

/-- Vendor code of the DEVICE identity (R166). -/
def vendorCode : Nat := 23117

/-- Part code of the DEVICE identity (R166). -/
def partCode : Nat := 184

/-- Revision of the DEVICE identity (R166). -/
def revision : Nat := 3

/-- FREE VALUE (log 13): what a READ-ENTRY of DEVICE returns in byte `k` of the peer report item while the
report is EMPTY, at the `n`-th such read. The manual gives the item four bytes (13.4) and no content for them. -/
opaque freeByte (n k : Nat) : Byte

end Sys2Proof.Config
end

