-- ==== Sys2Proof/Machine/State.lean ====
section
/-! DEFINITION. The state of the LB8 as plain data, and its value after the power-on reset. Each type names the rule
that gives the state; INVENTORY.md lists every field with its reset value. -/

namespace Sys2Proof.Machine

/-- No command faults: the manual describes every error as a count, a discard, a state change, a result code or a
notification, and names no event that stops the part (safe: nothing can stop). -/
inductive Fault
  deriving DecidableEq, Repr

/-- No command is refused; the constructor is the host's. -/
inductive Refusal
  /-- A command whose meaning is not written yet; raised by no arm of `exec` (safe). -/
  | notModelled (mnemonic : String)
  deriving DecidableEq, Repr

/-! ### Receive side of a lane (chapter 2) -/

/-- Receive state of a lane (R21). -/
inductive RxState | down | search | aligned | lost
  deriving DecidableEq, Repr

/-- State reasons and search reasons (R21 to R27; codes in 13.4). -/
inductive Reason | service | restored | carrier | markerMiss | errors | crossed | looped | noMarker
  deriving DecidableEq, Repr

/-- The two origin faults of a marker (R20). -/
inductive OriginFault | crossed | looped
  deriving DecidableEq, Repr

/-- The interval record of R22. `originFault` is the later of the origin faults taken in the interval, which R23 reads;
`none` is "clear". -/
structure IntervalRecord where
  carrierAbsent : Bool
  markerSeen : Bool
  originFault : Option OriginFault
  errorCount : Nat
  deriving DecidableEq, Repr

/-- Segment kinds (R6). -/
inductive SegKind | data | marker | test
  deriving DecidableEq, Repr

/-- States of a capture record (R31). -/
inductive CaptureState | empty | corrected | uncorrectable
  deriving DecidableEq, Repr

/-- The capture record of R31. -/
structure Capture where
  state : CaptureState
  syndrome : Byte
  time : Time
  kind : Option SegKind
  suppressed : Nat
  deriving DecidableEq, Repr

/-! ### Segments and frames (chapter 1) -/

/-- A data segment with its header fields (R6, R8). A stored segment holds one pool buffer, whose content is `payload`. -/
structure DataSeg where
  group : GroupIx
  first : Bool
  last : Bool
  stream : StreamIx
  seq : Seq
  payload : List Byte
  deriving DecidableEq, Repr

/-- A frame in a class queue: the bonded frame, payload and frame check (R4, R95). -/
structure TxFrame where
  stream : StreamIx
  bonded : List Byte
  deriving DecidableEq, Repr

/-- Priority classes (R94). -/
inductive Cls | normal | high
  deriving DecidableEq, Repr

/-- A frame being rebuilt: the payloads of its buffers in sequence order, and the stream of its FIRST segment (R64). -/
structure Building where
  stream : StreamIx
  chain : List (List Byte)
  deriving DecidableEq, Repr

/-- A good data frame held or queued for local egress, with its chain of buffers (R69, R73). The frame check is still in
the chain; `EgressFrame.sent` strips it (R77). -/
structure EgressFrame where
  stream : StreamIx
  chain : List (List Byte)
  deriving DecidableEq, Repr

/-! ### Lanes -/

/-- Transmit role of a lane, with the group it names (R126). -/
inductive Role
  | off
  | probation (g : GroupIx)
  | active (g : GroupIx)
  | withdrawn (g : GroupIx)
  | draining (g : GroupIx)
  deriving DecidableEq, Repr

/-- Receive association of a lane (R125). A lane has a lane record (passed mark and skew strike count) exactly while it
is MEMBER (R36), so the record stands in that constructor. -/
inductive Assoc
  | none
  | member (g : GroupIx) (mark : Seq) (strikes : Nat)
  | suspended (g : GroupIx)
  deriving DecidableEq, Repr

/-- Diagnostic modes (R182). -/
inductive Diag | none | loopLocal | loopRemote | test
  deriving DecidableEq, Repr

/-- The two long operations on a lane. -/
inductive LaneOpKind | add | remove
  deriving DecidableEq, Repr

/-- The operation in flight on a lane: its tag (R125), which request it is, and the group it adds to or removes from,
which R141 needs for a lane whose drain has ended (log 19). -/
structure LaneOp where
  kind : LaneOpKind
  slot : SlotIx
  gen : BitVec 12
  group : GroupIx
  deriving DecidableEq, Repr

/-- The segment in flight on a lane (R117, R118): its bytes, and whether it began in LOOP-LOCAL (R183). -/
structure Flight where
  bytes : List Byte
  looped : Bool
  deriving DecidableEq, Repr

/-- The test record of R186. -/
structure TestRecord where
  received : Counter
  gaps : Counter
  patternErrors : Counter
  last : Seq
  deriving DecidableEq, Repr

/-- The LANE counters in the order of R171: the rows of R33, R123, R144 and chapter 12. -/
inductive LaneCtr
  | segmentsReceived | truncated | corrected | uncorrectable | markerBodyError | crossed | looped | validMarkers
  | dataPassed | notAligned | testDiscarded | lostEntries | markerGap
  | segmentsPlaced | dataSent | markersSent | urgentMarker | opportunisticMarker | markerStarvation
  | discardedOnWithdraw | discardedOnForce
  | admitted | restored | groupMismatch | holdIgnored | activations | withdrawals
  | testSent | testReceived | testGaps | testPatternErrors | loopReturned | loopDropped | diagnosticDiscard
  deriving DecidableEq, Repr

/-- The GROUP counters in the order of R171: the rows of R61, R85 with R87, R79, R105 and R123. -/
inductive GroupCtr
  | groupDisabled | notMember | resyncDiscard | late | beyondWindow | duplicate | noBuffer | stored | delivered
  | skippedByTimer | holeTimerExpiries | skippedFast | skewStrikes | skewSuspensions | disableDiscard
  | reservedGrants | sharedGrants | buffersReturned
  | awaitingFirst | orphanSegment | brokenFrame | shortFrame | badFrameCheck | unknownStream | managementOffGroup
  | managementHandedUp | assemblyDiscard | framesAssembled | assemblerBlocks | framesSent
  | groupDown | queueFull | storeFull | framesAdmitted | bytesAdmitted | holdAssertions
  | segmentsCut | framesCut
  deriving DecidableEq, Repr

/-- The STREAM counters in the order of R171: the rows of R105 and R79. -/
inductive StreamCtr
  | ingressError | unknownStream | length | groupDown | queueFull | storeFull | ingressFrames | ingressBytes
  | egressFrames | egressBytes
  deriving DecidableEq, Repr

/-- The DEVICE counters in the order of R171: the rows of R105, R79, R163 and R181. -/
inductive DevCtr
  | ingressFramesTaken | malformed | managementFramesTaken | refused | relayFailed | relayedToPeer | responsesDiscarded
  | managementFramesSent
  | remoteRequestsTaken | remoteRefused | framesProcessed | deniedEntries | responsesSent | relayedUp | relayedUpLost
  | notificationsPosted | notificationsLost | notificationFramesQueued | resendFramesQueued | recordsResent
  | retryExpiries | recordsAcknowledged
  deriving DecidableEq, Repr

/-- Position of a LANE counter in its set. -/
def LaneCtr.ix (c : LaneCtr) : Fin 34 := ⟨c.ctorIdx, by cases c <;> decide⟩

/-- Position of a GROUP counter in its set. -/
def GroupCtr.ix (c : GroupCtr) : Fin 38 := ⟨c.ctorIdx, by cases c <;> decide⟩

/-- Position of a STREAM counter in its set. -/
def StreamCtr.ix (c : StreamCtr) : Fin 10 := ⟨c.ctorIdx, by cases c <;> decide⟩

/-- Position of a DEVICE counter in its set. -/
def DevCtr.ix (c : DevCtr) : Fin 22 := ⟨c.ctorIdx, by cases c <;> decide⟩

/-- Everything the part holds per lane: the carrier-detect pin, the LANE settings (R167), the Lane Receiver (R35), the
Membership Controller's items (R125), the Lane Transmitter (R124), the diagnostics (R184 to R186) and the LANE set. -/
structure LaneState where
  cdPresent : Bool
  inService : Bool
  weight : Nat
  diag : Diag
  rx : RxState
  reason : Reason
  searchReason : Reason
  intervalTimer : Option Time
  interval : IntervalRecord
  good : Nat
  miss : Nat
  lastCount : Option Byte
  capture : Capture
  role : Role
  assoc : Assoc
  skewHold : Option Time
  mismatch : Bool
  op : Option LaneOp
  queue : List DataSeg
  deficit : Nat
  debt : Nat
  markerTimer : Option Time
  markerCount : Byte
  flight : Option Flight
  returnQueue : List (List Byte)
  testSeq : Seq
  test : TestRecord
  ctr : Vector Counter 34
  deriving DecidableEq, Repr

/-! ### Groups -/

/-- Group transmit states (R136). -/
inductive TxState | disabled | forming | up | disabling
  deriving DecidableEq, Repr

/-- Receive states of a receive context (R36). -/
inductive CtxState | disabled | resync | forming | up
  deriving DecidableEq, Repr

/-- The frame cursor (R106): the frame being cut is the head of the class queue named. -/
structure Cursor where
  cls : Cls
  cut : Nat
  deriving DecidableEq, Repr

/-- The running hole timer: its expiry, and the expected sequence it was started at, which R48 compares. -/
structure HoleTimer where
  expiry : Time
  startedAt : Seq
  deriving DecidableEq, Repr

/-- The disable record of a group (R125, R141). -/
structure DisableRec where
  slot : SlotIx
  gen : BitVec 12
  set : LaneSet
  loss : Bool
  deriving DecidableEq, Repr

/-- Everything the part holds per group: the GROUP settings (R168), the transmit side (R96, R100, R106, R125), the receive
context (R36), the Frame Assembler and egress queue (R64, R73), the pool's counts (R80, R89) and the GROUP set. -/
structure GroupState where
  segSize : Nat
  window : Nat
  holeTime : Nat
  skewLimit : Nat
  strikeLimit : Nat
  skewHold : Nat
  minLanes : Nat
  reservation : Nat
  holdLevel : Nat
  tx : TxState
  nextSeq : Seq
  rrPos : LaneIx
  cursor : Option Cursor
  high : List TxFrame
  normal : List TxFrame
  hold : Bool
  disable : Option DisableRec
  ctx : CtxState
  expected : Option Seq
  highest : Option Seq
  store : List DataSeg
  hole : Option HoleTimer
  building : Option Building
  awaitingFirst : Bool
  held : Option EgressFrame
  egress : List EgressFrame
  heldCount : Nat
  armed : Bool
  ctr : Vector Counter 38
  deriving DecidableEq, Repr

/-- One STREAM entry (R94, R170) and its counter set. -/
structure StreamState where
  valid : Bool
  group : GroupIx
  cls : Cls
  maxLen : Nat
  ctr : Vector Counter 10
  deriving DecidableEq, Repr

/-! ### Management and notifications -/

/-- Levels of remote access (R151). -/
inductive RemoteAccess | none | read | full
  deriving DecidableEq, Repr

/-- The DEVICE settings (R165). -/
structure DevSettings where
  markerInterval : Nat
  urgentLevel : Nat
  missLimit : Nat
  errorLimit : Nat
  restoreCount : Nat
  opTimeout : Nat
  retryInterval : Nat
  remoteAccess : RemoteAccess
  mgmtGroup : Option GroupIx
  stationToken : BitVec 16
  deriving DecidableEq, Repr

/-- Causes of a reset (R166). -/
inductive ResetCause | powerOn | requested
  deriving DecidableEq, Repr

/-- The peer report when PRESENT (R129): the maps of the latest valid marker and the lane it came on. -/
structure PeerReport where
  aligned : LaneSet
  accepted : LaneSet
  lane : LaneIx
  deriving DecidableEq, Repr

/-- A frame of the management output queue (R74). `carriesReset` marks the response of an executed DEVICE-RESET, which
the Management Engine recognises when it leaves (R77, R162). -/
structure MgmtFrame where
  bytes : List Byte
  carriesReset : Bool
  deriving DecidableEq, Repr

/-- A frame as the Local Frame Port hands it out: its stream number and its payload (R4, R77). -/
structure PortFrame where
  stream : StreamIx
  payload : List Byte
  deriving DecidableEq, Repr

/-- What the Egress Arbiter is sending (R75). The frame is the head of the queue named; `State.onPort` gives its stream and
payload. -/
inductive EgressSource
  | management
  | group (g : GroupIx)
  deriving DecidableEq, Repr

/-- A frame of the request queue (R146). -/
structure RequestFrame where
  origin : Origin
  bytes : List Byte
  deriving DecidableEq, Repr

/-- A built response (R149, R153). -/
structure Response where
  origin : Origin
  bytes : List Byte
  carriesReset : Bool
  deriving DecidableEq, Repr

/-- The Management Engine (R147). -/
inductive Engine
  | idle
  | waiting (r : Response)
  | resetting
  deriving DecidableEq, Repr

/-- A long operation and its subject (R160). -/
inductive OpKind
  | laneAdd (l : LaneIx)
  | laneRemove (l : LaneIx)
  | groupDisable (g : GroupIx)
  deriving DecidableEq, Repr

/-- Outcomes of a long operation (R161). -/
inductive OpOutcome | done | timeout | aborted | laneFault | doneWithLoss
  deriving DecidableEq, Repr

/-- The content of a pending operation slot (R160). -/
inductive SlotBody
  | empty
  | inFlight (op : OpKind) (accepted expiry : Time)
  | complete (op : OpKind) (accepted expiry : Time) (outcome : OpOutcome) (completed : Time)
  deriving DecidableEq, Repr

/-- A slot of the pending operation table (R160). -/
structure Slot where
  gen : BitVec 12
  body : SlotBody
  deriving DecidableEq, Repr

/-- Causes of a LANE-ROLE record (R174). -/
inductive RoleCause | add | accepted | notAccepted | remove | drained | loss | fault | timeout | disable
  deriving DecidableEq, Repr

/-- Causes of a RECEIVE-SET record (R174). -/
inductive SetCause | admitted | left | lost | skew | restored | mismatch
  deriving DecidableEq, Repr

/-- Kind, subject and detail of a notification record (R174). -/
inductive NoteBody
  | resetDone (cause : ResetCause)
  | laneState (l : LaneIx) (old new : RxState) (reason : Reason)
  | laneRole (l : LaneIx) (old new : Role) (cause : RoleCause)
  | receiveSet (l : LaneIx) (old new : Assoc) (g : GroupIx) (cause : SetCause)
  | groupTx (g : GroupIx) (old new : TxState)
  | groupRx (g : GroupIx) (old new : CtxState)
  | opDone (slot : SlotIx) (gen : BitVec 12) (op : OpKind) (outcome : OpOutcome)
  | capture (l : LaneIx) (severity : CaptureState) (syndrome : Byte)
  | poolExhausted (g : GroupIx) (free : Nat)
  | overflow (lost : Nat)
  deriving DecidableEq, Repr

/-- A record of the notification queue (R174, R175). -/
structure Note where
  seq : BitVec 32
  body : NoteBody
  time : Time
  sent : Bool
  deriving DecidableEq, Repr

/-- Result codes (13.3). -/
inductive ResultCode
  | ok | accepted | denied | badRequest | badIndex | badValue | state | noRoom | conflict | notProcessed
  deriving DecidableEq, Repr

/-- A result entry (R149): request code, result code and data. -/
structure EntryResult where
  code : Byte
  result : ResultCode
  data : List Byte
  deriving DecidableEq, Repr

/-! ### The whole part -/

/-- The LB8: its pins, its settings, every block's state, the counter sets, the queue of waiting commands, and the two
fields of the model's own (`freeUse`, log 13; `lastResult`, log 8). -/
structure State where
  pending : List Instr
  freeUse : Nat
  lastResult : Option EntryResult
  txInhibit : Bool
  egressPause : Bool
  resetAsserted : Bool
  resetCause : ResetCause
  timebase : Time
  dev : DevSettings
  devCtr : Vector Counter 22
  lanes : Vector LaneState 8
  groups : Vector GroupState 4
  streams : Vector StreamState 64
  poolFree : Nat
  poolLow : Nat
  storeFree : Nat
  storeLow : Nat
  peerReport : Option PeerReport
  mgmtOut : List MgmtFrame
  egressBusy : Option EgressSource
  lastServed : GroupIx
  requestQueue : List RequestFrame
  engine : Engine
  slots : Vector Slot 4
  completionOrder : List SlotIx
  notes : List Note
  nextNote : BitVec 32
  tally : Nat
  retry : Option Time
  resendPending : Bool
  deriving DecidableEq, Repr

/-! ### Reset values -/

/-- A cleared interval record (R35). -/
def IntervalRecord.cleared : IntervalRecord := ⟨false, false, none, 0⟩

/-- An EMPTY capture record (R32, R35). -/
def Capture.released : Capture := ⟨.empty, 0, 0, none, 0⟩

/-- A test record at 0 (R186). -/
def TestRecord.zero : TestRecord := ⟨0, 0, 0, 0⟩

/-- A lane after reset (R35, R124, R125, R167, R184, R185, R186). The carrier is present: DESIGN CHOICE, log 6. -/
def LaneState.initial : LaneState where
  cdPresent := true
  inService := false
  weight := 1
  diag := .none
  rx := .down
  reason := .service
  searchReason := .noMarker
  intervalTimer := none
  interval := .cleared
  good := 0
  miss := 0
  lastCount := none
  capture := .released
  role := .off
  assoc := .none
  skewHold := none
  mismatch := false
  op := none
  queue := []
  deficit := 0
  debt := 0
  markerTimer := none
  markerCount := 0
  flight := none
  returnQueue := []
  testSeq := 0
  test := .zero
  ctr := .replicate 34 0

/-- A group after reset (R63, R64, R73, R91, R96, R100, R106, R125, R168, R169). -/
def GroupState.initial : GroupState where
  segSize := 128
  window := 256
  holeTime := 2000
  skewLimit := 64
  strikeLimit := 3
  skewHold := 1000
  minLanes := 1
  reservation := 0
  holdLevel := 24
  tx := .disabled
  nextSeq := 0
  rrPos := 0
  cursor := none
  high := []
  normal := []
  hold := false
  disable := none
  ctx := .disabled
  expected := none
  highest := none
  store := []
  hole := none
  building := none
  awaitingFirst := true
  held := none
  egress := []
  heldCount := 0
  armed := false
  ctr := .replicate 38 0

/-- A stream entry after reset (R170). -/
def StreamState.initial : StreamState := ⟨false, 0, .normal, 4096, .replicate 10 0⟩

/-- The fixed entry 0 (R94, R170). -/
def StreamState.management : StreamState := ⟨true, 0, .high, 4096, .replicate 10 0⟩

/-- The DEVICE settings after reset (R165). -/
def DevSettings.initial : DevSettings where
  markerInterval := 1000
  urgentLevel := 3
  missLimit := 3
  errorLimit := 16
  restoreCount := 4
  opTimeout := 500
  retryInterval := 200
  remoteAccess := .none
  mgmtGroup := none
  stationToken := 0

/-- The part while a reset holds it, before the event that ends the reset queues RESET-DONE (R173, R180). The pins are
those of log 6. -/
def State.held : State where
  pending := []
  freeUse := 0
  lastResult := none
  txInhibit := false
  egressPause := false
  resetAsserted := false
  resetCause := .powerOn
  timebase := 0
  dev := .initial
  devCtr := .replicate 22 0
  lanes := .replicate 8 .initial
  groups := .replicate 4 .initial
  streams := (Vector.replicate 64 StreamState.initial).set 0 .management
  poolFree := Config.poolBuffers
  poolLow := Config.poolBuffers
  storeFree := Config.storeBytes
  storeLow := Config.storeBytes
  peerReport := none
  mgmtOut := []
  egressBusy := none
  lastServed := 3
  requestQueue := []
  engine := .idle
  slots := .replicate 4 ⟨0, .empty⟩
  completionOrder := []
  notes := []
  nextNote := 1
  tally := 0
  retry := none
  resendPending := false

/-- The machine right after the power-on reset has ended (R180, R171): RESET-DONE is queued as sequence 1, its frame is in
the management output queue and has begun on local egress (R75), the retry timer runs, and the two counters read 1. -/
def State.reset : State :=
  { State.held with
    notes := [⟨1, .resetDone .powerOn, 0, true⟩]
    nextNote := 2
    mgmtOut := [⟨[3, 0, 0, 0, 0, 1, 0, 0, 0, 0, 0, 1, 1, 0, 0, 0, 0, 0, 0, 1, 0, 0, 0, 0], false⟩]
    egressBusy := some .management
    retry := some 200000
    devCtr := ((State.held.devCtr.set 15 1).set 17 1) }

end Sys2Proof.Machine
end

