-- ==== Sys2Proof/Machine/Ops.lean ====
section
/-! DEFINITION. The shared operations: circular comparison, the three checks, time, and reading and changing one lane,
group, stream or counter. -/

namespace Sys2Proof.Machine

/-! ### Circular comparison (R1, R2, R175) -/

/-- The distance from `e` to `q` around the circle (R1, R175). -/
def dist {w : Nat} (e q : BitVec w) : Nat := (q - e).toNat

/-- `q` is ahead of `e`: a distance of 1 up to half the circle less 1 (R1, R175). -/
def aheadOf {w : Nat} (q e : BitVec w) : Bool := decide (0 < dist e q) && decide (dist e q < 2 ^ (w - 1))

/-- `q` is at or ahead of `e` (R1). -/
def atOrAhead {w : Nat} (q e : BitVec w) : Bool := decide (dist e q < 2 ^ (w - 1))

/-- `q` is behind `e`: half the circle or more away (R1, R175). -/
def behind {w : Nat} (q e : BitVec w) : Bool := decide (2 ^ (w - 1) ≤ dist e q)

/-- To raise `x` to `q`: replace it when `q` is ahead of it (R2). -/
def raiseTo {w : Nat} (x q : BitVec w) : BitVec w := if aheadOf q x then q else x

/-! ### The checks (R5, R7, R13) -/

/-- One bit into a check register divided by `poly`. -/
def crcBit {w : Nat} (poly reg : BitVec w) (b : Bool) : BitVec w :=
  if reg.msb ^^ b then (reg <<< 1) ^^^ poly else reg <<< 1

/-- One byte into a check register, most significant bit first. -/
def crcByte {w : Nat} (poly reg : BitVec w) (x : Byte) : BitVec w :=
  [7, 6, 5, 4, 3, 2, 1, 0].foldl (fun r k => crcBit poly r (x.getLsbD k)) reg

/-- The register left after a message. -/
def crc {w : Nat} (poly init : BitVec w) (message : List Byte) : BitVec w :=
  message.foldl (crcByte poly) init

/-- The header check over five header bytes; over six received bytes, the syndrome (R7, R16). -/
def headerCheck (bytes : List Byte) : Byte := crc 0x07 0x00 bytes

/-- The body check over the first eight body bytes of a marker (R13). -/
def bodyCheck (bytes : List Byte) : BitVec 16 := crc 0x1021 0xFFFF bytes

/-- The frame check over the stream number and the payload (R5). -/
def frameCheck (stream : StreamIx) (payload : List Byte) : BitVec 32 :=
  ~~~ crc 0x04C11DB7 0xFFFFFFFF (BitVec.ofNat 8 stream.val :: payload)

/-! ### Index lists -/

/-- The lanes in lane order. -/
def allLanes : List LaneIx := [0, 1, 2, 3, 4, 5, 6, 7]

/-- The groups in group order. -/
def allGroups : List GroupIx := [0, 1, 2, 3]

/-- The slots in slot order. -/
def allSlots : List SlotIx := [0, 1, 2, 3]

/-! ### One lane, group, stream or slot of the state -/

/-- Lane `l`. -/
def State.lane (s : State) (l : LaneIx) : LaneState := s.lanes[l]

/-- Group `g`. -/
def State.group (s : State) (g : GroupIx) : GroupState := s.groups[g]

/-- Stream entry `x`. -/
def State.stream (s : State) (x : StreamIx) : StreamState := s.streams[x]

/-- Pending operation slot `k`. -/
def State.slot (s : State) (k : SlotIx) : Slot := s.slots[k]

/-- Change lane `l` alone. -/
def State.modLane (s : State) (l : LaneIx) (f : LaneState → LaneState) : State :=
  { s with lanes := s.lanes.set l (f s.lanes[l]) }

/-- Change group `g` alone. -/
def State.modGroup (s : State) (g : GroupIx) (f : GroupState → GroupState) : State :=
  { s with groups := s.groups.set g (f s.groups[g]) }

/-- Change stream entry `x` alone. -/
def State.modStream (s : State) (x : StreamIx) (f : StreamState → StreamState) : State :=
  { s with streams := s.streams.set x (f s.streams[x]) }

/-- Change slot `k` alone. -/
def State.modSlot (s : State) (k : SlotIx) (f : Slot → Slot) : State :=
  { s with slots := s.slots.set k (f s.slots[k]) }

/-! ### Counters (R171) -/

/-- Raise counter `i` of a set by `n`, wrapping (R171). -/
def raiseCounter {k : Nat} (ctr : Vector Counter k) (i : Fin k) (n : Nat) : Vector Counter k :=
  ctr.set i (ctr[i] + BitVec.ofNat 32 n)

/-- Raise a LANE counter of lane `l`. -/
def State.countLane (s : State) (l : LaneIx) (c : LaneCtr) (n : Nat := 1) : State :=
  s.modLane l fun x => { x with ctr := raiseCounter x.ctr c.ix n }

/-- Raise a GROUP counter of group `g`. -/
def State.countGroup (s : State) (g : GroupIx) (c : GroupCtr) (n : Nat := 1) : State :=
  s.modGroup g fun x => { x with ctr := raiseCounter x.ctr c.ix n }

/-- Raise a STREAM counter of stream `x`. -/
def State.countStream (s : State) (x : StreamIx) (c : StreamCtr) (n : Nat := 1) : State :=
  s.modStream x fun y => { y with ctr := raiseCounter y.ctr c.ix n }

/-- Raise a DEVICE counter. -/
def State.countDev (s : State) (c : DevCtr) (n : Nat := 1) : State :=
  { s with devCtr := raiseCounter s.devCtr c.ix n }

/-- The value of a LANE counter. -/
def State.laneCount (s : State) (l : LaneIx) (c : LaneCtr) : Counter := (s.lane l).ctr[c.ix]

/-- The value of a GROUP counter. -/
def State.groupCount (s : State) (g : GroupIx) (c : GroupCtr) : Counter := (s.group g).ctr[c.ix]

/-- The value of a STREAM counter. -/
def State.streamCount (s : State) (x : StreamIx) (c : StreamCtr) : Counter := (s.stream x).ctr[c.ix]

/-- The value of a DEVICE counter. -/
def State.devCount (s : State) (c : DevCtr) : Counter := s.devCtr[c.ix]

/-! ### Time (R166, log 3) -/

/-- The expiry of a timer of `n` microseconds started now (R166). -/
def State.after (s : State) (n : Nat) : Time := s.timebase + BitVec.ofNat 32 n

/-- The timebase once a timer's expiry is taken: the expiry value, unless the count has reached it already
(DESIGN CHOICE, log 3). -/
def State.passTo (s : State) (expiry : Time) : State := { s with timebase := raiseTo s.timebase expiry }

/-- A timer with this expiry is due: the count has reached it (R166). -/
def State.due (s : State) (expiry : Time) : Bool := !aheadOf expiry s.timebase

/-- Milliseconds in microseconds. -/
def ms (n : Nat) : Nat := 1000 * n

end Sys2Proof.Machine
end

