-- ==== Sys2Proof/Machine/Operands.lean ====
section
/-! DEFINITION. The byte forms of chapter 13: segment headers, markers, test segments, management frames, records, and the
codes of states and causes. -/

namespace Sys2Proof.Machine

/-! ### Numbers in bytes, most significant byte first (13) -/

/-- `n` in `k` bytes, most significant first. -/
def be : Nat → Nat → List Byte
  | 0, _ => []
  | k + 1, n => BitVec.ofNat 8 (n / 256 ^ k) :: be k n

/-- The number some bytes spell, most significant first. -/
def ofBe (bytes : List Byte) : Nat := bytes.foldl (fun n b => 256 * n + b.toNat) 0

/-- One byte of a number. -/
def byte (n : Nat) : Byte := BitVec.ofNat 8 n

/-- A flag as 0 or 1 (13.4). -/
def flagByte (b : Bool) : Byte := if b then 1 else 0

/-- Byte `k` of a frame; 0 past its end. -/
def byteAt (bytes : List Byte) (k : Nat) : Byte := bytes.getD k 0

/-! ### Segment header (13.1) -/

/-- The kind code of byte 0 (13.1). -/
def SegKind.code : SegKind → Nat
  | .data => 1
  | .marker => 2
  | .test => 3

/-- The fields of a segment header (R6, 13.1). `kind` is absent for the code 0, which no segment carries. -/
structure Header where
  version : Nat
  kind : Option SegKind
  group : GroupIx
  first : Bool
  last : Bool
  field : Fin 64
  seq : Seq
  length : Nat
  deriving DecidableEq, Repr

/-- The first five header bytes a sender fills (R6, 13.1). -/
def headerBytes (kind : SegKind) (g : GroupIx) (first last : Bool) (field : Nat) (seq : Seq) (length : Nat) : List Byte :=
  [byte (64 + 16 * kind.code + 4 * g.val + 2 * first.toNat + last.toNat), byte field] ++ be 2 seq.toNat ++ [byte length]

/-- A segment as sent: header, header check, payload (R6, R7). -/
def segmentBytes (kind : SegKind) (g : GroupIx) (first last : Bool) (field : Nat) (seq : Seq) (payload : List Byte) :
    List Byte :=
  let h := headerBytes kind g first last field seq payload.length
  h ++ headerCheck h :: payload

/-- A data segment as sent (R6, R8). -/
def DataSeg.bytes (d : DataSeg) : List Byte :=
  segmentBytes .data d.group d.first d.last d.stream.val d.seq d.payload

/-- The kind a kind code names (13.1). -/
def kindOf : Nat → Option SegKind
  | 1 => some .data
  | 2 => some .marker
  | 3 => some .test
  | _ => none

/-- Read the fields of six header bytes (13.1, R187): the reserved bits of byte 1 are not judged. -/
def readHeader (h : List Byte) : Header where
  version := (byteAt h 0).toNat / 64
  kind := kindOf ((byteAt h 0).toNat / 16 % 4)
  group := Fin.ofNat 4 ((byteAt h 0).toNat / 4)
  first := (byteAt h 0).getLsbD 1
  last := (byteAt h 0).getLsbD 0
  field := Fin.ofNat 64 (byteAt h 1).toNat
  seq := BitVec.ofNat 16 (ofBe [byteAt h 2, byteAt h 3])
  length := (byteAt h 4).toNat

/-- The six header bytes with one of their 48 bits inverted: bit `k % 8` of byte `k / 8`. -/
def flipHeaderBit (h : List Byte) (k : Nat) : List Byte :=
  h.modify (k / 8) fun b => b ^^^ (1#8 <<< (k % 8))

/-- The single-bit correction of R16: the one of the 48 inversions that leaves a syndrome of 0, if there is one. -/
def correctHeader (h : List Byte) : Option (List Byte) :=
  (List.range 48).findSome? fun k =>
    let h' := flipHeaderBit h k
    if headerCheck h' = 0 then some h' else none

/-- What the header checks of R16 and R17 make of a delivered segment. -/
inductive HeaderOutcome
  | good (h : Header)
  | corrected (syndrome : Byte) (h : Header)
  | uncorrectable (syndrome : Byte)
  deriving DecidableEq, Repr

/-- The content checks of R17 over the header after any correction. -/
def contentAcceptable (h : Header) (count : Nat) : Bool :=
  decide (h.version = 1) && h.kind.isSome && decide (1 ≤ h.length) && decide (h.length ≤ 192) &&
    (h.kind != some .marker || decide (h.length = 10)) && (h.kind != some .test || decide (h.length = 64)) &&
    decide (count = 6 + h.length)

/-- R16 and R17: the syndrome, the correction and the content of a delivered segment. A delivery of fewer than 6 bytes
fails with syndrome 0. -/
def judgeHeader (bytes : List Byte) : HeaderOutcome :=
  if bytes.length < 6 then .uncorrectable 0
  else
    let raw := bytes.take 6
    let syndrome := headerCheck raw
    if syndrome = 0 then
      if contentAcceptable (readHeader raw) bytes.length then .good (readHeader raw) else .uncorrectable 0
    else
      match correctHeader raw with
      | none => .uncorrectable syndrome
      | some fixed =>
        if contentAcceptable (readHeader fixed) bytes.length then .corrected syndrome (readHeader fixed)
        else .uncorrectable syndrome

/-! ### Markers (13.2) -/

/-- The role code of a marker body and of the tables (13.2). -/
def Role.code : Role → Nat
  | .off => 0
  | .probation _ => 1
  | .active _ => 2
  | .withdrawn _ => 3
  | .draining _ => 4

/-- The group a role names. -/
def Role.group? : Role → Option GroupIx
  | .off => none
  | .probation g => some g
  | .active g => some g
  | .withdrawn g => some g
  | .draining g => some g

/-- The role a role code and a group name. -/
def roleOf (code : Nat) (g : Option GroupIx) : Option Role :=
  match code, g with
  | 0, none => some .off
  | 1, some g => some (.probation g)
  | 2, some g => some (.active g)
  | 3, some g => some (.withdrawn g)
  | 4, some g => some (.draining g)
  | _, _ => none

/-- The content of a marker body (R11); the group is the one `role` names. -/
structure MarkerBody where
  lane : LaneIx
  role : Role
  count : Byte
  aligned : LaneSet
  accepted : LaneSet
  token : BitVec 16
  deriving DecidableEq, Repr

/-- The first eight body bytes (13.2). -/
def MarkerBody.fields (m : MarkerBody) : List Byte :=
  [byte (16 * m.lane.val + (match m.role.group? with | some g => g.val | none => 15)), byte m.role.code, m.count,
    m.aligned, m.accepted] ++ be 2 m.token.toNat ++ [0]

/-- The ten body bytes, with the body check (R13, 13.2). -/
def MarkerBody.bytes (m : MarkerBody) : List Byte :=
  m.fields ++ be 2 (bodyCheck m.fields).toNat

/-- A marker as sent (R10, R11): `seq` is the lane's next sequence of R12, and with role OFF the group and the sequence of
the header are 0. -/
def markerBytes (m : MarkerBody) (seq : Seq) : List Byte :=
  match m.role.group? with
  | some g => segmentBytes .marker g false false m.role.code seq m.bytes
  | none => segmentBytes .marker 0 false false 0 0 m.bytes

/-- The checks of R19 on a marker body, with the role of the header's stream / role field; `none` is a body error. A group
nibble of 4 to Eh or a role above 4 is a body error (R187); bit 7 of byte 0 and byte 7 are not judged. -/
def readMarker (headerRole : Fin 64) (body : List Byte) : Option MarkerBody :=
  if be 2 (bodyCheck (body.take 8)).toNat ≠ body.drop 8 then none
  else
    let nibble := (byteAt body 0).toNat % 16
    let group : Option (Option GroupIx) :=
      if h : nibble < 4 then some (some ⟨nibble, h⟩) else if nibble = 15 then some none else none
    match group with
    | none => none
    | some g =>
      match roleOf (byteAt body 1).toNat g with
      | none => none
      | some role =>
        if role.code = headerRole.val then
          some ⟨Fin.ofNat 8 ((byteAt body 0).toNat / 16), role, byteAt body 2, byteAt body 3, byteAt body 4,
            BitVec.ofNat 16 (ofBe [byteAt body 5, byteAt body 6])⟩
        else none

/-! ### Test segments (R14) -/

/-- The 64 payload bytes of the test segment `q` (R14). -/
def testPattern (q : Seq) : List Byte := (List.range 64).map fun i => byte (q.toNat + i)

/-- A test segment as sent (R14). -/
def testBytes (q : Seq) : List Byte := segmentBytes .test 0 false false 0 q (testPattern q)

/-! ### Management frames (13.3) -/

/-- The bits of an origin in the flags byte (13.3). -/
def originBit : Origin → Nat
  | .localSide => 0
  | .remoteSide => 1

/-- An eight-byte management header (13.3). -/
def mgmtHeader (kind target flags : Nat) (tag : BitVec 16) (count reason : Nat) : List Byte :=
  [byte kind, byte target, byte flags] ++ be 2 tag.toNat ++ [byte count, byte reason, 0]

/-- The transaction tag of a management frame (13.3). -/
def frameTag (bytes : List Byte) : BitVec 16 := BitVec.ofNat 16 (ofBe [byteAt bytes 3, byteAt bytes 4])

/-- The stop-on-error flag of a management frame (13.3). -/
def frameStop (bytes : List Byte) : Bool := (byteAt bytes 2).getLsbD 7

/-- A REFUSAL frame with reason BUSY (R102, R146). Its stop-on-error bit is clear (DESIGN CHOICE, log 42). -/
def refusalFrame (o : Origin) (tag : BitVec 16) : List Byte := mgmtHeader 4 0 (originBit o) tag 0 1

/-- A RESPONSE frame around its result entries (R149, 13.3). -/
def responseFrame (o : Origin) (tag : BitVec 16) (stop : Bool) (count : Nat) (entries : List Byte) : List Byte :=
  mgmtHeader 2 0 (128 * stop.toNat + originBit o) tag count 0 ++ entries

/-- Result codes (13.3). -/
def ResultCode.code : ResultCode → Nat
  | .ok => 0
  | .accepted => 1
  | .denied => 2
  | .badRequest => 3
  | .badIndex => 4
  | .badValue => 5
  | .state => 6
  | .noRoom => 7
  | .conflict => 8
  | .notProcessed => 9

/-- A result entry in a RESPONSE (13.3). -/
def EntryResult.bytes (e : EntryResult) : List Byte :=
  [e.code, byte e.result.code] ++ be 2 e.data.length ++ e.data

/-- The next `n` request entries of a frame, code and parameters; `none` when one runs past the end (R148, 13.3). -/
def parseEntries : Nat → List Byte → Option (List (Byte × List Byte))
  | 0, _ => some []
  | n + 1, code :: len :: rest =>
    if rest.length < len.toNat then none
    else
      match parseEntries n (rest.drop len.toNat) with
      | none => none
      | some more => some ((code, rest.take len.toNat) :: more)
  | _ + 1, _ => none

/-- The field items of a WRITE-ENTRY, code and value; `none` when they do not fill the bytes exactly (R188). `fuel` is at
least the number of bytes. -/
def parseItems : Nat → List Byte → Option (List (Byte × List Byte))
  | _, [] => some []
  | fuel + 1, code :: len :: rest =>
    if rest.length < len.toNat then none
    else
      match parseItems fuel (rest.drop len.toNat) with
      | none => none
      | some more => some ((code, rest.take len.toNat) :: more)
  | _, _ => none

/-- A field item of a table entry (13.4). -/
def item (code : Byte) (value : List Byte) : List Byte := code :: byte value.length :: value

/-- A field held as absent is returned with length 0 (13.4). -/
def itemOpt (code : Byte) (value : Option (List Byte)) : List Byte := item code (value.getD [])

/-! ### Codes of states and causes (13.4, 13.5) -/

/-- Receive states of a lane (13.4). -/
def RxState.code : RxState → Nat
  | .down => 0
  | .search => 1
  | .aligned => 2
  | .lost => 3

/-- Reasons (13.4). -/
def Reason.code : Reason → Nat
  | .service => 1
  | .restored => 2
  | .carrier => 3
  | .markerMiss => 4
  | .errors => 5
  | .crossed => 6
  | .looped => 7
  | .noMarker => 8

/-- Associations (13.4). -/
def Assoc.code : Assoc → Nat
  | .none => 0
  | .member _ _ _ => 1
  | .suspended _ => 2

/-- Transmit states (13.4). -/
def TxState.code : TxState → Nat
  | .disabled => 0
  | .forming => 1
  | .up => 2
  | .disabling => 3

/-- Receive states of a group (13.4). -/
def CtxState.code : CtxState → Nat
  | .disabled => 0
  | .resync => 1
  | .forming => 2
  | .up => 3

/-- Capture states (13.3). -/
def CaptureState.code : CaptureState → Nat
  | .empty => 0
  | .corrected => 1
  | .uncorrectable => 2

/-- Diagnostic modes (13.3). -/
def Diag.code : Diag → Nat
  | .none => 0
  | .loopLocal => 1
  | .loopRemote => 2
  | .test => 3

/-- Classes (13.4). -/
def Cls.code : Cls → Nat
  | .normal => 0
  | .high => 1

/-- Remote access levels (13.4). -/
def RemoteAccess.code : RemoteAccess → Nat
  | .none => 0
  | .read => 1
  | .full => 2

/-- Reset causes (13.5; for the DEVICE field DEDUCED, log 22). -/
def ResetCause.code : ResetCause → Nat
  | .powerOn => 1
  | .requested => 2

/-- Outcomes (13.3). -/
def OpOutcome.code : OpOutcome → Nat
  | .done => 1
  | .timeout => 2
  | .aborted => 3
  | .laneFault => 4
  | .doneWithLoss => 5

/-- Causes of LANE-ROLE (13.5). -/
def RoleCause.code : RoleCause → Nat
  | .add => 1
  | .accepted => 2
  | .notAccepted => 3
  | .remove => 4
  | .drained => 5
  | .loss => 6
  | .fault => 7
  | .timeout => 8
  | .disable => 9

/-- Causes of RECEIVE-SET (13.5). -/
def SetCause.code : SetCause → Nat
  | .admitted => 1
  | .left => 2
  | .lost => 3
  | .skew => 4
  | .restored => 5
  | .mismatch => 6

/-- The request code of a long operation (13.3). -/
def OpKind.code : OpKind → Nat
  | .laneAdd _ => 0x0A
  | .laneRemove _ => 0x0B
  | .groupDisable _ => 0x08

/-- The lane or group a long operation acts on (R160). -/
def OpKind.subject : OpKind → Nat
  | .laneAdd l => l.val
  | .laneRemove l => l.val
  | .groupDisable g => g.val

/-- A whole-byte group: FFh is NONE (13). -/
def groupByte : Option GroupIx → Byte
  | none => 0xFF
  | some g => byte g.val

/-- An operation tag: bits 15 to 12 the slot, bits 11 to 0 the generation (13.3). -/
def tagBytes (slot : SlotIx) (gen : BitVec 12) : List Byte := be 2 (4096 * slot.val + gen.toNat)

/-! ### Notification records (13.5) -/

/-- Kind code, subject bytes and detail bytes of a record (13.5). Where a role or association names no group the byte is
FFh (13, first paragraph). -/
def NoteBody.parts : NoteBody → Nat × List Byte × List Byte
  | .resetDone c => (1, [0, 0], [byte c.code])
  | .laneState l old new r => (2, [0, byte l.val], [byte old.code, byte new.code, byte r.code])
  | .laneRole l old new c =>
    (3, [0, byte l.val], [byte old.code, groupByte old.group?, byte new.code, groupByte new.group?, byte c.code])
  | .receiveSet l old new g c => (4, [0, byte l.val], [byte old.code, byte new.code, byte g.val, byte c.code])
  | .groupTx g old new => (5, [0, byte g.val], [1, byte old.code, byte new.code])
  | .groupRx g old new => (5, [0, byte g.val], [2, byte old.code, byte new.code])
  | .opDone slot gen op o => (6, tagBytes slot gen, [byte op.code, byte o.code])
  | .capture l sev syn => (7, [0, byte l.val], [byte sev.code, syn])
  | .poolExhausted g free => (8, [0, byte g.val], be 2 free)
  | .overflow n => (9, [0, 0], be 4 n)

/-- The 16 bytes of a record (13.5). -/
def Note.bytes (n : Note) : List Byte :=
  let (kind, subject, detail) := n.body.parts
  be 4 n.seq.toNat ++ [byte kind] ++ subject ++ be 4 n.time.toNat ++ detail ++ List.replicate (5 - detail.length) 0

/-- A NOTIFICATION frame of some records (R177, 13.3). -/
def notificationFrame (notes : List Note) : List Byte :=
  mgmtHeader 3 0 0 0 notes.length 0 ++ (notes.map Note.bytes).flatten

end Sys2Proof.Machine
end

