-- ==== Sys2Proof/Machine/Flags.lean ====
section
/-! DEFINITION. What the part reads off its state: the maps, counts and conditions that rules name and no field stores. -/

namespace Sys2Proof.Machine

/-! ### Lane sets -/

/-- The set of the lanes that meet `p`: bit L stands for lane L (13). -/
def laneSet (p : LaneIx → Bool) : LaneSet :=
  BitVec.ofNat 8 ((allLanes.map fun l => if p l then 2 ^ l.val else 0).sum)

/-- Lane `l` is in a lane set. -/
def inSet (set : LaneSet) (l : LaneIx) : Bool := set.getLsbD l.val

/-- How many lanes meet `p`. -/
def laneCountOf (p : LaneIx → Bool) : Nat := (allLanes.filter p).length

/-! ### Associations and roles -/

/-- The association is MEMBER of group `g`. -/
def Assoc.memberOf (a : Assoc) (g : GroupIx) : Bool :=
  match a with
  | .member h _ _ => decide (h = g)
  | _ => false

/-- The association is MEMBER of some group. -/
def Assoc.isMember : Assoc → Bool
  | .member _ _ _ => true
  | _ => false

/-- The group an association names. -/
def Assoc.group? : Assoc → Option GroupIx
  | .none => Option.none
  | .member g _ _ => some g
  | .suspended g => some g

/-- The passed mark of a member lane (R36). -/
def Assoc.mark? : Assoc → Option Seq
  | .member _ m _ => some m
  | _ => Option.none

/-- The skew strike count of a member lane (R36). -/
def Assoc.strikes? : Assoc → Option Nat
  | .member _ _ k => some k
  | _ => Option.none

/-- Set a member's passed mark. -/
def Assoc.withMark (a : Assoc) (f : Seq → Seq) : Assoc :=
  match a with
  | .member g m k => .member g (f m) k
  | a => a

/-- Set a member's skew strike count. -/
def Assoc.withStrikes (a : Assoc) (k : Nat) : Assoc :=
  match a with
  | .member g m _ => .member g m k
  | a => a

/-- Lane `l` is in the receive set of `g` (R36). -/
def State.isMember (s : State) (g : GroupIx) (l : LaneIx) : Bool := (s.lane l).assoc.memberOf g

/-- Members of the receive set of `g` (R37). -/
def State.memberCount (s : State) (g : GroupIx) : Nat := laneCountOf (s.isMember g)

/-- The lane's role is ACTIVE naming `g`. -/
def State.isActive (s : State) (g : GroupIx) (l : LaneIx) : Bool := decide ((s.lane l).role = .active g)

/-- ACTIVE lanes of `g` (R136). -/
def State.activeCount (s : State) (g : GroupIx) : Nat := laneCountOf (s.isActive g)

/-- The member map of `g` (R62). -/
def State.memberMap (s : State) (g : GroupIx) : LaneSet := laneSet (s.isMember g)

/-- The active map of `g` (R125). -/
def State.activeMap (s : State) (g : GroupIx) : LaneSet := laneSet (s.isActive g)

/-- The aligned map this part sends (R11, R27). -/
def State.alignedMap (s : State) : LaneSet := laneSet fun l => decide ((s.lane l).rx = .aligned)

/-- The accepted map this part sends (R11). -/
def State.acceptedMap (s : State) : LaneSet := laneSet fun l => (s.lane l).assoc.isMember

/-- A lane in no diagnostic mode is ALIGNED (R129). -/
def State.someAligned (s : State) : Bool :=
  allLanes.any fun l => decide ((s.lane l).rx = .aligned) && decide ((s.lane l).diag = .none)

/-- The lane belongs to the disable set of a GROUP-DISABLE in flight (R157). -/
def State.inDisableSet (s : State) (l : LaneIx) : Bool :=
  allGroups.any fun g =>
    match (s.group g).disable with
    | some d => inSet d.set l
    | none => false

/-- The lane is engaged (R157). -/
def State.engaged (s : State) (l : LaneIx) : Bool := (s.lane l).op.isSome || s.inDisableSet l

/-! ### Receive side -/

/-- The carrier as the Lane Receiver takes it: present throughout in LOOP-LOCAL (R15). -/
def State.carrier (s : State) (l : LaneIx) : Bool := (s.lane l).cdPresent || decide ((s.lane l).diag = .loopLocal)

/-- An interval is good (R22). -/
def intervalGood (r : IntervalRecord) (errorLimit : Nat) : Bool :=
  !r.carrierAbsent && r.markerSeen && r.originFault.isNone && decide (r.errorCount < errorLimit)

/-- The context is in FORMING or UP. -/
def CtxState.live : CtxState → Bool
  | .forming => true
  | .up => true
  | _ => false

/-- The reorder store holds an entry with sequence `q` (R41). -/
def stored (store : List DataSeg) (q : Seq) : Bool := store.any fun d => decide (d.seq = q)

/-- The fast-skip condition of R50 at the expected sequence `e`. -/
def State.fastSkip (s : State) (g : GroupIx) (e : Seq) : Bool :=
  (s.group g).ctx.live && !stored (s.group g).store e && decide (0 < s.memberCount g) &&
    allLanes.all fun l =>
      match (s.lane l).assoc with
      | .member h m _ => !decide (h = g) || atOrAhead m e
      | _ => true

/-- The accumulated length of a chain of buffers (R64). -/
def chainLength (chain : List (List Byte)) : Nat := (chain.map List.length).sum

/-! ### Pool and transmit side -/

/-- The group's reservation counts: from GROUP-ENABLE to the completion of GROUP-DISABLE (R82). -/
def GroupState.enabled (x : GroupState) : Bool := decide (x.tx ≠ .disabled)

/-- The unfilled reservation (R82). -/
def GroupState.unfilled (x : GroupState) : Nat := if x.enabled then x.reservation - x.heldCount else 0

/-- The unfilled reservations of the enabled groups other than `g` (R84). -/
def State.othersUnfilled (s : State) (g : GroupIx) : Nat :=
  ((allGroups.filter fun h => decide (h ≠ g)).map fun h => (s.group h).unfilled).sum

/-- The bonded lengths of a group's queued frames, "store bytes" (R97). -/
def GroupState.storeBytes (x : GroupState) : Nat :=
  (x.high.map fun f => f.bonded.length).sum + (x.normal.map fun f => f.bonded.length).sum

/-- A class queue of a group (R96). -/
def GroupState.classQueue (x : GroupState) : Cls → List TxFrame
  | .high => x.high
  | .normal => x.normal

/-- Lane `l` is eligible for group `g` (R109). -/
def State.eligible (s : State) (g : GroupIx) (l : LaneIx) : Bool :=
  s.isActive g l && !s.txInhibit && decide ((s.lane l).diag = .none) &&
    decide ((s.lane l).queue.length < Config.laneQueueMax)

/-- The Segmenter of the group works (R106). -/
def TxState.cutting : TxState → Bool
  | .forming => true
  | .up => true
  | _ => false

/-- The conditions of a placement for `g` (R108). -/
def State.canPlace (s : State) (g : GroupIx) : Bool :=
  (s.group g).tx.cutting && (!(s.group g).high.isEmpty || !(s.group g).normal.isEmpty) && allLanes.any (s.eligible g)

/-- What a Lane Transmitter chooses to send (R117, R183, R184, R185). -/
inductive TxChoice | urgent | data | opportunistic | test | returned
  deriving DecidableEq, Repr

/-- The lane may send (R117, R120). -/
def State.maySend (s : State) (l : LaneIx) : Bool :=
  (s.lane l).inService && !s.txInhibit && (s.lane l).flight.isNone

/-- The choice of R117, by diagnostic mode (R183, R184, R185); `none` is an idle lane. -/
def State.txChoice (s : State) (l : LaneIx) : Option TxChoice :=
  let x := s.lane l
  if !s.maySend l then none
  else
    match x.diag with
    | .none =>
      if s.dev.urgentLevel ≤ x.debt then some .urgent
      else if !x.queue.isEmpty then some .data
      else if 1 ≤ x.debt then some .opportunistic
      else none
    | .loopLocal =>
      if s.dev.urgentLevel ≤ x.debt then some .urgent
      else if 1 ≤ x.debt then some .opportunistic
      else none
    | .test => if s.dev.urgentLevel ≤ x.debt then some .urgent else some .test
    | .loopRemote => if !x.returnQueue.isEmpty then some .returned else none

/-! ### Management -/

/-- A stored frame is the response of an executed DEVICE-RESET and is the one in flight on local egress (R162). -/
def State.resetResponseInFlight (s : State) : Bool :=
  match s.egressBusy, s.mgmtOut with
  | some .management, f :: _ => f.carriesReset
  | _, _ => false

/-- The sequence of the record most recently queued (R175). -/
def State.newestNote (s : State) : BitVec 32 := s.nextNote - 1

/-- What remote access allows (R151): the request code and, for READ-COUNTERS, whether it asks for a clear. -/
def accessAllows (o : Origin) (access : RemoteAccess) (code : Byte) (clears : Bool) : Bool :=
  match o, access with
  | .localSide, _ => true
  | .remoteSide, .none => false
  | .remoteSide, .read =>
    decide (code = 0x01) || decide (code = 0x02) || (decide (code = 0x04) && !clears) || decide (code = 0x05) ||
      decide (code = 0x0E)
  | .remoteSide, .full => decide (code ≠ 0x10)

end Sys2Proof.Machine
end

