-- ==== Sys2Proof/Machine/Egress.lean ====
section
/-! DEFINITION. The Egress Arbiter and the management output queue (chapter 4). -/

namespace Sys2Proof.Machine

/-! ### What is sent on the Local Frame Port (R4, R77) -/

/-- A data frame as it is sent: its stream, and the first B - 4 bytes of its chain, B being the bonded length; the frame
check is stripped (R4, R77). -/
def EgressFrame.sent (f : EgressFrame) : PortFrame := ⟨f.stream, f.chain.flatten.take (chainLength f.chain - 4)⟩

/-- A management frame is sent as it stands in the management output queue, with stream 0 (R77). -/
def MgmtFrame.sent (f : MgmtFrame) : PortFrame := ⟨0, f.bytes⟩

/-- The frame in flight on the Local Frame Port egress: the head of the queue that the Egress Arbiter serves, as it is sent
(R73, R75, R77); none while the egress is idle. -/
def State.onPort (s : State) : Option PortFrame :=
  match s.egressBusy with
  | none => none
  | some .management => s.mgmtOut.head?.map MgmtFrame.sent
  | some (.group g) => (s.group g).egress.head?.map EgressFrame.sent

/-! ### The Egress Arbiter (R75, R76) -/

/-- The groups in the order the arbiter looks at them: from the one after the last served, wrapping from 3 to 0 (R75). -/
def serveOrder (lastServed : GroupIx) : List GroupIx :=
  [lastServed + 1, lastServed + 2, lastServed + 3, lastServed]

/-- A frame boundary (R75, R76): if the egress is idle and not paused, the next frame begins. -/
def arbitrate (s : State) : State :=
  if s.egressBusy.isSome || s.egressPause then s
  else if !s.mgmtOut.isEmpty then { s with egressBusy := some .management }
  else
    match (serveOrder s.lastServed).find? fun g => !(s.group g).egress.isEmpty with
    | some g => { s with egressBusy := some (.group g), lastServed := g }
    | none => s

/-! ### The queues for local egress (R73, R74) -/

/-- The management output queue has room (R74). -/
def State.mgmtRoom (s : State) : Bool := decide (s.mgmtOut.length < Config.mgmtOutMax)

/-- A frame joins the management output queue at its tail (R74); an idle, unpaused egress is at a boundary (R75). -/
def mgmtJoin (f : MgmtFrame) (s : State) : State := arbitrate { s with mgmtOut := s.mgmtOut ++ [f] }

/-- A data frame joins its group's egress queue (R69, R70), with the boundary of R75. -/
def egressJoin (g : GroupIx) (f : EgressFrame) (s : State) : State :=
  arbitrate ((s.modGroup g fun x => { x with egress := x.egress ++ [f] }).countGroup g .framesAssembled)

end Sys2Proof.Machine
end

