-- ==== Sys2Proof/Machine/Notify.lean ====
section
/-! DEFINITION. The Notification Unit (chapter 11): posting, offering, the retry timer, and the commands RETRY_EXPIRY and
NOTIFICATION_OFFER. -/

namespace Sys2Proof.Machine

/-- A record joins the queue with the next notification sequence, not sent (R175). -/
def queueNote (body : NoteBody) (s : State) : State :=
  { s with
    notes := s.notes ++ [Note.mk s.nextNote body s.timebase false]
    nextNote := s.nextNote + 1 }.countDev .notificationsPosted

/-- A post finds no room: the tally rises, holding at its top value (R175, R176). -/
def loseNote (s : State) : State :=
  { s with tally := min (s.tally + 1) 4294967295 }.countDev .notificationsLost

/-- The OVERFLOW record is queued with the tally, which becomes 0 (R176). -/
def queueOverflow (s : State) : State := { queueNote (.overflow s.tally) s with tally := 0 }

/-- The retry timer starts, or starts afresh (R178). -/
def startRetry (s : State) : State := { s with retry := some (s.after (ms s.dev.retryInterval)) }

/-- Mark the first `n` unsent records sent (R175). -/
def markSent : Nat → List Note → List Note
  | 0, notes => notes
  | _, [] => []
  | n + 1, r :: rest => if r.sent then r :: markSent (n + 1) rest else { r with sent := true } :: markSent n rest

/-- The records of a first-send frame (R177). -/
def State.unsentNotes (s : State) : List Note := (s.notes.filter fun r => !r.sent).take Config.notesPerFrame

/-- The records of a resend frame (R178). -/
def State.resendNotes (s : State) : List Note := (s.notes.filter fun r => r.sent).take Config.notesPerFrame

/-- The output queue takes a first-send frame (R177). -/
def takeFirstSend (s : State) : State :=
  let s1 := mgmtJoin ⟨notificationFrame s.unsentNotes, false⟩
    ({ s with notes := markSent Config.notesPerFrame s.notes }.countDev .notificationFramesQueued)
  if s.retry.isNone && !s.resendPending then startRetry s1 else s1

/-- The output queue takes a resend frame (R178). -/
def takeResend (s : State) : State :=
  startRetry (mgmtJoin ⟨notificationFrame s.resendNotes, false⟩
    (({ s with resendPending := false }.countDev .resendFramesQueued).countDev .recordsResent s.resendNotes.length))

/-- The next frame the unit has to send is taken, a pending resend before a first-send frame; `none` when the output queue
refuses it or nothing is left to send (R177, R178). -/
def offerOnce (s : State) : Option State :=
  if !s.mgmtRoom then none
  else if s.resendPending && !s.resendNotes.isEmpty then some (takeResend s)
  else if !s.unsentNotes.isEmpty then some (takeFirstSend s)
  else none

/-- Offer frames one after another, at most `n` (R177). -/
def offerUpTo : Nat → State → State
  | 0, s => s
  | n + 1, s =>
    match offerOnce s with
    | none => s
    | some s' => offerUpTo n s'

/-- The offers of one event (R177). Every frame taken fills a place of the output queue, so there are at most as many as
it has places. -/
def offerNotes (s : State) : State := offerUpTo Config.mgmtOutMax s

/-- The queue has room for a record (R176). -/
def State.noteRoom (s : State) : Bool := decide (s.notes.length < Config.noteQueueMax)

/-- One post at the Notification Unit (R176), with the offers it makes (R177; log 29). -/
def post (body : NoteBody) (s : State) : State :=
  if !s.noteRoom then loseNote s
  else if s.tally = 0 then offerNotes (queueNote body s)
  else
    let s1 := queueOverflow s
    offerNotes (if s1.noteRoom then queueNote body s1 else loseNote s1)

/-- NOTIFY-ACK at the Notification Unit (R179): the records at or behind `n` leave from the old end (R175; log 36), the timer
is set by R178, and a tally above 0 becomes an OVERFLOW record when room was freed. Where it restarts the timer, an expiry
that was due with it is gone (DESIGN CHOICE, log 49). -/
def acknowledge (n : BitVec 32) (s : State) : State :=
  let kept := s.notes.dropWhile fun r => !aheadOf r.seq n
  let removed := s.notes.length - kept.length
  let s1 := { s with notes := kept }.countDev .recordsAcknowledged removed
  let s2 :=
    if !kept.any (·.sent) then { s1 with retry := none, resendPending := false }
    else if decide (0 < removed) && !s.resendPending then startRetry s1
    else s1
  if decide (0 < removed) && decide (0 < s.tally) then offerNotes (queueOverflow s2) else s2

/-- The retry timer's expiry (R178): a resend falls due and is offered, then what is unsent. -/
def retryExpires (s : State) : State :=
  match s.retry with
  | none => s
  | some e => offerNotes ({ s.passTo e with retry := none, resendPending := true }.countDev .retryExpiries)

/-- RETRY_EXPIRY (R178). A stopped timer has no expiry (log 4). -/
def execRetryExpiry (s : State) : Host.Outcome State Fault Refusal := .next (retryExpires s)

/-- NOTIFICATION_OFFER (R177): room in the management output queue. The offer is an event of its own, which other commands
may precede (DESIGN CHOICE, log 51). -/
def execNotificationOffer (s : State) : Host.Outcome State Fault Refusal := .next (offerNotes s)

end Sys2Proof.Machine
end

