-- ==== Sys2Proof/Machine/Pool.lean ====
section
/-! DEFINITION. The Segment Buffer Pool (chapter 5). -/

namespace Sys2Proof.Machine

/-- The two kinds of grant (R84). -/
inductive Grant | reserved | shared
  deriving DecidableEq, Repr

/-- The judgment of a request of group `g` (R84); `none` is a refusal. -/
def State.judgeRequest (s : State) (g : GroupIx) : Option Grant :=
  if s.poolFree = 0 then none
  else if (s.group g).heldCount < (s.group g).reservation then some .reserved
  else if s.othersUnfilled g < s.poolFree then some .shared
  else none

/-- The counter a grant raises (R85). -/
def Grant.counter : Grant → GroupCtr
  | .reserved => .reservedGrants
  | .shared => .sharedGrants

/-- A grant moves one buffer to `g` (R80), arms its exhaustion flag (R89), updates the low-water mark (R90) and is
counted (R85). -/
def grantBuffer (g : GroupIx) (k : Grant) (s : State) : State :=
  (({ s with poolFree := s.poolFree - 1, poolLow := min s.poolLow (s.poolFree - 1) } : State).modGroup g fun x =>
    { x with heldCount := x.heldCount + 1, armed := true }).countGroup g k.counter

/-- A refusal for `g` (R89): while the flag is armed, POOL-EXHAUSTED is posted and the flag disarmed. -/
def refuseBuffer (g : GroupIx) (s : State) : State :=
  if (s.group g).armed then post (.poolExhausted g s.poolFree) (s.modGroup g fun x => { x with armed := false }) else s

/-- `n` buffers of group `g` go back (R80, R87). In every reachable state the group holds at least `n`; a release moves
no more than the group holds, so that law L1 holds of every state (log 23). -/
def releaseBuffers (g : GroupIx) (n : Nat) (s : State) : State :=
  let k := min n (s.group g).heldCount
  (({ s with poolFree := s.poolFree + k } : State).modGroup g fun x =>
    { x with heldCount := x.heldCount - k }).countGroup g .buffersReturned k

end Sys2Proof.Machine
end

