-- ==== Sys2Proof/Machine/Admission.lean ====
section
/-! DEFINITION. Class queues, the Transmit Store, the group-hold outputs, the two management intakes and the Ingress
Classifier (chapter 6, R145, R146), with the command INGRESS_FRAME_TAKEN. -/

namespace Sys2Proof.Machine

/-! ### Class queues and store -/

/-- The judgment of the group-hold output of `g` (R100). -/
def judgeHold (g : GroupIx) (s : State) : State :=
  let x := s.group g
  if x.hold then
    if x.high.length + 4 ≤ x.holdLevel ∧ x.normal.length + 4 ≤ x.holdLevel then
      s.modGroup g fun y => { y with hold := false }
    else s
  else if x.holdLevel ≤ x.high.length ∨ x.holdLevel ≤ x.normal.length then
    (s.modGroup g fun y => { y with hold := true }).countGroup g .holdAssertions
  else s

/-- A frame joins the class-`c` queue of `g` (R95, R96, R97): its bonded bytes leave the store's free count, the GROUP
counters rise, and the group-hold output is judged. -/
def enqueueTx (g : GroupIx) (c : Cls) (stream : StreamIx) (payload : List Byte) (s : State) : State :=
  let f : TxFrame := ⟨stream, payload ++ be 4 (frameCheck stream payload).toNat⟩
  let s1 : State := { s with
    storeFree := s.storeFree - f.bonded.length
    storeLow := min s.storeLow (s.storeFree - f.bonded.length) }
  let s2 := s1.modGroup g fun x =>
    match c with
    | .high => { x with high := x.high ++ [f] }
    | .normal => { x with normal := x.normal ++ [f] }
  judgeHold g ((s2.countGroup g .framesAdmitted).countGroup g .bytesAdmitted payload.length)

/-- An admission with the STREAM counters of R95 (for stream 0, those of R103 and R104). -/
def admitFrame (g : GroupIx) (c : Cls) (stream : StreamIx) (payload : List Byte) (s : State) : State :=
  enqueueTx g c stream payload
    ((s.countStream stream .ingressFrames).countStream stream .ingressBytes payload.length)

/-- The store has room for a payload with its check (R93, R103, R104). -/
def State.storeRoom (s : State) (payloadLength : Nat) : Bool := decide (payloadLength + 4 ≤ s.storeFree)

/-- The answers of the management group's HIGH queue to an offer (R104). -/
inductive TxAnswer
  | taken (g : GroupIx)
  | refused
  | discarded
  deriving DecidableEq, Repr

/-- The judgment of an offer to the HIGH queue of the management group (R104). -/
def State.judgeOffer (s : State) (payloadLength : Nat) : TxAnswer :=
  match s.dev.mgmtGroup with
  | none => .discarded
  | some g =>
    if (s.group g).tx ≠ .up then .discarded
    else if Config.classQueueMax ≤ (s.group g).high.length ∨ !s.storeRoom payloadLength then .refused
    else .taken g

/-! ### The intake from the bond (R145, R146) -/

/-- A REMOTE request at the request queue (R146): it joins, or is refused with a BUSY REFUSAL offered to the management
group's HIGH queue and not offered again (log 20). -/
def remoteRequest (frame : List Byte) (s : State) : State :=
  if s.requestQueue.length < Config.requestQueueMax then
    ({ s with requestQueue := s.requestQueue ++ [⟨.remoteSide, frame⟩] } : State).countDev .remoteRequestsTaken
  else
    let s1 := s.countDev .remoteRefused
    let refusal := refusalFrame .remoteSide (frameTag frame)
    match s1.judgeOffer refusal.length with
    | .taken g => admitFrame g .high 0 refusal s1
    | _ => s1

/-- A management frame from the bond (R145), judged by its length and its header. -/
def bondIntake (frame : List Byte) (s : State) : State :=
  if Config.mgmtFrameMax < frame.length ∨ frame.length < 8 then s.countDev .malformed
  else
    match (byteAt frame 0).toNat with
    | 1 => remoteRequest frame s
    | 2 => relayUp s
    | 4 => relayUp s
    | _ => s.countDev .malformed
where
  /-- A RESPONSE or REFUSAL goes up to the local manager unchanged, or is lost. -/
  relayUp (s : State) : State :=
    if s.mgmtRoom then mgmtJoin ⟨frame, false⟩ (s.countDev .relayedUp) else s.countDev .relayedUpLost

/-! ### The local intake (R101 to R103) -/

/-- A local request for this part (R102). -/
def localRequest (frame : List Byte) (s : State) : State :=
  if s.requestQueue.length < Config.requestQueueMax then
    ({ s with requestQueue := s.requestQueue ++ [⟨.localSide, frame⟩] } : State).countDev .managementFramesTaken
  else
    let s1 := s.countDev .refused
    if s1.mgmtRoom then mgmtJoin ⟨refusalFrame .localSide (frameTag frame), false⟩ s1 else s1

/-- The relay of a local request to the peer (R103). -/
def relayToPeer (frame : List Byte) (s : State) : State :=
  match s.judgeOffer frame.length with
  | .taken g => admitFrame g .high 0 frame (s.countDev .relayedToPeer)
  | _ => s.countDev .relayFailed

/-- The management intake from the local side (R101). -/
def localIntake (frame : List Byte) (s : State) : State :=
  if Config.mgmtFrameMax < frame.length ∨ frame.length < 8 then s.countDev .malformed
  else if byteAt frame 0 ≠ 1 then s.countDev .malformed
  else
    match (byteAt frame 1).toNat with
    | 1 => localRequest frame s
    | 2 => relayToPeer frame s
    | _ => s.countDev .malformed

/-! ### The Ingress Classifier (R92, R93) -/

/-- The judgment of R93 on a data frame of a valid stream, from step 4 on. -/
def classifyData (x : StreamIx) (payload : List Byte) (s : State) : State :=
  let e := s.stream x
  let n := payload.length
  if n < 16 ∨ e.maxLen < n then s.countStream x .length
  else if (s.group e.group).tx ≠ .up then (s.countStream x .groupDown).countGroup e.group .groupDown
  else if Config.classQueueMax ≤ ((s.group e.group).classQueue e.cls).length then
    (s.countStream x .queueFull).countGroup e.group .queueFull
  else if !s.storeRoom n then (s.countStream x .storeFull).countGroup e.group .storeFull
  else admitFrame e.group e.cls x payload s

/-- The judgment of R93. -/
def classify (x : StreamIx) (errorMark : Bool) (payload : List Byte) (s : State) : State :=
  if errorMark then s.countStream x .ingressError
  else if x = 0 then localIntake payload s
  else if !(s.stream x).valid then s.countStream x .unknownStream
  else classifyData x payload s

/-- The taking of a frame from the port (R92): nothing is taken while the RESET input is asserted, and a frame whose
arrival began before a reset is dropped uncounted. -/
def takeIngress (x : StreamIx) (errorMark straddlesReset : Bool) (payload : List Byte) (s : State) : State :=
  if s.resetAsserted || straddlesReset then s
  else classify x errorMark payload (s.countDev .ingressFramesTaken)

/-- INGRESS_FRAME_TAKEN (R92). -/
def execIngressFrameTaken (x : StreamIx) (errorMark straddlesReset : Bool) (payload : List Byte) (s : State) :
    Host.Outcome State Fault Refusal :=
  .next (takeIngress x errorMark straddlesReset payload s)

end Sys2Proof.Machine
end

