-- ==== Sys2Proof/Machine/Assembly.lean ====
section
/-! DEFINITION. The Frame Assembler (chapter 4, R64 to R71). -/

namespace Sys2Proof.Machine

/-- A good data frame joins its egress queue, or becomes the held frame when the queue holds 64 (R69). -/
def handOnData (g : GroupIx) (f : EgressFrame) (s : State) : State :=
  if (s.group g).egress.length < Config.egressQueueMax then egressJoin g f s
  else (s.modGroup g fun x => { x with held := some f }).countGroup g .assemblerBlocks

/-- A good management frame goes to the intake from the bond when `g` is the management group, and is discarded
otherwise; its buffers go back either way (R69). -/
def handOnManagement (g : GroupIx) (buffers : Nat) (frame : List Byte) (s : State) : State :=
  let s1 := releaseBuffers g buffers s
  if s.dev.mgmtGroup = some g then bondIntake frame (s1.countGroup g .managementHandedUp)
  else s1.countGroup g .managementOffGroup

/-- A completed frame is judged (R68) and handed on (R69). The partial frame has already left the assembler. -/
def judgeFrame (g : GroupIx) (p : Building) (s : State) : State :=
  let bonded := p.chain.flatten
  let discard (c : GroupCtr) : State := (releaseBuffers g p.chain.length s).countGroup g c
  if bonded.length < (if p.stream = 0 then 12 else 20) then discard .shortFrame
  else
    let payload := bonded.take (bonded.length - 4)
    if bonded.drop (bonded.length - 4) ≠ be 4 (frameCheck p.stream payload).toNat then discard .badFrameCheck
    else if !(s.stream p.stream).valid then discard .unknownStream
    else if p.stream = 0 then handOnManagement g p.chain.length payload s
    else handOnData g ⟨p.stream, p.chain⟩ s

/-- The partial frame is replaced. -/
def setBuilding (g : GroupIx) (b : Option Building) (s : State) : State :=
  s.modGroup g fun x => { x with building := b }

/-- A segment that began or joined the frame `p`: LAST completes the frame (R65). -/
def extendFrame (g : GroupIx) (p : Building) (last : Bool) (s : State) : State :=
  if last then judgeFrame g p (setBuilding g none s) else setBuilding g (some p) s

/-- A partial frame is discarded as broken, with `extra` more buffers (R65, R66, R67). -/
def breakFrame (g : GroupIx) (p : Building) (extra : Nat) (s : State) : State :=
  (setBuilding g none (releaseBuffers g (p.chain.length + extra) s)).countGroup g .brokenFrame

/-- awaiting first is set or cleared. -/
def setAwaiting (g : GroupIx) (b : Bool) (s : State) : State :=
  s.modGroup g fun x => { x with awaitingFirst := b }

/-- A segment that carries FIRST begins a frame; a partial frame present is broken (R65). -/
def assembleFirst (g : GroupIx) (d : DataSeg) (s : State) : State :=
  let s1 :=
    match (s.group g).building with
    | some p => breakFrame g p 0 s
    | none => s
  extendFrame g ⟨d.stream, [d.payload]⟩ d.last (setAwaiting g false s1)

/-- A segment without FIRST (R65, R66). -/
def assembleRest (g : GroupIx) (d : DataSeg) (s : State) : State :=
  if (s.group g).awaitingFirst then (releaseBuffers g 1 s).countGroup g .awaitingFirst
  else
    match (s.group g).building with
    | none => (releaseBuffers g 1 s).countGroup g .orphanSegment
    | some p =>
      if d.stream ≠ p.stream ∨ Config.bondedMax < chainLength p.chain + d.payload.length then
        setAwaiting g true (breakFrame g p 1 s)
      else extendFrame g ⟨p.stream, p.chain ++ [d.payload]⟩ d.last s

/-- A delivered segment at the Frame Assembler (R65). -/
def assemble (g : GroupIx) (d : DataSeg) (s : State) : State :=
  if d.first then assembleFirst g d s else assembleRest g d s

/-- A loss notice at the Frame Assembler (R67). A held frame is not touched. -/
def lossNotice (g : GroupIx) (s : State) : State :=
  setAwaiting g true
    (match (s.group g).building with
    | some p => breakFrame g p 0 s
    | none => s)

/-- The discard instruction (R71). -/
def discardInstruction (g : GroupIx) (s : State) : State :=
  let s1 :=
    match (s.group g).building with
    | some p => (setBuilding g none (releaseBuffers g p.chain.length s)).countGroup g .assemblyDiscard
    | none => s
  let s2 :=
    match (s.group g).held with
    | some f =>
      ((releaseBuffers g f.chain.length s1).modGroup g fun x => { x with held := none }).countGroup g .assemblyDiscard
    | none => s1
  setAwaiting g true s2

end Sys2Proof.Machine
end

