-- ==== Sys2Proof/Machine/Resequence.lean ====
section
/-! DEFINITION. The receive context of a group (chapter 3): arrival, delivery, holes, markers, RESYNC and DISABLED, with
the command HOLE_TIMER_EXPIRY. -/

namespace Sys2Proof.Machine

/-! ### State, timer and resolution -/

/-- The receive state changes and GROUP-STATE is posted (R37); an unchanged state posts none. -/
def setCtx (g : GroupIx) (new : CtxState) (s : State) : State :=
  let old := (s.group g).ctx
  if old = new then s else post (.groupRx g old new) (s.modGroup g fun x => { x with ctx := new })

/-- The expected sequence while the context has one and is in FORMING or UP. -/
def State.waitsAt (s : State) (g : GroupIx) : Option Seq :=
  if (s.group g).ctx.live then (s.group g).expected else none

/-- The hole timer at the end of a resolution (R48). -/
def setHoleTimer (g : GroupIx) (s : State) : State :=
  let x := s.group g
  let timer : Option HoleTimer :=
    match s.waitsAt g with
    | none => none
    | some e =>
      if stored x.store e || x.store.isEmpty then none
      else
        match x.hole with
        | some h => if h.startedAt = e then some h else some ⟨s.after x.holeTime, e⟩
        | none => some ⟨s.after x.holeTime, e⟩
  s.modGroup g fun y => { y with hole := timer }

/-- Delivery of the entry `d` at the expected sequence (R45). -/
def deliver (g : GroupIx) (d : DataSeg) (s : State) : State :=
  assemble g d
    ((s.modGroup g fun x =>
      { x with store := x.store.filter fun y => decide (y.seq ≠ d.seq), expected := some (d.seq + 1) }).countGroup g
        .delivered)

/-- A fast skip of the expected sequence `e` (R50). Each skip gives the loss notice of R51: a notice that follows another
with no delivery between them leaves the Frame Assembler as the first left it (R67). -/
def skipFast (g : GroupIx) (e : Seq) (s : State) : State :=
  lossNotice g ((s.modGroup g fun x => { x with expected := some (e + 1) }).countGroup g .skippedFast)

/-- One step of the resolution (R47): a delivery or a fast skip, or `none` when neither case applies. -/
def resolveOnce (g : GroupIx) (s : State) : Option State :=
  match s.waitsAt g with
  | none => none
  | some e =>
    match (s.group g).store.find? fun d => decide (d.seq = e) with
    | some d => if (s.group g).held.isNone then some (deliver g d s) else none
    | none => if s.fastSkip g e then some (skipFast g e s) else none

/-- At most `n` steps of the resolution. -/
def resolveUpTo : Nat → GroupIx → State → State
  | 0, _, s => s
  | n + 1, g, s =>
    match resolveOnce g s with
    | none => s
    | some s' => resolveUpTo n g s'

/-- The resolution of R47, ending with the hole timer. Each step takes the expected sequence one further, and no resolution
takes it once round the circle: fast skip stops behind a passed mark, and at most the stored entries are delivered
(log 25). -/
def resolve (g : GroupIx) (s : State) : State :=
  setHoleTimer g (resolveUpTo (65536 + (s.group g).store.length) g s)

/-! ### Arrival (R41 to R44) -/

/-- Put `d` into the store, ordered by distance from the expected sequence (R36). -/
def insertStore (e : Seq) (d : DataSeg) : List DataSeg → List DataSeg
  | [] => [d]
  | x :: rest => if dist e d.seq < dist e x.seq then d :: x :: rest else x :: insertStore e d rest

/-- Steps 5 and 6 of R41. -/
def placeArrival (g : GroupIx) (d : DataSeg) (e : Seq) (s : State) : State :=
  if behind d.seq e then s.countGroup g .late
  else if (s.group g).window ≤ dist e d.seq then s.countGroup g .beyondWindow
  else if stored (s.group g).store d.seq then s.countGroup g .duplicate
  else
    match s.judgeRequest g with
    | none => refuseBuffer g (s.countGroup g .noBuffer)
    | some k =>
      ((grantBuffer g k s).modGroup g fun x => { x with store := insertStore e d x.store }).countGroup g .stored

/-- Step 4 of R41: the passed mark and the highest sequence seen are raised to `q` (R42). -/
def raiseMarks (g : GroupIx) (l : LaneIx) (q : Seq) (s : State) : State :=
  (s.modLane l fun x => { x with assoc := x.assoc.withMark fun m => raiseTo m q }).modGroup g fun x =>
    { x with highest := x.highest.map fun h => raiseTo h q }

/-- The arrival of a data segment from lane `l` at the context of its group (R41). -/
def arrive (l : LaneIx) (d : DataSeg) (s : State) : State :=
  let g := d.group
  if (s.group g).ctx = .disabled then s.countGroup g .groupDisabled
  else if !s.isMember g l then s.countGroup g .notMember
  else
    match s.waitsAt g with
    | none => s.countGroup g .resyncDiscard
    | some e => resolve g (placeArrival g d e (raiseMarks g l d.seq s))

/-! ### RESYNC and DISABLED -/

/-- Every entry of the store is discarded and its buffer goes back (R58, R60). -/
def discardStore (g : GroupIx) (c : GroupCtr) (s : State) : State :=
  let n := (s.group g).store.length
  ((releaseBuffers g n s).modGroup g fun x => { x with store := [] }).countGroup g c n

/-- The context holds no sequence and no running timer. -/
def clearSequences (g : GroupIx) (s : State) : State :=
  s.modGroup g fun x => { x with expected := none, highest := none, hole := none }

/-- Every remaining member's strike count is 0; passed marks are kept (R58). -/
def clearStrikes (g : GroupIx) (s : State) : State :=
  { s with lanes := s.lanes.map fun x => if x.assoc.memberOf g then { x with assoc := x.assoc.withStrikes 0 } else x }

/-- Entry into RESYNC from FORMING or UP (R58). -/
def enterResync (g : GroupIx) (s : State) : State :=
  setCtx g .resync (clearStrikes g (clearSequences g (discardInstruction g (discardStore g .resyncDiscard s))))

/-- Entry into DISABLED at the completion of GROUP-DISABLE (R60); the associations are the Membership Controller's part
of it. -/
def enterDisabled (g : GroupIx) (s : State) : State :=
  setCtx g .disabled (clearSequences g (discardInstruction g (discardStore g .disableDiscard s)))

/-- FORMING or UP by the member count and min lanes (R37, R54). -/
def State.liveState (s : State) (g : GroupIx) : CtxState :=
  if s.memberCount g < (s.group g).minLanes then .forming else .up

/-- A lane has left the receive set of `g` (R40). -/
def departed (g : GroupIx) (s : State) : State :=
  if !(s.group g).ctx.live then s
  else if s.memberCount g = 0 then enterResync g s
  else resolve g (if (s.group g).ctx = .up then setCtx g (s.liveState g) s else s)

/-- A lane has been admitted to the receive set of `g` (R39): in FORMING the member count may reach min lanes. -/
def memberAdded (g : GroupIx) (s : State) : State :=
  if (s.group g).ctx = .forming then setCtx g (s.liveState g) s else s

/-! ### Markers (R52 to R56) -/

/-- The lag of R55: how far the highest sequence seen lies ahead of S − 1. -/
def skewLag (S : Seq) (highest : Option Seq) : Nat :=
  match highest with
  | some h => if aheadOf h (S - 1) then dist (S - 1) h else 0
  | none => 0

/-- Lane `l` is suspended in `g` with cause `c` (R56, R133): RECEIVE-SET is posted and the lane leaves the receive set.
RECEIVE-SET is posted before the GROUP-STATE of the departure (log 16 for LOST; DESIGN CHOICE, log 46, for SKEW). -/
def suspend (l : LaneIx) (g : GroupIx) (c : SetCause) (s : State) : State :=
  departed g (post (.receiveSet l (s.lane l).assoc (.suspended g) g c)
    (s.modLane l fun x => { x with assoc := .suspended g }))

/-- A skew suspension (R56): the hold starts with the group's skew hold. -/
def suspendForSkew (l : LaneIx) (g : GroupIx) (s : State) : State :=
  suspend l g .skew
    ((s.modLane l fun x => { x with skewHold := some (s.after (ms (s.group g).skewHold)) }).countGroup g
      .skewSuspensions)

/-- The skew measurement of R55, and the suspension of R56. -/
def measureSkew (l : LaneIx) (g : GroupIx) (S : Seq) (s : State) : State :=
  match (s.lane l).assoc with
  | .member _ _ k =>
    if (s.group g).skewLimit < skewLag S (s.group g).highest then
      let s1 := (s.modLane l fun x => { x with assoc := x.assoc.withStrikes (k + 1) }).countGroup g .skewStrikes
      if (s.group g).strikeLimit ≤ k + 1 then suspendForSkew l g s1 else s1
    else s.modLane l fun x => { x with assoc := x.assoc.withStrikes 0 }
  | _ => s

/-- The exit from RESYNC on a member's marker carrying `S` (R54). -/
def leaveResync (g : GroupIx) (S : Seq) (s : State) : State :=
  setCtx g (s.liveState g) (s.modGroup g fun x => { x with expected := some S, highest := some (S - 1) })

/-- The end of a marker's event: a resolution when the state is FORMING or UP (R52). -/
def resolveIfLive (g : GroupIx) (s : State) : State := if (s.group g).ctx.live then resolve g s else s

/-- A marker from member lane `l` carrying `S` is applied at the context of `g` (R53 to R56). `wasMember` says that the lane
was MEMBER before the marker was taken. -/
def applyMarker (l : LaneIx) (g : GroupIx) (S : Seq) (wasMember : Bool) (s : State) : State :=
  let s1 := s.modLane l fun x => { x with assoc := x.assoc.withMark fun m => raiseTo m (S - 1) }
  if (s.group g).ctx = .resync then resolveIfLive g (leaveResync g S s1)
  else if (s.group g).ctx.live && wasMember then resolveIfLive g (measureSkew l g S s1)
  else resolveIfLive g s1

/-! ### The hole timer's expiry (R49) -/

/-- The expiry moves the expected sequence to the oldest stored entry. -/
def holeExpires (g : GroupIx) (s : State) : State :=
  match (s.group g).hole with
  | none => s
  | some h =>
    let s1 := (s.passTo h.expiry).modGroup g fun x => { x with hole := none }
    match s1.waitsAt g, (s1.group g).store with
    | some e, d :: _ =>
      resolve g (lossNotice g
        (((s1.modGroup g fun x => { x with expected := some d.seq }).countGroup g .holeTimerExpiries).countGroup g
          .skippedByTimer (dist e d.seq)))
    | _, _ => s1

/-- HOLE_TIMER_EXPIRY (R49). A stopped timer has no expiry (log 4). -/
def execHoleTimerExpiry (g : GroupIx) (s : State) : Host.Outcome State Fault Refusal := .next (holeExpires g s)

end Sys2Proof.Machine
end

