-- ==== Sys2Proof/Machine/Operations.lean ====
section
/-! DEFINITION. The pending operation table (R160, R161): giving a slot, recording an ending. -/

namespace Sys2Proof.Machine

/-- The slot holds an operation in flight. -/
def SlotBody.isInFlight : SlotBody → Bool
  | .inFlight _ _ _ => true
  | _ => false

/-- The slot a new long operation takes (R160): the lowest-numbered EMPTY one, else the one COMPLETE earliest, else none. -/
def State.chooseSlot (s : State) : Option SlotIx :=
  match allSlots.find? fun k => decide ((s.slot k).body = .empty) with
  | some k => some k
  | none => s.completionOrder.head?

/-- The chosen slot is given to `op` (R160): its generation advances, and its timeout is the DEVICE setting as it stands
(R161). -/
def takeSlot (k : SlotIx) (op : OpKind) (s : State) : State :=
  { s.modSlot k fun x => ⟨x.gen + 1, .inFlight op s.timebase (s.after (ms s.dev.opTimeout))⟩ with
    completionOrder := s.completionOrder.filter fun j => decide (j ≠ k) }

/-- The ending of the operation in slot `k` (R161): the slot becomes COMPLETE and OP-DONE is posted; a slot that is not
IN-FLIGHT is left as it is. -/
def endSlot (k : SlotIx) (o : OpOutcome) (s : State) : State :=
  match (s.slot k).body with
  | .inFlight op accepted expiry =>
    post (.opDone k (s.slot k).gen op o)
      { s.modSlot k fun x => { x with body := .complete op accepted expiry o s.timebase } with
        completionOrder := s.completionOrder ++ [k] }
  | _ => s

/-- The operation in flight on lane `l`, if any, ends (R137, R139, R161): the lane operation becomes none. -/
def endLaneOp (l : LaneIx) (o : OpOutcome) (s : State) : State :=
  match (s.lane l).op with
  | none => s
  | some p => endSlot p.slot o (s.modLane l fun x => { x with op := none })

end Sys2Proof.Machine
end

