-- ==== Sys2Proof/Machine/Membership.lean ====
section
/-! DEFINITION. The Membership Controller (chapter 8): roles, associations, the peer report, the group transmit states and
the course of long operations, with the commands SKEW_HOLD_EXPIRY and OPERATION_TIMEOUT. -/

namespace Sys2Proof.Machine

/-! ### Roles and transmit states -/

/-- The transmit state changes and GROUP-STATE is posted (R136). -/
def setTx (g : GroupIx) (new : TxState) (s : State) : State :=
  let old := (s.group g).tx
  if old = new then s else post (.groupTx g old new) (s.modGroup g fun x => { x with tx := new })

/-- The transmit state is judged by the ACTIVE count (R136); in DISABLED and DISABLING it is not. -/
def judgeTx (g : GroupIx) (s : State) : State :=
  match (s.group g).tx with
  | .forming => if (s.group g).minLanes ≤ s.activeCount g then setTx g .up s else s
  | .up => if s.activeCount g < (s.group g).minLanes then setTx g .forming s else s
  | _ => s

/-- The transmit state of the group an ACTIVE role names is judged; another role names no group to judge. -/
def judgeTxOf (r : Role) (s : State) : State :=
  match r with
  | .active g => judgeTx g s
  | _ => s

/-- A change of transmit role (R126): the deficit of a lane entering or leaving ACTIVE is 0 (R111), LANE-ROLE is posted,
and the transmit state of the group left or entered is judged (R136). R128 gives this order of LANE-ROLE and GROUP-STATE
within a report; at a LANE-REMOVE of an ACTIVE lane it is the model's (DESIGN CHOICE, log 47). -/
def setRole (l : LaneIx) (new : Role) (c : RoleCause) (s : State) : State :=
  let old := (s.lane l).role
  judgeTxOf new (judgeTxOf old (post (.laneRole l old new c)
    (s.modLane l fun x => { x with role := new, deficit := 0 })))

/-- A flush of the lane queue, counted (R114). -/
def flush (l : LaneIx) (c : LaneCtr) (s : State) : State :=
  (s.modLane l fun x => { x with queue := [] }).countLane l c (s.lane l).queue.length

/-- The role a lane that leaves ACTIVE to drain takes: DRAINING, or OFF at once with an empty queue (R126). -/
def State.drainRole (s : State) (l : LaneIx) (g : GroupIx) : Role :=
  if (s.lane l).queue.isEmpty then .off else .draining g

/-! ### GROUP-DISABLE: completion (R142) -/

/-- Every lane MEMBER or SUSPENDED in `g` becomes NONE with cause LEFT, in lane order, and its skew hold stops (R142). -/
def dropAssocs (g : GroupIx) (s : State) : State :=
  allLanes.foldl (fun s l =>
    if (s.lane l).assoc.group? = some g then
      post (.receiveSet l (s.lane l).assoc .none g .left)
        (s.modLane l fun x => { x with assoc := .none, skewHold := none })
    else s) s

/-- The completion of the GROUP-DISABLE recorded as `d` (R142), in the order R142 gives its records. -/
def completeDisable (g : GroupIx) (d : DisableRec) (o : OpOutcome) (s : State) : State :=
  endSlot d.slot o
    (setTx g .disabled
      (enterDisabled g (dropAssocs g (s.modGroup g fun x => { x with disable := none }))))

/-- Every lane of the disable set is OFF, and the report is PRESENT with none of them in its accepted map (R142). -/
def State.disableDone (s : State) (d : DisableRec) : Bool :=
  (allLanes.all fun l => !inSet d.set l || decide ((s.lane l).role = .off)) &&
    match s.peerReport with
    | some r => decide (r.accepted &&& d.set = 0)
    | none => false

/-- The outcome of a disable that completes by report or emptying (R142). -/
def DisableRec.outcome (d : DisableRec) : OpOutcome := if d.loss then .doneWithLoss else .done

/-- Complete the GROUP-DISABLE of `g` if its conditions hold (R142). -/
def checkDisable (g : GroupIx) (s : State) : State :=
  match (s.group g).disable with
  | some d => if s.disableDone d then completeDisable g d d.outcome s else s
  | none => s

/-- Complete the GROUP-DISABLE whose set holds lane `l`, if its conditions hold (log 18). -/
def checkDisableOf (l : LaneIx) (s : State) : State :=
  allGroups.foldl (fun s g =>
    match (s.group g).disable with
    | some d => if inSet d.set l then checkDisable g s else s
    | none => s) s

/-- A drain of lane `l` is cut short: the loss mark of the disable it belongs to is set (R141). -/
def markLoss (l : LaneIx) (s : State) : State :=
  { s with groups := s.groups.map fun x =>
      match x.disable with
      | some d => if inSet d.set l then { x with disable := some { d with loss := true } } else x
      | none => x }

/-! ### The peer report (R129, R130) -/

/-- The operation on `l` is a LANE-REMOVE. -/
def State.removing (s : State) (l : LaneIx) : Bool :=
  match (s.lane l).op with
  | some p => decide (p.kind = .remove)
  | none => false

/-- The role and the operations of lane `l` are judged against the report `new`, which replaced `old` (R130, R139,
R142). -/
def judgeLane (old : Option PeerReport) (new : PeerReport) (s : State) (l : LaneIx) : State :=
  let acc := inSet new.accepted l
  let wasAligned := match old with | some r => inSet r.aligned l | none => false
  let s1 :=
    match (s.lane l).role with
    | .probation g =>
      if acc then endLaneOp l .done (setRole l (.active g) .accepted s)
      else if !inSet new.aligned l && wasAligned then endLaneOp l .laneFault (setRole l .off .fault s)
      else s
    | .withdrawn g => if acc then setRole l (.active g) .accepted (s.countLane l .activations) else s
    | .active g =>
      if acc then s
      else setRole l (.withdrawn g) .notAccepted ((flush l .discardedOnWithdraw s).countLane l .withdrawals)
    | .draining _ =>
      if acc then s
      else
        let s2 := setRole l .off .loss (markLoss l (flush l .discardedOnWithdraw s))
        if s2.removing l then endLaneOp l .doneWithLoss s2 else s2
    | .off => if !acc && s.removing l then endLaneOp l .done s else s
  checkDisableOf l s1

/-- Parts 1 and 2 of R128: the report is replaced and every lane is judged, in lane order. -/
def takeReport (l : LaneIx) (m : MarkerBody) (s : State) : State :=
  let new : PeerReport := ⟨m.aligned, m.accepted, l⟩
  allLanes.foldl (judgeLane s.peerReport new) { s with peerReport := some new }

/-- A lane has left ALIGNED (R129): the report becomes EMPTY when no lane in no diagnostic mode is left ALIGNED. -/
def clearReport (s : State) : State := if s.someAligned then s else { s with peerReport := none }

/-! ### Receive associations (R131 to R133) -/

/-- The admission conditions of R132. -/
def State.admissible (s : State) (l : LaneIx) (g : GroupIx) : Bool :=
  decide ((s.group g).ctx ≠ .disabled) &&
    match (s.lane l).role.group? with
    | none => true
    | some h => decide (h = g)

/-- The mismatch flag is cleared (R132). -/
def clearMismatch (l : LaneIx) (s : State) : State := s.modLane l fun x => { x with mismatch := false }

/-- Admission or re-admission of lane `l` to `g` on a marker carrying `S` (R39, R131). RECEIVE-SET is posted before the
GROUP-STATE of a member count that takes FORMING to UP (DESIGN CHOICE, log 41). -/
def admitLane (l : LaneIx) (g : GroupIx) (S : Seq) (c : SetCause) (ctr : LaneCtr) (s : State) : State :=
  memberAdded g (post (.receiveSet l (s.lane l).assoc (.member g (S - 1) 0) g c)
    ((clearMismatch l (s.modLane l fun x => { x with assoc := .member g (S - 1) 0 })).countLane l ctr))

/-- A marker refused for admission (R132). -/
def refuseAdmission (l : LaneIx) (g : GroupIx) (s : State) : State :=
  let s1 := s.countLane l .groupMismatch
  if (s.lane l).mismatch then s1
  else post (.receiveSet l .none .none g .mismatch) (s1.modLane l fun x => { x with mismatch := true })

/-- A lane leaves its group `h` with cause LEFT (R131): its skew hold stops, and a departure from MEMBER is taken by
R40. RECEIVE-SET is posted before the GROUP-STATE of the departure (DESIGN CHOICE, log 46). -/
def leaveGroup (l : LaneIx) (h : GroupIx) (s : State) : State :=
  let wasMember := (s.lane l).assoc.isMember
  let s1 := post (.receiveSet l (s.lane l).assoc .none h .left)
    (s.modLane l fun x => { x with assoc := .none, skewHold := none })
  if wasMember then departed h s1 else s1

/-- A lane with association NONE, on a marker naming `g` (R131, first two rows). -/
def judgeNone (l : LaneIx) (g : GroupIx) (S : Seq) (s : State) : State :=
  if s.admissible l g then admitLane l g S .admitted .admitted s else refuseAdmission l g s

/-- Part 3 of R128: the association of lane `l` is judged against its marker (R131). -/
def judgeAssoc (l : LaneIx) (named : Option GroupIx) (S : Seq) (s : State) : State :=
  match named, (s.lane l).assoc with
  | none, .none => clearMismatch l s
  | none, .member h _ _ => clearMismatch l (leaveGroup l h s)
  | none, .suspended h => clearMismatch l (leaveGroup l h s)
  | some g, .none => judgeNone l g S s
  | some g, .member h _ _ => if h = g then clearMismatch l s else judgeNone l g S (leaveGroup l h s)
  | some g, .suspended h =>
    if h ≠ g then judgeNone l g S (leaveGroup l h s)
    else if (s.lane l).skewHold.isSome then s.countLane l .holdIgnored
    else if s.admissible l g then admitLane l g S .restored .restored s
    else refuseAdmission l g s

/-- A valid marker of an ALIGNED lane in no diagnostic mode is taken as one event (R128). -/
def takeMarker (l : LaneIx) (m : MarkerBody) (S : Seq) (s : State) : State :=
  let s2 := takeReport l m s
  let s3 := judgeAssoc l m.role.group? S s2
  match m.role.group? with
  | none => s3
  | some g => if s3.isMember g l then applyMarker l g S (s2.isMember g l) s3 else s3

/-! ### Timers of the Membership Controller -/

/-- The skew hold of lane `l` expires (R134): the timer stops, the lane stays SUSPENDED. -/
def skewHoldExpires (l : LaneIx) (s : State) : State :=
  match (s.lane l).skewHold with
  | none => s
  | some e => (s.passTo e).modLane l fun x => { x with skewHold := none }

/-- SKEW_HOLD_EXPIRY (R134). A stopped timer has no expiry (log 4). -/
def execSkewHoldExpiry (l : LaneIx) (s : State) : Host.Outcome State Fault Refusal := .next (skewHoldExpires l s)

/-- The timeout of a LANE-ADD (R137). LANE-ROLE is posted before OP-DONE (DESIGN CHOICE, log 43). -/
def timeoutAdd (l : LaneIx) (s : State) : State := endLaneOp l .timeout (setRole l .off .timeout s)

/-- The forced end of a drain (R114, R139, R142). -/
def forceOff (l : LaneIx) (s : State) : State :=
  match (s.lane l).role with
  | .draining _ => setRole l .off .timeout (flush l .discardedOnForce s)
  | _ => s

/-- The timeout of a LANE-REMOVE (R139). A LANE-ROLE is posted before OP-DONE (DESIGN CHOICE, log 43). -/
def timeoutRemove (l : LaneIx) (s : State) : State := endLaneOp l .timeout (forceOff l s)

/-- The timeout of a GROUP-DISABLE (R142). -/
def timeoutDisable (g : GroupIx) (s : State) : State :=
  match (s.group g).disable with
  | none => s
  | some d => completeDisable g d .timeout (allLanes.foldl (fun s l => if inSet d.set l then forceOff l s else s) s)

/-- The timeout of the operation in slot `k` (R142, R161); a slot that is not IN-FLIGHT has no timer running. -/
def operationExpires (k : SlotIx) (s : State) : State :=
  match (s.slot k).body with
  | .inFlight (.laneAdd l) _ e => timeoutAdd l (s.passTo e)
  | .inFlight (.laneRemove l) _ e => timeoutRemove l (s.passTo e)
  | .inFlight (.groupDisable g) _ e => timeoutDisable g (s.passTo e)
  | _ => s

/-- OPERATION_TIMEOUT (R142). -/
def execOperationTimeout (k : SlotIx) (s : State) : Host.Outcome State Fault Refusal := .next (operationExpires k s)

end Sys2Proof.Machine
end

