-- ==== Sys2Proof/Machine/Receive.lean ====
section
/-! DEFINITION. The Lane Receiver (chapters 2 and 12): receive states, intervals, the capture record and the taking of a
segment, with the commands CARRIER_LOSS, CARRIER_RETURN, SEGMENT_TAKEN and INTERVAL_EXPIRY. -/

namespace Sys2Proof.Machine

/-! ### Receive states (R21 to R27) -/

/-- A lane that has left ALIGNED (R27): a MEMBER lane becomes SUSPENDED with cause LOST (R133), and the peer report is
cleared when no lane keeps it alive (R129). -/
def leftAligned (l : LaneIx) (s : State) : State :=
  clearReport
    (match (s.lane l).assoc with
    | .member g _ _ => suspend l g .lost s
    | _ => s)

/-- A change of receive state, restarts included: LANE-STATE is posted (R27), and a departure from ALIGNED is made known
to the Membership Controller. -/
def setRx (l : LaneIx) (new : RxState) (r : Reason) (s : State) : State :=
  let old := (s.lane l).rx
  let s1 := post (.laneState l old new r) (s.modLane l fun x => { x with rx := new, reason := r })
  if old = .aligned ∧ new ≠ .aligned then leftAligned l s1 else s1

/-- The start of an interval (R22): the record is cleared, with carrier absent as the carrier stands, and the timer runs
`markerInterval` from `start`. -/
def startInterval (l : LaneIx) (start : Time) (s : State) : State :=
  let absent := !s.carrier l
  let expiry := start + BitVec.ofNat 32 s.dev.markerInterval
  s.modLane l fun x =>
    { x with interval := { IntervalRecord.cleared with carrierAbsent := absent }, intervalTimer := some expiry }

/-- Entry into SEARCH from service or by a restart (R21). -/
def enterSearch (l : LaneIx) (s : State) : State :=
  let sr : Reason := if s.carrier l then .noMarker else .carrier
  setRx l .search .service
    (startInterval l s.timebase
      (s.modLane l fun x => { x with good := 0, miss := 0, lastCount := none, searchReason := sr }))

/-- Entry into DOWN (R21). -/
def enterDown (l : LaneIx) (s : State) : State :=
  setRx l .down .service
    (s.modLane l fun x =>
      { x with good := 0, miss := 0, lastCount := none, intervalTimer := none, interval := .cleared })

/-- Entry into LOST (R24, R25). -/
def enterLost (l : LaneIx) (r sr : Reason) (s : State) : State :=
  setRx l .lost r
    ((s.modLane l fun x => { x with good := 0, miss := 0, searchReason := sr }).countLane l .lostEntries)

/-- Entry into ALIGNED (R23). -/
def enterAligned (l : LaneIx) (s : State) : State :=
  setRx l .aligned .restored (s.modLane l fun x => { x with good := 0, miss := 0 })

/-! ### Interval judgments (R22 to R24) -/

/-- The search reason after a bad interval (R23). -/
def badReason (r : IntervalRecord) (old : Reason) : Reason :=
  if r.carrierAbsent then .carrier
  else
    match r.originFault with
    | some .crossed => .crossed
    | some .looped => .looped
    | none => if r.markerSeen then old else .noMarker

/-- The judgment of an interval in SEARCH or LOST (R23). The error count is held against the error limit as it stands at the
judgment (R22, R165), also where the lane became LOST for ERRORS in this interval and the limit has been raised above the
count since: R25 calls such an interval bad, and the model's choice is R22's comparison (DESIGN CHOICE, log 40). -/
def judgeSearching (l : LaneIx) (s : State) : State :=
  let x := s.lane l
  if intervalGood x.interval s.dev.errorLimit then
    if s.dev.restoreCount ≤ x.good + 1 then enterAligned l s
    else s.modLane l fun y => { y with good := y.good + 1 }
  else s.modLane l fun y => { y with good := 0, searchReason := badReason y.interval y.searchReason }

/-- The judgment of an interval in ALIGNED (R24). -/
def judgeAligned (l : LaneIx) (s : State) : State :=
  let x := s.lane l
  if x.interval.markerSeen then s.modLane l fun y => { y with miss := 0 }
  else if s.dev.missLimit ≤ x.miss + 1 then enterLost l .markerMiss .noMarker s
  else s.modLane l fun y => { y with miss := y.miss + 1 }

/-- The expiry of the interval timer (R22): the ending interval is judged and the next starts where it ended. -/
def intervalExpires (l : LaneIx) (s : State) : State :=
  match (s.lane l).intervalTimer with
  | none => s
  | some e =>
    let s1 := s.passTo e
    startInterval l e
      (match (s.lane l).rx with
      | .aligned => judgeAligned l s1
      | .search => judgeSearching l s1
      | .lost => judgeSearching l s1
      | .down => s1)

/-- INTERVAL_EXPIRY (R22). A stopped timer has no expiry (log 4). -/
def execIntervalExpiry (l : LaneIx) (s : State) : Host.Outcome State Fault Refusal := .next (intervalExpires l s)

/-! ### Errors, origin faults and the capture record -/

/-- One error of the interval (R18, R19): the error count rises, holding at 255, and in ALIGNED the lane is LOST at the
error limit (R25). -/
def intervalError (l : LaneIx) (s : State) : State :=
  let n := min ((s.lane l).interval.errorCount + 1) 255
  let s1 := s.modLane l fun x => { x with interval := { x.interval with errorCount := n } }
  if (s.lane l).rx = .aligned ∧ s.dev.errorLimit ≤ n then enterLost l .errors .noMarker s1 else s1

/-- A header error at the capture record (R31). `sev` is CORRECTED or UNCORRECTABLE. -/
def captureEvent (l : LaneIx) (sev : CaptureState) (syndrome : Byte) (kind : Option SegKind) (s : State) : State :=
  let c := (s.lane l).capture
  if c.state = .empty ∨ (c.state = .corrected ∧ sev = .uncorrectable) then
    post (.capture l sev syndrome)
      (s.modLane l fun x => { x with capture := ⟨sev, syndrome, s.timebase, kind, 0⟩ })
  else s.modLane l fun x => { x with capture := { x.capture with suppressed := min (x.capture.suppressed + 1) 255 } }

/-- The reason an origin fault gives (R25, R26). -/
def OriginFault.reason : OriginFault → Reason
  | .crossed => .crossed
  | .looped => .looped

/-- A CROSSED or LOOPED marker (R20, R25, R26): the interval record keeps it, an ALIGNED lane is LOST, and in SEARCH or
LOST a changed search reason is posted. -/
def originFault (l : LaneIx) (f : OriginFault) (s : State) : State :=
  let s1 := s.modLane l fun x => { x with interval := { x.interval with originFault := some f } }
  match (s.lane l).rx with
  | .aligned => enterLost l f.reason f.reason s1
  | .down => s1
  | r =>
    if (s.lane l).searchReason = f.reason then s1
    else post (.laneState l r r f.reason) (s1.modLane l fun x => { x with searchReason := f.reason })

/-! ### Where segments go (R28, R182 to R186) -/

/-- The copy a lane in LOOP-REMOTE returns (R184), exactly as received. -/
def loopCopy (l : LaneIx) (bytes : List Byte) (s : State) : State :=
  if (s.lane l).diag ≠ .loopRemote then s
  else if (s.lane l).returnQueue.length < Config.returnQueueMax then
    s.modLane l fun x => { x with returnQueue := x.returnQueue ++ [bytes] }
  else s.countLane l .loopDropped

/-- A data segment that goes on (R28). -/
def takeData (l : LaneIx) (h : Header) (payload : List Byte) (s : State) : State :=
  if (s.lane l).diag ≠ .none then s.countLane l .diagnosticDiscard
  else if (s.lane l).rx = .aligned then
    arrive l ⟨h.group, h.first, h.last, h.field, h.seq, payload⟩ (s.countLane l .dataPassed)
  else s.countLane l .notAligned

/-- The gap a test segment `q` shows (R186): none for the first of a run, else its distance ahead of the one expected. -/
def testGap (t : TestRecord) (q : Seq) : Nat :=
  if t.received = 0 then 0 else if aheadOf q (t.last + 1) then dist (t.last + 1) q else 0

/-- A test segment on a lane in TEST (R186). -/
def checkTest (l : LaneIx) (q : Seq) (payload : List Byte) (s : State) : State :=
  let t := (s.lane l).test
  let gap := testGap t q
  let wrong := if payload = testPattern q then 0 else 1
  (((s.modLane l fun x =>
    { x with test := ⟨t.received + 1, t.gaps + BitVec.ofNat 32 gap, t.patternErrors + BitVec.ofNat 32 wrong, q⟩ }).countLane
      l .testReceived).countLane l .testGaps gap).countLane l .testPatternErrors wrong

/-- A test segment that goes on (R28). -/
def takeTest (l : LaneIx) (q : Seq) (payload : List Byte) (s : State) : State :=
  if (s.lane l).diag = .test then checkTest l q payload s else s.countLane l .testDiscarded

/-- The marker gap counter and the last marker count (R34). -/
def markerGap (l : LaneIx) (count : Byte) (s : State) : State :=
  let missing := match (s.lane l).lastCount with | some c => (count - c - 1).toNat | none => 0
  (s.countLane l .markerGap missing).modLane l fun x => { x with lastCount := some count }

/-- A valid marker (R20, R28): it feeds the interval record and the marker gap, and on an ALIGNED lane in no diagnostic
mode goes on to the Membership Controller. -/
def takeValid (l : LaneIx) (m : MarkerBody) (S : Seq) (s : State) : State :=
  let s1 := markerGap l m.count
    ((s.countLane l .validMarkers).modLane l fun x => { x with interval := { x.interval with markerSeen := true } })
  if (s.lane l).rx = .aligned ∧ (s.lane l).diag = .none then takeMarker l m S s1 else s1

/-- The token test of R20: suppressed in LOOP-LOCAL and with a token of 0. -/
def State.isLooped (s : State) (l : LaneIx) (m : MarkerBody) : Bool :=
  decide (s.dev.stationToken ≠ 0) && decide ((s.lane l).diag ≠ .loopLocal) && decide (m.token = s.dev.stationToken)

/-- A marker whose header goes on: its body (R19) and its origin (R20). -/
def takeMarkerSegment (l : LaneIx) (h : Header) (bytes : List Byte) (s : State) : State :=
  match readMarker h.field (bytes.drop 6) with
  | none => intervalError l (s.countLane l .markerBodyError)
  | some m =>
    let s1 := loopCopy l bytes s
    if s.isLooped l m then originFault l .looped (s1.countLane l .looped)
    else if m.lane ≠ l then originFault l .crossed (s1.countLane l .crossed)
    else takeValid l m h.seq s1

/-- A segment whose header is good or corrected and whose content is acceptable (R18, R28). -/
def segmentGoesOn (l : LaneIx) (h : Header) (bytes : List Byte) (s : State) : State :=
  match h.kind with
  | some .data => takeData l h (bytes.drop 6) (loopCopy l bytes s)
  | some .test => takeTest l h.seq (bytes.drop 6) (loopCopy l bytes s)
  | some .marker => takeMarkerSegment l h bytes s
  | none => s

/-- The checks and the fate of a segment the Lane Receiver takes (R15 to R18). The CAPTURE record of a corrected header is
posted before the records of what the segment then does (DESIGN CHOICE, log 45), that of an uncorrectable one after the
LANE-STATE record of its error (log 15). -/
def receiveSegment (l : LaneIx) (bytes : List Byte) (s : State) : State :=
  let s1 := s.countLane l .segmentsReceived
  match judgeHeader bytes with
  | .good h => segmentGoesOn l h bytes s1
  | .corrected syn h => segmentGoesOn l h bytes (captureEvent l .corrected syn h.kind (s1.countLane l .corrected))
  | .uncorrectable syn =>
    captureEvent l .uncorrectable syn none (intervalError l (s1.countLane l .uncorrectable))

/-- A segment arrives on the line of lane `l` (R15): a receiver in DOWN, one without carrier and one in LOOP-LOCAL, which
ignores its line, take nothing. -/
def lineSegment (l : LaneIx) (bytes : List Byte) (s : State) : State :=
  if (s.lane l).rx = .down ∨ !s.carrier l ∨ (s.lane l).diag = .loopLocal then s else receiveSegment l bytes s

/-- SEGMENT_TAKEN (R15). -/
def execSegmentTaken (l : LaneIx) (bytes : List Byte) (s : State) : Host.Outcome State Fault Refusal :=
  .next (lineSegment l bytes s)

/-! ### The carrier-detect input (R15, R25, R26) -/

/-- The carrier-detect input of a receiver that sees its line goes absent: a segment being received is truncated, the
interval is marked, an ALIGNED lane is LOST, and a lane in SEARCH or LOST changes its search reason. -/
def loseCarrier (l : LaneIx) (midSegment : Bool) (s : State) : State :=
  let s1 := (if midSegment then s.countLane l .truncated else s).modLane l fun x =>
    { x with interval := { x.interval with carrierAbsent := true } }
  if (s.lane l).rx = .aligned then enterLost l .carrier .carrier s1
  else s1.modLane l fun x => { x with searchReason := .carrier }

/-- The input goes absent. A receiver in DOWN takes nothing from its lane, and in LOOP-LOCAL the carrier is taken as
present (R15). An input that is absent already does not go absent. -/
def carrierGoes (l : LaneIx) (midSegment : Bool) (s : State) : State :=
  if !(s.lane l).cdPresent then s
  else
    let s1 := s.modLane l fun x => { x with cdPresent := false }
    if (s.lane l).rx = .down ∨ (s.lane l).diag = .loopLocal then s1 else loseCarrier l midSegment s1

/-- CARRIER_LOSS (R25). -/
def execCarrierLoss (l : LaneIx) (midSegment : Bool) (s : State) : Host.Outcome State Fault Refusal :=
  .next (carrierGoes l midSegment s)

/-- CARRIER_RETURN (R26): no immediate effect beyond the input itself. -/
def execCarrierReturn (l : LaneIx) (s : State) : Host.Outcome State Fault Refusal :=
  .next (s.modLane l fun x => { x with cdPresent := true })

end Sys2Proof.Machine
end

