-- ==== Sys2Proof/Machine/Transmit.lean ====
section
/-! DEFINITION. The Segmenter and Distributor and the Lane Transmitter (chapters 7 and 12), with the commands
SEGMENT_PLACEMENT, SEGMENT_TRANSMIT_START, SEGMENT_TRANSMIT_END, MARKER_TIMER_EXPIRY, TRANSMIT_INHIBIT_ASSERT and
TRANSMIT_INHIBIT_RELEASE. -/

namespace Sys2Proof.Machine

/-! ### Deficit round robin (R110) -/

/-- The lanes from the round-robin position upwards, wrapping from 7 to 0 (R110). -/
def robinOrder (p : LaneIx) : List LaneIx := [p, p + 1, p + 2, p + 3, p + 4, p + 5, p + 6, p + 7]

/-- The refill of R110: when no eligible lane has a positive deficit, every eligible lane's deficit rises by its weight. -/
def refill (g : GroupIx) (s : State) : State :=
  if allLanes.any fun l => s.eligible g l && decide (0 < (s.lane l).deficit) then s
  else
    { s with lanes := Vector.ofFn fun l : Fin 8 =>
        if s.eligible g l then { s.lanes[l] with deficit := s.lanes[l].deficit + s.lanes[l].weight } else s.lanes[l] }

/-- The lane the Distributor chooses after the refill (R110). -/
def State.robinChoice (s : State) (g : GroupIx) : Option LaneIx :=
  (robinOrder (s.group g).rrPos).find? fun l => s.eligible g l && decide (0 < (s.lane l).deficit)

/-! ### Placement (R107, R108) -/

/-- The frame choice of R107: the frame being cut, else the head of the HIGH queue, else the head of the NORMAL queue. -/
def GroupState.chooseFrame (x : GroupState) : Option (Cursor × TxFrame) :=
  match x.cursor with
  | some c => (x.classQueue c.cls).head?.map fun f => (c, f)
  | none =>
    match x.high with
    | f :: _ => some (⟨.high, 0⟩, f)
    | [] => x.normal.head?.map fun f => (⟨.normal, 0⟩, f)

/-- The next slice of a frame (R8, R108): the group's segment size, or what remains. -/
def sliceSegment (g : GroupIx) (size : Nat) (seq : Seq) (c : Cursor) (f : TxFrame) : DataSeg where
  group := g
  first := decide (c.cut = 0)
  last := decide (f.bonded.length ≤ c.cut + size)
  stream := f.stream
  seq := seq
  payload := (f.bonded.drop c.cut).take size

/-- The frame whose last segment has been placed leaves its class queue, its bytes return to the store, and the group-hold
output is judged (R96, R97, R108). -/
def frameLeaves (g : GroupIx) (c : Cls) (f : TxFrame) (s : State) : State :=
  judgeHold g
    ((({ s with storeFree := s.storeFree + f.bonded.length } : State).modGroup g fun x =>
      match c with
      | .high => { x with high := x.high.tail, cursor := none }
      | .normal => { x with normal := x.normal.tail, cursor := none }).countGroup g .framesCut)

/-- The placement of the segment `d` on lane `l` (R108, R110): the lane's deficit falls, the round-robin position moves past
it, the next transmit sequence advances. -/
def placeOn (g : GroupIx) (l : LaneIx) (d : DataSeg) (s : State) : State :=
  ((s.modLane l fun x => { x with queue := x.queue ++ [d], deficit := x.deficit - 1 }).countLane l .segmentsPlaced).modGroup
      g (fun x => { x with rrPos := l + 1, nextSeq := x.nextSeq + 1 })
    |>.countGroup g .segmentsCut

/-- One placement (R108), when its conditions hold. -/
def placeSegment (g : GroupIx) (s : State) : State :=
  if !s.canPlace g then s
  else
    match (s.group g).chooseFrame with
    | none => s
    | some (c, f) =>
      let s1 := refill g s
      match s1.robinChoice g with
      | none => s
      | some l =>
        let d := sliceSegment g (s.group g).segSize (s.group g).nextSeq c f
        let s2 := placeOn g l d s1
        if d.last then frameLeaves g c.cls f s2
        else s2.modGroup g fun x => { x with cursor := some { c with cut := c.cut + d.payload.length } }

/-- SEGMENT_PLACEMENT (R108). -/
def execSegmentPlacement (g : GroupIx) (s : State) : Host.Outcome State Fault Refusal := .next (placeSegment g s)

/-! ### Markers and transmission (R116 to R119) -/

/-- The body of the marker lane `l` would send now (R119); in a diagnostic mode it carries role OFF. -/
def State.markerBody (s : State) (l : LaneIx) : MarkerBody where
  lane := l
  role := if (s.lane l).diag = .none then (s.lane l).role else .off
  count := (s.lane l).markerCount
  aligned := s.alignedMap
  accepted := s.acceptedMap
  token := s.dev.stationToken

/-- The lane's next sequence in group `g` (R12): the head of its queue, else the group's next transmit sequence. -/
def State.nextSeqOf (s : State) (l : LaneIx) (g : GroupIx) : Seq :=
  match (s.lane l).queue with
  | d :: _ => d.seq
  | [] => (s.group g).nextSeq

/-- The marker lane `l` would send now (R10, R12, R119). -/
def State.marker (s : State) (l : LaneIx) : List Byte :=
  markerBytes (s.markerBody l)
    (match (s.markerBody l).role.group? with
    | some g => s.nextSeqOf l g
    | none => 0)

/-- A segment begins on lane `l` (R118). -/
def beginFlight (l : LaneIx) (bytes : List Byte) (s : State) : State :=
  s.modLane l fun x => { x with flight := some ⟨bytes, decide (x.diag = .loopLocal)⟩ }

/-- A marker begins: it is built, the marker count advances, the debt falls by 1 (R118). -/
def startMarker (l : LaneIx) (c : LaneCtr) (s : State) : State :=
  (((beginFlight l (s.marker l) s).modLane l fun x =>
    { x with markerCount := x.markerCount + 1, debt := x.debt - 1 }).countLane l .markersSent).countLane l c

/-- A DRAINING lane whose queue has become empty becomes OFF with cause DRAINED (R130), which may complete a
GROUP-DISABLE (R142); its LANE-ROLE precedes the records of the completion (DESIGN CHOICE, log 43). -/
def drainIfEmpty (l : LaneIx) (s : State) : State :=
  match (s.lane l).role with
  | .draining _ =>
    if (s.lane l).queue.isEmpty then checkDisableOf l (setRole l .off .drained s) else s
  | _ => s

/-- The segment at the head of the lane queue begins (R113, R118). -/
def startData (l : LaneIx) (s : State) : State :=
  match (s.lane l).queue with
  | [] => s
  | d :: rest =>
    drainIfEmpty l
      (((beginFlight l d.bytes s).modLane l fun x => { x with queue := rest }).countLane l .dataSent)

/-- A test segment begins: the test sequence advances (R185). -/
def startTest (l : LaneIx) (s : State) : State :=
  ((beginFlight l (testBytes (s.lane l).testSeq) s).modLane l fun x => { x with testSeq := x.testSeq + 1 }).countLane l
    .testSent

/-- The head of the return queue begins (R184). -/
def startReturned (l : LaneIx) (s : State) : State :=
  match (s.lane l).returnQueue with
  | [] => s
  | b :: rest =>
    ((beginFlight l b s).modLane l fun x => { x with returnQueue := rest }).countLane l .loopReturned

/-- The lane chooses and begins what it chose (R117); an idle lane, and one that may not send, begins nothing. -/
def startTransmission (l : LaneIx) (s : State) : State :=
  match s.txChoice l with
  | some .urgent => startMarker l .urgentMarker s
  | some .opportunistic => startMarker l .opportunisticMarker s
  | some .data => startData l s
  | some .test => startTest l s
  | some .returned => startReturned l s
  | none => s

/-- SEGMENT_TRANSMIT_START (R118). -/
def execSegmentTransmitStart (l : LaneIx) (s : State) : Host.Outcome State Fault Refusal := .next (startTransmission l s)

/-- A segment sent in LOOP-LOCAL is delivered to the lane's own receiver, whole (R183), when its last byte has left
(log 12), with the bytes it was sent with (DESIGN CHOICE, log 52). -/
def loopDelivery (l : LaneIx) (f : Flight) (s : State) : State :=
  if f.looped ∧ (s.lane l).diag = .loopLocal ∧ (s.lane l).rx ≠ .down then receiveSegment l f.bytes s else s

/-- The end of a transmission (R118): the lane may send again. -/
def endTransmission (l : LaneIx) (s : State) : State :=
  match (s.lane l).flight with
  | none => s
  | some f => loopDelivery l f (s.modLane l fun x => { x with flight := none })

/-- SEGMENT_TRANSMIT_END (R118). -/
def execSegmentTransmitEnd (l : LaneIx) (s : State) : Host.Outcome State Fault Refusal := .next (endTransmission l s)

/-- The marker timer starts an interval at `start` (R116). -/
def startMarkerTimer (l : LaneIx) (start : Time) (s : State) : State :=
  let expiry := start + BitVec.ofNat 32 s.dev.markerInterval
  s.modLane l fun x => { x with markerTimer := some expiry }

/-- The expiry of the marker timer (R116): the debt rises by 1, or at 7 starvation is counted; the next interval starts
where this one ended. -/
def markerExpires (l : LaneIx) (s : State) : State :=
  match (s.lane l).markerTimer with
  | none => s
  | some e =>
    startMarkerTimer l e
      (if (s.lane l).debt < 7 then (s.passTo e).modLane l fun x => { x with debt := x.debt + 1 }
      else (s.passTo e).countLane l .markerStarvation)

/-- MARKER_TIMER_EXPIRY (R116). A stopped timer has no expiry (log 4). -/
def execMarkerTimerExpiry (l : LaneIx) (s : State) : Host.Outcome State Fault Refusal := .next (markerExpires l s)

/-! ### Transmit inhibit (R120) -/

/-- TRANSMIT_INHIBIT_ASSERT (R120): no lane begins a segment and no lane is eligible while the input is asserted. -/
def execTransmitInhibitAssert (s : State) : Host.Outcome State Fault Refusal := .next { s with txInhibit := true }

/-- TRANSMIT_INHIBIT_RELEASE (R120): each lane may choose again, each choice being a SEGMENT_TRANSMIT_START of its own. -/
def execTransmitInhibitRelease (s : State) : Host.Outcome State Fault Refusal := .next { s with txInhibit := false }

end Sys2Proof.Machine
end

