-- ==== Sys2Proof/Machine/Reset.lean ====
section
/-! DEFINITION. The resets of the whole part (R143, R173, R180) and local egress (R70, R75 to R78, R162), with the commands
POWER_ON_RESET, RESET_INPUT_RELEASE, DEVICE_RESET_EFFECT, EGRESS_PAUSE_ASSERT, EGRESS_PAUSE_RELEASE, HELD_FRAME_JOIN and
EGRESS_TRANSMISSION_END. -/

namespace Sys2Proof.Machine

/-! ### The resets -/

/-- The whole part at its reset values, with the cause recorded (R173). The input pins keep their levels (log 7), and so do
the model's queue of commands and its count of free values. -/
def resetPart (cause : ResetCause) (s : State) : State :=
  { State.held with
    pending := s.pending
    freeUse := s.freeUse
    txInhibit := s.txInhibit
    egressPause := s.egressPause
    resetAsserted := s.resetAsserted
    resetCause := cause
    lanes := s.lanes.map fun x => { LaneState.initial with cdPresent := x.cdPresent } }

/-- The event that ends a reset (R180): the timebase starts from 0, and RESET-DONE is queued as sequence 1 and sent. -/
def endReset (cause : ResetCause) (s : State) : State :=
  post (.resetDone cause) { resetPart cause s with resetAsserted := false }

/-- POWER_ON_RESET (R173, R78): the RESET input is asserted. Every block takes its reset values; RESET-DONE belongs to the
event that ends the reset (R180, log 5). -/
def execPowerOnReset (s : State) : Host.Outcome State Fault Refusal :=
  .next { resetPart .powerOn s with resetAsserted := true }

/-- RESET_INPUT_RELEASE (R180): the power-on reset ends. An input that is not asserted is not released. -/
def execResetInputRelease (s : State) : Host.Outcome State Fault Refusal :=
  .next (if s.resetAsserted then endReset .powerOn s else s)

/-! ### Local egress -/

/-- The Frame Assembler's readiness at the context (R46). -/
def assemblerReady (g : GroupIx) (s : State) : State := resolveIfLive g s

/-- The held frame of `g` joins its egress queue when there is room, and the assembler becomes ready (R70). -/
def joinHeld (g : GroupIx) (s : State) : State :=
  match (s.group g).held with
  | none => s
  | some f =>
    if (s.group g).egress.length < Config.egressQueueMax then
      assemblerReady g (egressJoin g f (s.modGroup g fun x => { x with held := none }))
    else s

/-- HELD_FRAME_JOIN (R70). -/
def execHeldFrameJoin (g : GroupIx) (s : State) : Host.Outcome State Fault Refusal := .next (joinHeld g s)

/-- A management frame has left (R77). -/
def mgmtFrameLeft (s : State) : State :=
  arbitrate (({ s with mgmtOut := s.mgmtOut.tail, egressBusy := none } : State).countDev .managementFramesSent)

/-- A data frame of `g` has left (R77): its buffers go back, the counters rise, the next boundary is judged (R75), and a
held frame joins (R70; log 11). -/
def dataFrameLeft (g : GroupIx) (s : State) : State :=
  match (s.group g).egress with
  | [] => arbitrate { s with egressBusy := none }
  | f :: rest =>
    let s1 := releaseBuffers g f.chain.length
      (({ s with egressBusy := none } : State).modGroup g fun x => { x with egress := rest })
    let p := f.sent
    let s2 := ((s1.countGroup g .framesSent).countStream p.stream .egressFrames).countStream p.stream .egressBytes
      p.payload.length
    joinHeld g (arbitrate s2)

/-- The end of a transmission on local egress (R77). The departure of the response of an executed DEVICE-RESET is the
reset (R162). -/
def egressEnds (s : State) : State :=
  match s.egressBusy with
  | none => s
  | some .management => if s.resetResponseInFlight then endReset .requested s else mgmtFrameLeft s
  | some (.group g) => dataFrameLeft g s

/-- EGRESS_TRANSMISSION_END (R77). -/
def execEgressTransmissionEnd (s : State) : Host.Outcome State Fault Refusal := .next (egressEnds s)

/-- DEVICE_RESET_EFFECT (R162): the response of the executed DEVICE-RESET, in flight on local egress, has left. With no such
response in flight there is no such event (log 10). -/
def execDeviceResetEffect (s : State) : Host.Outcome State Fault Refusal :=
  .next (if s.resetResponseInFlight then endReset .requested s else s)

/-- EGRESS_PAUSE_ASSERT (R76): a frame in flight is sent whole; no frame is started from the next boundary. -/
def execEgressPauseAssert (s : State) : Host.Outcome State Fault Refusal := .next { s with egressPause := true }

/-- EGRESS_PAUSE_RELEASE (R76): the next boundary is at this moment if a frame is waiting. -/
def execEgressPauseRelease (s : State) : Host.Outcome State Fault Refusal :=
  .next (arbitrate { s with egressPause := false })

end Sys2Proof.Machine
end

