-- ==== Sys2Proof/Machine/Tables.lean ====
section
/-! DEFINITION. The tables and counter sets as READ-ENTRY, WRITE-ENTRY and READ-COUNTERS see them (chapter 10, 13.4). -/

namespace Sys2Proof.Machine

/-- The four tables, and the four kinds of counter set, with an index in range (13.3, R154). -/
inductive TableRef
  | device
  | lane (l : LaneIx)
  | group (g : GroupIx)
  | stream (x : StreamIx)
  deriving DecidableEq, Repr

/-- The table and entry two parameter bytes name; `none` is BAD-INDEX (R154). -/
def tableRef (table index : Byte) : Option TableRef :=
  match table.toNat with
  | 1 => if index = 0 then some .device else none
  | 2 => if h : index.toNat < 8 then some (.lane ⟨index.toNat, h⟩) else none
  | 3 => if h : index.toNat < 4 then some (.group ⟨index.toNat, h⟩) else none
  | 4 => if h : index.toNat < 64 then some (.stream ⟨index.toNat, h⟩) else none
  | _ => none

/-! ### READ-ENTRY (R164 to R170, 13.4) -/

/-- The time left on a timer: microseconds until its expiry, absent while stopped (13.4). -/
def State.timeLeft (s : State) (timer : Option Time) : Option (List Byte) := timer.map fun e => be 4 (dist s.timebase e)

/-- The peer report item (13.4). While EMPTY its last three bytes are free values (log 13). -/
def State.reportBytes (s : State) : List Byte :=
  match s.peerReport with
  | some r => [1, r.aligned, r.accepted, byte r.lane.val]
  | none => [0, Config.freeByte s.freeUse 1, Config.freeByte s.freeUse 2, Config.freeByte s.freeUse 3]

/-- A slot item: state, generation, request code, subject, acceptance time, outcome, completion time; an EMPTY slot has
zeros but for nothing (13.4), and an operation in flight has no outcome and no completion time yet (log 22). -/
def Slot.bytes (k : Slot) : List Byte :=
  match k.body with
  | .empty => List.replicate 14 0
  | .inFlight op t _ => [1] ++ be 2 k.gen.toNat ++ [byte op.code, byte op.subject] ++ be 4 t.toNat ++ [0] ++ be 4 0
  | .complete op t _ o u =>
    [2] ++ be 2 k.gen.toNat ++ [byte op.code, byte op.subject] ++ be 4 t.toNat ++ [byte o.code] ++ be 4 u.toNat

/-- The DEVICE entry (R165, R166, R181, 13.4). -/
def State.deviceItems (s : State) : List Byte :=
  item 0x01 (be 2 s.dev.markerInterval) ++ item 0x02 (be 1 s.dev.urgentLevel) ++ item 0x03 (be 1 s.dev.missLimit) ++
  item 0x04 (be 1 s.dev.errorLimit) ++ item 0x05 (be 1 s.dev.restoreCount) ++ item 0x06 (be 2 s.dev.opTimeout) ++
  item 0x07 (be 2 s.dev.retryInterval) ++ item 0x08 [byte s.dev.remoteAccess.code] ++
  item 0x09 [groupByte s.dev.mgmtGroup] ++ item 0x0A (be 2 s.dev.stationToken.toNat) ++
  item 0x20 (be 2 Config.vendorCode) ++ item 0x21 (be 2 Config.partCode) ++ item 0x22 (be 1 Config.revision) ++
  item 0x23 [byte s.resetCause.code] ++ item 0x24 (be 4 s.timebase.toNat) ++ item 0x25 (be 2 s.poolFree) ++
  item 0x26 (be 2 s.poolLow) ++ item 0x27 (be 4 s.storeFree) ++ item 0x28 (be 4 s.storeLow) ++
  item 0x29 s.reportBytes ++ item 0x2A (be 1 s.requestQueue.length) ++
  item 0x2C (s.slot 0).bytes ++ item 0x2D (s.slot 1).bytes ++ item 0x2E (s.slot 2).bytes ++ item 0x2F (s.slot 3).bytes ++
  item 0x30 (be 1 s.notes.length) ++ item 0x31 (be 1 (s.notes.filter fun r => !r.sent).length) ++
  item 0x32 (be 4 s.nextNote.toNat) ++ item 0x33 (be 4 s.tally) ++ itemOpt 0x34 (s.timeLeft s.retry) ++
  item 0x35 [flagByte s.resendPending]

/-- A LANE entry (R167, 13.4). -/
def State.laneItems (s : State) (l : LaneIx) : List Byte :=
  let x := s.lane l
  item 0x01 [flagByte x.inService] ++ item 0x02 (be 1 x.weight) ++ item 0x03 [byte x.diag.code] ++
  item 0x20 [byte x.rx.code] ++ item 0x21 [byte x.reason.code] ++ item 0x22 [byte x.searchReason.code] ++
  item 0x23 [byte x.role.code] ++ item 0x24 [groupByte x.role.group?] ++ item 0x25 (be 1 x.debt) ++
  item 0x26 (be 1 x.queue.length) ++ item 0x27 (be 1 x.deficit) ++ item 0x28 [x.markerCount] ++
  item 0x29 [byte x.assoc.code] ++ item 0x2A [groupByte x.assoc.group?] ++ itemOpt 0x2B (s.timeLeft x.skewHold) ++
  item 0x2C [flagByte x.mismatch] ++ itemOpt 0x2D (x.op.map fun p => tagBytes p.slot p.gen) ++
  itemOpt 0x2E (x.assoc.mark?.map fun m => be 2 m.toNat) ++ itemOpt 0x2F (x.assoc.strikes?.map fun k => be 1 k) ++
  item 0x30 (be 4 x.test.received.toNat) ++ item 0x31 (be 4 x.test.gaps.toNat) ++
  item 0x32 (be 4 x.test.patternErrors.toNat) ++ item 0x33 (be 2 x.test.last.toNat) ++ item 0x34 (be 2 x.testSeq.toNat)

/-- A GROUP entry (R168, R169, 13.4). The hold item is 1 for ASSERTED and the exhaustion flag item 1 for armed (DESIGN
CHOICE, log 44). -/
def State.groupItems (s : State) (g : GroupIx) : List Byte :=
  let x := s.group g
  item 0x01 (be 1 x.segSize) ++ item 0x02 (be 2 x.window) ++ item 0x03 (be 2 x.holeTime) ++
  item 0x04 (be 2 x.skewLimit) ++ item 0x05 (be 1 x.strikeLimit) ++ item 0x06 (be 2 x.skewHold) ++
  item 0x07 (be 1 x.minLanes) ++ item 0x08 (be 2 x.reservation) ++ item 0x09 (be 1 x.holdLevel) ++
  item 0x20 [byte x.tx.code] ++ item 0x21 [s.activeMap g] ++ item 0x22 (be 2 x.nextSeq.toNat) ++
  item 0x23 [byte x.rrPos.val] ++ itemOpt 0x24 (x.cursor.map fun c => be 2 c.cut) ++ item 0x25 (be 1 x.high.length) ++
  item 0x26 (be 1 x.normal.length) ++ item 0x27 (be 4 x.storeBytes) ++ item 0x28 [flagByte x.hold] ++
  item 0x29 [byte x.ctx.code] ++ item 0x2A [s.memberMap g] ++ itemOpt 0x2B (x.expected.map fun e => be 2 e.toNat) ++
  itemOpt 0x2C (x.highest.map fun h => be 2 h.toNat) ++ item 0x2D (be 2 x.store.length) ++
  itemOpt 0x2E (s.timeLeft (x.hole.map (·.expiry))) ++ itemOpt 0x2F (x.building.map fun p => be 2 (chainLength p.chain)) ++
  item 0x30 [flagByte x.awaitingFirst] ++ item 0x31 [flagByte x.held.isSome] ++ item 0x32 (be 1 x.egress.length) ++
  item 0x33 (be 2 x.heldCount) ++ item 0x34 [flagByte x.armed]

/-- A STREAM entry (R170, 13.4). -/
def State.streamItems (s : State) (x : StreamIx) : List Byte :=
  let e := s.stream x
  item 0x01 [flagByte e.valid] ++ item 0x02 [byte e.group.val] ++ item 0x03 [byte e.cls.code] ++ item 0x04 (be 2 e.maxLen)

/-- Every field of an entry, in code order (R164). -/
def State.entryItems (s : State) : TableRef → List Byte
  | .device => s.deviceItems
  | .lane l => s.laneItems l
  | .group g => s.groupItems g
  | .stream x => s.streamItems x

/-- The model's count of free values after a read: only an EMPTY peer report draws one (log 13). -/
def State.drawFree (s : State) (t : TableRef) : State :=
  if t = .device ∧ s.peerReport = none then { s with freeUse := s.freeUse + 1 } else s

/-! ### READ-COUNTERS (R171) -/

/-- The counters of a set in their order, 4 bytes each; the DEVICE set ends with the two low-water marks (13.3). -/
def State.counterBytes (s : State) : TableRef → List Byte
  | .device => (s.devCtr.toList.map fun c => be 4 c.toNat).flatten ++ be 4 s.poolLow ++ be 4 s.storeLow
  | .lane l => ((s.lane l).ctr.toList.map fun c => be 4 c.toNat).flatten
  | .group g => ((s.group g).ctr.toList.map fun c => be 4 c.toNat).flatten
  | .stream x => ((s.stream x).ctr.toList.map fun c => be 4 c.toNat).flatten

/-- A clear of one set (R171); a clear of the DEVICE set also sets the low-water marks to the free counts (R90, R97). -/
def clearCounters (t : TableRef) (s : State) : State :=
  match t with
  | .device => { s with devCtr := .replicate 22 0, poolLow := s.poolFree, storeLow := s.storeFree }
  | .lane l => s.modLane l fun x => { x with ctr := .replicate 34 0 }
  | .group g => s.modGroup g fun x => { x with ctr := .replicate 38 0 }
  | .stream x => s.modStream x fun y => { y with ctr := .replicate 10 0 }

/-! ### WRITE-ENTRY (R155, R165 to R170) -/

/-- `v` lies in the range from `a` to `b`. -/
def between (a b v : Nat) : Bool := decide (a ≤ v) && decide (v ≤ b)

/-- One item of a DEVICE write; `none` is a value out of range, a wrong length or a code not written (R165, R188). -/
def writeDev (code : Byte) (value : List Byte) (d : DevSettings) : Option DevSettings :=
  let v := ofBe value
  match code.toNat, value.length with
  | 0x01, 2 => if between 100 10000 v then some { d with markerInterval := v } else none
  | 0x02, 1 => if between 2 6 v then some { d with urgentLevel := v } else none
  | 0x03, 1 => if between 1 7 v then some { d with missLimit := v } else none
  | 0x04, 1 => if between 1 255 v then some { d with errorLimit := v } else none
  | 0x05, 1 => if between 1 15 v then some { d with restoreCount := v } else none
  | 0x06, 2 => if between 10 60000 v then some { d with opTimeout := v } else none
  | 0x07, 2 => if between 10 10000 v then some { d with retryInterval := v } else none
  | 0x08, 1 =>
    match v with
    | 0 => some { d with remoteAccess := .none }
    | 1 => some { d with remoteAccess := .read }
    | 2 => some { d with remoteAccess := .full }
    | _ => none
  | 0x09, 1 =>
    if h : v < 4 then some { d with mgmtGroup := some ⟨v, h⟩ }
    else if v = 255 then some { d with mgmtGroup := none } else none
  | 0x0A, 2 => some { d with stationToken := BitVec.ofNat 16 v }
  | _, _ => none

/-- One item of a LANE write: the weight alone (R155, R167). -/
def writeLane (code : Byte) (value : List Byte) (x : LaneState) : Option LaneState :=
  let v := ofBe value
  match code.toNat, value.length with
  | 0x02, 1 => if between 1 8 v then some { x with weight := v } else none
  | _, _ => none

/-- One item of a GROUP write (R168). -/
def writeGroup (code : Byte) (value : List Byte) (x : GroupState) : Option GroupState :=
  let v := ofBe value
  match code.toNat, value.length with
  | 0x01, 1 => if v = 64 ∨ v = 128 ∨ v = 192 then some { x with segSize := v } else none
  | 0x02, 2 => if between 32 1024 v ∧ v % 32 = 0 then some { x with window := v } else none
  | 0x03, 2 => if between 10 65535 v then some { x with holeTime := v } else none
  | 0x04, 2 => if between 1 1023 v then some { x with skewLimit := v } else none
  | 0x05, 1 => if between 1 7 v then some { x with strikeLimit := v } else none
  | 0x06, 2 => if between 10 10000 v then some { x with skewHold := v } else none
  | 0x07, 1 => if between 1 8 v then some { x with minLanes := v } else none
  | 0x08, 2 => if between 0 1024 v then some { x with reservation := v } else none
  | 0x09, 1 => if between 8 32 v then some { x with holdLevel := v } else none
  | _, _ => none

/-- One item of a STREAM write (R170). -/
def writeStream (code : Byte) (value : List Byte) (x : StreamState) : Option StreamState :=
  let v := ofBe value
  match code.toNat, value.length with
  | 0x01, 1 => if v = 0 ∨ v = 1 then some { x with valid := decide (v = 1) } else none
  | 0x02, 1 => if h : v < 4 then some { x with group := ⟨v, h⟩ } else none
  | 0x03, 1 =>
    match v with
    | 0 => some { x with cls := .normal }
    | 1 => some { x with cls := .high }
    | _ => none
  | 0x04, 2 => if between 16 4096 v then some { x with maxLen := v } else none
  | _, _ => none

/-- Every item of a write applied in turn; `none` as soon as one of them is refused. -/
def writeAll {α : Type} (write : Byte → List Byte → α → Option α) : List (Byte × List Byte) → α → Option α
  | [], x => some x
  | (code, value) :: rest, x =>
    match write code value x with
    | some y => writeAll write rest y
    | none => none

/-- WRITE-ENTRY on an entry (R155): the settings written, or BAD-VALUE, or STATE for a GROUP that is not DISABLED. -/
def writeSettings (t : TableRef) (items : List (Byte × List Byte)) (s : State) : ResultCode × State :=
  if !(items.map Prod.fst).Nodup then (.badValue, s)
  else
    match t with
    | .device =>
      match writeAll writeDev items s.dev with
      | some d => (.ok, { s with dev := d })
      | none => (.badValue, s)
    | .lane l =>
      match writeAll writeLane items (s.lane l) with
      | some x => (.ok, s.modLane l fun _ => x)
      | none => (.badValue, s)
    | .group g =>
      match writeAll writeGroup items (s.group g) with
      | some x =>
        if x.window ≤ x.skewLimit then (.badValue, s)
        else if (s.group g).tx ≠ .disabled then (.state, s)
        else (.ok, s.modGroup g fun _ => x)
      | none => (.badValue, s)
    | .stream y =>
      match writeAll writeStream items (s.stream y) with
      | some x => (.ok, s.modStream y fun _ => x)
      | none => (.badValue, s)

end Sys2Proof.Machine
end

