-- ==== Sys2Proof/Machine/Requests.lean ====
section
/-! DEFINITION. The requests of the Management Engine, one definition each (chapter 9.3, R154 to R159; R32, R59, R83, R137,
R139, R141, R162, R171, R179, R182). Each answers a result code, the result data and the part after it; the checks are
those after step 4 of R150, in the order its description lists them. -/

namespace Sys2Proof.Machine

/-- What a request answers: result code, data, and the part after it. -/
structure Reply where
  result : ResultCode
  data : List Byte
  part : State

/-- A refused entry has no effect and no data (R150). -/
def refuse (c : ResultCode) (s : State) : Reply := ⟨c, [], s⟩

/-- The lane a parameter byte names (R150, step 5). -/
def laneOf (b : Byte) : Option LaneIx := if h : b.toNat < 8 then some ⟨b.toNat, h⟩ else none

/-- The group a parameter byte names (R150, step 5). -/
def groupOf (b : Byte) : Option GroupIx := if h : b.toNat < 4 then some ⟨b.toNat, h⟩ else none

/-! ### Reading requests (R154) -/

/-- ECHO (R154). -/
def reqEcho (params : List Byte) (s : State) : Reply := ⟨.ok, params, s⟩

/-- READ-ENTRY (R154, R164). -/
def reqReadEntry (table index : Byte) (s : State) : Reply :=
  match tableRef table index with
  | none => refuse .badIndex s
  | some t => ⟨.ok, s.entryItems t, s.drawFree t⟩

/-- READ-COUNTERS (R154, R171). -/
def reqReadCounters (set index : Byte) (clear : Bool) (s : State) : Reply :=
  match tableRef set index with
  | none => refuse .badIndex s
  | some t => ⟨.ok, s.counterBytes t, if clear then clearCounters t s else s⟩

/-- The data of CAPTURE-READ (R32, 13.3). -/
def Capture.bytes (c : Capture) : List Byte :=
  [byte c.state.code, c.syndrome] ++ be 4 c.time.toNat ++
    [match c.kind with | some k => byte k.code | none => 0, byte c.suppressed]

/-- CAPTURE-READ (R32, R154). -/
def reqCaptureRead (lane : Byte) (s : State) : Reply :=
  match laneOf lane with
  | none => refuse .badIndex s
  | some l => ⟨.ok, (s.lane l).capture.bytes, s⟩

/-- CAPTURE-RELEASE (R32, R154). -/
def reqCaptureRelease (lane : Byte) (s : State) : Reply :=
  match laneOf lane with
  | none => refuse .badIndex s
  | some l => ⟨.ok, [], s.modLane l fun x => { x with capture := .released }⟩

/-! ### WRITE-ENTRY (R155) -/

/-- WRITE-ENTRY (R155): STREAM entry 0 cannot be written. -/
def reqWriteEntry (table index : Byte) (items : List (Byte × List Byte)) (s : State) : Reply :=
  match tableRef table index with
  | none => refuse .badIndex s
  | some t =>
    if t = .stream 0 then refuse .badIndex s
    else
      match writeSettings t items s with
      | (c, s') => ⟨c, [], s'⟩

/-! ### Groups (R156, R59, R83) -/

/-- The reservations of the groups enabled now (R83). -/
def State.reservedNow (s : State) : Nat :=
  ((allGroups.filter fun g => (s.group g).enabled).map fun g => (s.group g).reservation).sum

/-- The effect of GROUP-ENABLE (R156, R38, R106): TRANSMIT is posted before RECEIVE. -/
def enableGroup (g : GroupIx) (s : State) : State :=
  setCtx g .resync (setTx g .forming (s.modGroup g fun x => { x with nextSeq := 0, rrPos := 0 }))

/-- GROUP-ENABLE (R156). -/
def reqGroupEnable (group : Byte) (s : State) : Reply :=
  match groupOf group with
  | none => refuse .badIndex s
  | some g =>
    if (s.group g).tx ≠ .disabled then refuse .state s
    else if Config.poolBuffers < (s.group g).reservation + s.reservedNow then refuse .badValue s
    else ⟨.ok, [], enableGroup g s⟩

/-- GROUP-RESYNC (R156, R59): in RESYNC it changes nothing. -/
def reqGroupResync (group : Byte) (s : State) : Reply :=
  match groupOf group with
  | none => refuse .badIndex s
  | some g =>
    if (s.group g).ctx = .disabled then refuse .state s
    else ⟨.ok, [], if (s.group g).ctx.live then enterResync g s else s⟩

/-! ### Lane service and diagnostics (R157, R21, R121, R182) -/

/-- The lane's role is OFF, its association NONE, and it is not engaged (R157). -/
def State.laneFree (s : State) (l : LaneIx) : Bool :=
  decide ((s.lane l).role = .off) && decide ((s.lane l).assoc = .none) && !s.engaged l

/-- The return queue is emptied, each segment counted (R184). -/
def dropReturns (l : LaneIx) (s : State) : State :=
  (s.modLane l fun x => { x with returnQueue := [] }).countLane l .loopDropped (s.lane l).returnQueue.length

/-- A lane is put in service (R21, R121). -/
def putInService (l : LaneIx) (s : State) : State :=
  startMarkerTimer l s.timebase (enterSearch l (s.modLane l fun x => { x with inService := true, debt := 0 }))

/-- A lane is taken out of service (R21, R121, R184). The marker timer stops and the debt becomes 0 at once, also with a
segment in flight, which is sent to its end (DESIGN CHOICE, log 50). -/
def takeOutOfService (l : LaneIx) (s : State) : State :=
  dropReturns l (enterDown l (s.modLane l fun x => { x with inService := false, debt := 0, markerTimer := none }))

/-- LANE-SERVICE (R157): 1 is IN, 2 is OUT. -/
def reqLaneService (lane direction : Byte) (s : State) : Reply :=
  match laneOf lane with
  | none => refuse .badIndex s
  | some l =>
    match direction.toNat with
    | 1 => ⟨.ok, [], if (s.lane l).inService then s else putInService l s⟩
    | 2 =>
      if !s.laneFree l then refuse .state s
      else ⟨.ok, [], if (s.lane l).inService then takeOutOfService l s else s⟩
    | _ => refuse .badValue s

/-- The mode a mode code names (13.3). -/
def diagOf (b : Byte) : Option Diag :=
  match b.toNat with
  | 0 => some .none
  | 1 => some .loopLocal
  | 2 => some .loopRemote
  | 3 => some .test
  | _ => Option.none

/-- A change of diagnostic mode (R182). -/
def changeDiag (l : LaneIx) (m : Diag) (s : State) : State :=
  let s1 := if (s.lane l).diag = .loopRemote then dropReturns l s else s
  let s2 := s1.modLane l fun x =>
    if m = .test then { x with diag := m, testSeq := 0, test := .zero } else { x with diag := m }
  if (s.lane l).inService then enterSearch l s2 else s2

/-- LANE-DIAG (R157, R182). -/
def reqLaneDiag (lane mode : Byte) (s : State) : Reply :=
  match laneOf lane with
  | none => refuse .badIndex s
  | some l =>
    match diagOf mode with
    | none => refuse .badValue s
    | some m =>
      if !s.laneFree l then refuse .state s
      else ⟨.ok, [], if (s.lane l).diag = m then s else changeDiag l m s⟩

/-! ### Long operations (R158) -/

/-- The effect of an accepted LANE-ADD given slot `k` (R137). -/
def acceptAdd (g : GroupIx) (l : LaneIx) (k : SlotIx) (s : State) : State :=
  let s1 := takeSlot k (.laneAdd l) s
  setRole l (.probation g) .add (s1.modLane l fun x => { x with op := some ⟨.add, k, (s1.slot k).gen, g⟩ })

/-- The answer to an accepted long operation: its tag (R158, 13.3). -/
def acceptedReply (k : SlotIx) (gen : BitVec 12) (s : State) : Reply := ⟨.accepted, tagBytes k gen, s⟩

/-- LANE-ADD (R158, R137). -/
def reqLaneAdd (group lane : Byte) (s : State) : Reply :=
  match groupOf group, laneOf lane with
  | some g, some l =>
    if !(s.group g).tx.cutting then refuse .state s
    else if !(s.lane l).inService ∨ (s.lane l).diag ≠ .none then refuse .state s
    else if (s.lane l).role ≠ .off then refuse .conflict s
    else if (s.lane l).assoc.group?.isSome ∧ (s.lane l).assoc.group? ≠ some g then refuse .conflict s
    else if s.engaged l then refuse .conflict s
    else
      match s.chooseSlot with
      | none => refuse .noRoom s
      | some k => acceptedReply k ((s.slot k).gen + 1) (acceptAdd g l k s)
  | _, _ => refuse .badIndex s

/-- The role change of an accepted LANE-REMOVE (R139): an ACTIVE lane drains, any other that names a group becomes OFF. -/
def removeRole (l : LaneIx) (s : State) : State :=
  match (s.lane l).role with
  | .active g => setRole l (s.drainRole l g) .remove s
  | .withdrawn _ => setRole l .off .remove s
  | .probation _ => setRole l .off .remove s
  | _ => s

/-- The effect of an accepted LANE-REMOVE from group `g`, given slot `k`; an add in flight has ended ABORTED (R139). -/
def acceptRemove (g : GroupIx) (l : LaneIx) (k : SlotIx) (s : State) : State :=
  let s1 := takeSlot k (.laneRemove l) s
  removeRole l (s1.modLane l fun x => { x with op := some ⟨.remove, k, (s1.slot k).gen, g⟩ })

/-- LANE-REMOVE (R158, R139). The slot of a LANE-ADD it aborts counts as free, and is free when the slot is given; its
OP-DONE is posted before the LANE-ROLE of the lane (DESIGN CHOICE, log 43). -/
def reqLaneRemove (lane : Byte) (s : State) : Reply :=
  match laneOf lane with
  | none => refuse .badIndex s
  | some l =>
    if s.inDisableSet l then refuse .conflict s
    else
      match (s.lane l).role.group? with
      | none => refuse .state s
      | some g =>
        if s.removing l then refuse .conflict s
        else
          let s1 := endLaneOp l .aborted s
          match s1.chooseSlot with
          | none => refuse .noRoom s
          | some k => acceptedReply k ((s1.slot k).gen + 1) (acceptRemove g l k s1)

/-- The operation in flight on lane `l` acts for group `g` (R141). -/
def State.opOn (s : State) (g : GroupIx) (l : LaneIx) : Bool :=
  match (s.lane l).op with
  | some p => decide (p.group = g)
  | none => false

/-- The disable set of `g` (R141): the lanes whose role names it, and those a LANE-REMOVE in flight is removing from it. -/
def State.disableSet (s : State) (g : GroupIx) : LaneSet :=
  laneSet fun l => decide ((s.lane l).role.group? = some g) || (s.opOn g l && s.removing l)

/-- Every LANE-ADD or LANE-REMOVE on a lane of `g` ends ABORTED (R141), in lane order (DESIGN CHOICE, log 48). -/
def abortOps (g : GroupIx) (s : State) : State :=
  allLanes.foldl (fun s l => if s.opOn g l then endLaneOp l .aborted s else s) s

/-- The counts of a queued frame discarded by GROUP-DISABLE (R99). -/
def countDiscarded (g : GroupIx) (frames : List TxFrame) (s : State) : State :=
  frames.foldl (fun s f => (s.countStream f.stream .groupDown).countGroup g .groupDown) s

/-- The class queues of `g` and its frame cursor are discarded (R99, R106). -/
def discardQueues (g : GroupIx) (s : State) : State :=
  let x := s.group g
  judgeHold g
    (countDiscarded g (x.high ++ x.normal)
      (({ s with storeFree := s.storeFree + x.storeBytes } : State).modGroup g fun y =>
        { y with high := [], normal := [], cursor := none }))

/-- The role change of lane `l` of the set (R141). -/
def disableRole (g : GroupIx) (s : State) (l : LaneIx) : State :=
  if (s.lane l).role.group? ≠ some g then s
  else
    match (s.lane l).role with
    | .active _ => setRole l (s.drainRole l g) .disable s
    | .withdrawn _ => setRole l .off .disable s
    | .probation _ => setRole l .off .disable s
    | _ => s

/-- The effect of GROUP-DISABLE taken in slot `k` with disable set `set`, its operations aborted (R141, R142). The transmit
state is DISABLING before the roles change, so that they are not counted (R136), and its record follows theirs (log 17). -/
def acceptDisable (g : GroupIx) (set : LaneSet) (k : SlotIx) (s : State) : State :=
  let old := (s.group g).tx
  let s1 := takeSlot k (.groupDisable g) s
  let d : DisableRec := ⟨k, (s1.slot k).gen, set, false⟩
  let s2 := discardQueues g (s1.modGroup g fun x => { x with tx := .disabling, disable := some d })
  let s3 := post (.groupTx g old .disabling) (allLanes.foldl (disableRole g) s2)
  if set = 0 then completeDisable g d .done s3 else s3

/-- GROUP-DISABLE (R158, R141). The slots of the operations it aborts count as free, and are free when the slot is
given. -/
def reqGroupDisable (group : Byte) (s : State) : Reply :=
  match groupOf group with
  | none => refuse .badIndex s
  | some g =>
    if !(s.group g).tx.cutting then refuse .state s
    else
      let s1 := abortOps g s
      match s1.chooseSlot with
      | none => refuse .noRoom s
      | some k => acceptedReply k ((s1.slot k).gen + 1) (acceptDisable g (s.disableSet g) k s1)

/-! ### OP-QUERY, NOTIFY-ACK, DEVICE-RESET (R159, R162) -/

/-- The data of OP-QUERY (R159, 13.3). -/
def SlotBody.queryBytes : SlotBody → List Byte
  | .empty => []
  | .inFlight op t _ => [1, byte op.code, byte op.subject] ++ be 4 t.toNat ++ [0] ++ be 4 0
  | .complete op t _ o u => [2, byte op.code, byte op.subject] ++ be 4 t.toNat ++ [byte o.code] ++ be 4 u.toNat

/-- OP-QUERY (R159). -/
def reqOpQuery (tag : BitVec 16) (s : State) : Reply :=
  if h : tag.toNat / 4096 < 4 then
    let x := s.slot ⟨tag.toNat / 4096, h⟩
    if x.body = .empty ∨ x.gen ≠ BitVec.ofNat 12 tag.toNat then refuse .badValue s
    else ⟨.ok, x.body.queryBytes, s⟩
  else refuse .badIndex s

/-- NOTIFY-ACK (R159, R179). -/
def reqNotifyAck (n : BitVec 32) (s : State) : Reply :=
  if aheadOf n s.newestNote then refuse .badValue s else ⟨.ok, [], acknowledge n s⟩

/-- DEVICE-RESET (R162): OK with no data; the reset itself comes when its response has left. -/
def reqDeviceReset (s : State) : Reply := ⟨.ok, [], s⟩

end Sys2Proof.Machine
end

