-- ==== Sys2Proof/Machine/Management.lean ====
section
/-! DEFINITION. The Management Engine (chapter 9): the checks of an entry, a frame, its response, and the commands
ENGINE_TAKE_FRAME, RESPONSE_REOFFER and the sixteen requests. -/

namespace Sys2Proof.Machine

/-! ### Requests and their form (R150, R188, 13.3) -/

/-- A request entry of known code and right parameter length (R150, step 3). -/
inductive Req
  | echo (params : List Byte)
  | readEntry (table index : Byte)
  | readCounters (set index clear : Byte)
  | captureRead (lane : Byte)
  | captureRelease (lane : Byte)
  | writeEntry (table index : Byte) (items : List (Byte × List Byte))
  | groupEnable (group : Byte)
  | groupDisable (group : Byte)
  | groupResync (group : Byte)
  | laneAdd (group lane : Byte)
  | laneRemove (lane : Byte)
  | laneService (lane direction : Byte)
  | laneDiag (lane mode : Byte)
  | opQuery (tag : BitVec 16)
  | notifyAck (n : BitVec 32)
  | deviceReset
  deriving DecidableEq, Repr

/-- The WRITE-ENTRY of some item bytes: they must be items exactly, at least one (R188). -/
def writeReq (table index : Byte) (items : List Byte) : Option Req :=
  match parseItems items.length items with
  | some (i :: more) => some (.writeEntry table index (i :: more))
  | _ => none

/-- Step 3 of R150: the request a code and its parameters spell (R188, 13.3). -/
def parseReq (code : Byte) (params : List Byte) : Option Req :=
  match code.toNat, params with
  | 0x01, ps => some (.echo ps)
  | 0x02, [t, i] => some (.readEntry t i)
  | 0x03, t :: i :: items => writeReq t i items
  | 0x04, [t, i, c] => some (.readCounters t i c)
  | 0x05, [l] => some (.captureRead l)
  | 0x06, [l] => some (.captureRelease l)
  | 0x07, [g] => some (.groupEnable g)
  | 0x08, [g] => some (.groupDisable g)
  | 0x09, [g] => some (.groupResync g)
  | 0x0A, [g, l] => some (.laneAdd g l)
  | 0x0B, [l] => some (.laneRemove l)
  | 0x0C, [l, d] => some (.laneService l d)
  | 0x0D, [l, m] => some (.laneDiag l m)
  | 0x0E, [a, b] => some (.opQuery (BitVec.ofNat 16 (ofBe [a, b])))
  | 0x0F, [a, b, c, d] => some (.notifyAck (BitVec.ofNat 32 (ofBe [a, b, c, d])))
  | 0x10, [] => some .deviceReset
  | _, _ => none

/-- The largest result data of a request (13.3). -/
def Req.largest : Req → Nat
  | .echo _ => 255
  | .readEntry _ _ => 255
  | .readCounters _ _ _ => 152
  | .captureRead _ => 8
  | .groupDisable _ => 2
  | .laneAdd _ _ => 2
  | .laneRemove _ => 2
  | .opQuery _ => 12
  | .captureRelease _ => 0
  | .writeEntry _ _ _ => 0
  | .groupEnable _ => 0
  | .groupResync _ => 0
  | .laneService _ _ => 0
  | .laneDiag _ _ => 0
  | .notifyAck _ => 0
  | .deviceReset => 0

/-- The execution of a request: the checks of R150 from step 5 on, and the effect. -/
def Req.run (r : Req) (s : State) : Reply :=
  match r with
  | .echo ps => reqEcho ps s
  | .readEntry t i => reqReadEntry t i s
  | .readCounters t i c => reqReadCounters t i (decide (c ≠ 0)) s
  | .captureRead l => reqCaptureRead l s
  | .captureRelease l => reqCaptureRelease l s
  | .writeEntry t i items => reqWriteEntry t i items s
  | .groupEnable g => reqGroupEnable g s
  | .groupDisable g => reqGroupDisable g s
  | .groupResync g => reqGroupResync g s
  | .laneAdd g l => reqLaneAdd g l s
  | .laneRemove l => reqLaneRemove l s
  | .laneService l d => reqLaneService l d s
  | .laneDiag l m => reqLaneDiag l m s
  | .opQuery t => reqOpQuery t s
  | .notifyAck n => reqNotifyAck n s
  | .deviceReset => reqDeviceReset s

/-! ### One entry (R150) -/

/-- A READ-COUNTERS entry asks for a clear; one whose parameters hold no clear byte is judged as with clear (R151). -/
def asksClear (params : List Byte) : Bool :=
  match params[2]? with
  | some c => decide (c ≠ 0)
  | none => true

/-- The room step 4 of R150 asks for: `used` bytes of the response are built and `later` entries follow. -/
def hasRoom (used later largest : Nat) : Bool := decide (used + 4 + largest + 4 * later ≤ Config.mgmtFrameMax)

/-- Steps 2 to 9 of R150 for an entry, given what step 3 makes of its form. -/
def judgeEntry (o : Origin) (code : Byte) (clears : Bool) (req : Option Req) (used later : Nat) (s : State) : Reply :=
  if !accessAllows o s.dev.remoteAccess code clears then ⟨.denied, [], s.countDev .deniedEntries⟩
  else
    match req with
    | none => refuse .badRequest s
    | some r => if hasRoom used later r.largest then r.run s else refuse .noRoom s

/-! ### One frame (R147 to R149, R152, R153) -/

/-- The execution of a frame in progress: the part, the result entries built, whether stop-on-error has ended the frame, and
whether a DEVICE-RESET has been executed. -/
structure FrameRun where
  part : State
  built : List Byte
  stopped : Bool
  carriesReset : Bool

/-- A result that stop-on-error ends the frame on (R152). -/
def ResultCode.isFailure : ResultCode → Bool
  | .ok => false
  | .accepted => false
  | _ => true

/-- One entry of a frame, with `later` entries after it (R149, R150, R152). -/
def runEntry (o : Origin) (stop : Bool) (later : Nat) (code : Byte) (params : List Byte) (r : FrameRun) : FrameRun :=
  if r.stopped || r.carriesReset then
    { r with built := r.built ++ (EntryResult.mk code .notProcessed []).bytes }
  else
    let a := judgeEntry o code (asksClear params) (parseReq code params) (8 + r.built.length) later r.part
    { part := a.part
      built := r.built ++ (EntryResult.mk code a.result a.data).bytes
      stopped := stop && a.result.isFailure
      carriesReset := decide (code = 0x10) && decide (a.result = .ok) }

/-- The entries of a frame in order (R149). -/
def runEntries (o : Origin) (stop : Bool) : List (Byte × List Byte) → FrameRun → FrameRun
  | [], r => r
  | (code, params) :: rest, r => runEntries o stop rest (runEntry o stop rest.length code params r)

/-- A response offered to its destination (R153, R162). -/
def offerResponse (r : Response) (s : State) : State :=
  match r.origin with
  | .localSide =>
    if s.mgmtRoom then
      mgmtJoin ⟨r.bytes, r.carriesReset⟩
        (({ s with engine := if r.carriesReset then .resetting else .idle } : State).countDev .responsesSent)
    else { s with engine := .waiting r }
  | .remoteSide =>
    match s.judgeOffer r.bytes.length with
    | .taken g => admitFrame g .high 0 r.bytes (({ s with engine := .idle } : State).countDev .responsesSent)
    | .refused => { s with engine := .waiting r }
    | .discarded => ({ s with engine := .idle } : State).countDev .responsesDiscarded

/-- The entries of a request frame; `none` is a malformed frame (R148). -/
def frameEntries (bytes : List Byte) : Option (List (Byte × List Byte)) :=
  let n := (byteAt bytes 5).toNat
  if n = 0 ∨ 16 < n then none else parseEntries n (bytes.drop 8)

/-- A frame taken from the request queue: checked, executed, answered (R148, R149, R153). -/
def processFrame (f : RequestFrame) (s : State) : State :=
  match frameEntries f.bytes with
  | none => s.countDev .malformed
  | some entries =>
    let r := runEntries f.origin (frameStop f.bytes) entries ⟨s, [], false, false⟩
    offerResponse
      ⟨f.origin, responseFrame f.origin (frameTag f.bytes) (frameStop f.bytes) entries.length r.built, r.carriesReset⟩
      (r.part.countDev .framesProcessed)

/-- The IDLE engine takes the frame at the head of the request queue (R147). -/
def engineTakes (s : State) : State :=
  match s.engine, s.requestQueue with
  | .idle, f :: rest => processFrame f { s with requestQueue := rest }
  | _, _ => s

/-- ENGINE_TAKE_FRAME (R147). In WAITING, in RESETTING and on an empty queue the engine takes no frame. -/
def execEngineTakeFrame (s : State) : Host.Outcome State Fault Refusal := .next (engineTakes s)

/-- The WAITING engine offers its response again (R153), judged as the state stands now: the offer is an event of its own,
which other commands may precede (DESIGN CHOICE, log 51). -/
def reoffer (s : State) : State :=
  match s.engine with
  | .waiting r => offerResponse r s
  | _ => s

/-- RESPONSE_REOFFER (R153). -/
def execResponseReoffer (s : State) : Host.Outcome State Fault Refusal := .next (reoffer s)

/-! ### The entry commands (log 8)

Each is the one entry of a frame in execution at the IDLE engine, judged by R150; its result entry is left in
`lastResult`. -/

/-- The engine can execute entries: it is IDLE (R147) and the part is not held in reset. -/
def State.executes (s : State) : Bool := decide (s.engine = .idle) && !s.resetAsserted

/-- One request entry executed by itself. -/
def entryRow (o : Origin) (code : Byte) (clears : Bool) (req : Option Req) (s : State) : State :=
  if !s.executes then s
  else
    let a := judgeEntry o code clears req 8 0 s
    { a.part with lastResult := some ⟨code, a.result, a.data⟩ }

/-- ECHO (R154). -/
def execEcho (o : Origin) (params : List Byte) (s : State) : Host.Outcome State Fault Refusal :=
  .next (entryRow o 0x01 false (some (.echo params)) s)

/-- READ_ENTRY (R164). -/
def execReadEntry (o : Origin) (table index : Byte) (s : State) : Host.Outcome State Fault Refusal :=
  .next (entryRow o 0x02 false (some (.readEntry table index)) s)

/-- READ_COUNTERS (R171). -/
def execReadCounters (o : Origin) (set index clear : Byte) (s : State) : Host.Outcome State Fault Refusal :=
  .next (entryRow o 0x04 (decide (clear ≠ 0)) (some (.readCounters set index clear)) s)

/-- CAPTURE_READ (R32). -/
def execCaptureRead (o : Origin) (lane : Byte) (s : State) : Host.Outcome State Fault Refusal :=
  .next (entryRow o 0x05 false (some (.captureRead lane)) s)

/-- CAPTURE_RELEASE (R32). -/
def execCaptureRelease (o : Origin) (lane : Byte) (s : State) : Host.Outcome State Fault Refusal :=
  .next (entryRow o 0x06 false (some (.captureRelease lane)) s)

/-- WRITE_ENTRY (R155). Item bytes that are not items exactly give BAD-REQUEST (R188). -/
def execWriteEntry (o : Origin) (table index : Byte) (items : List Byte) (s : State) : Host.Outcome State Fault Refusal :=
  .next (entryRow o 0x03 false (writeReq table index items) s)

/-- GROUP_ENABLE (R156). -/
def execGroupEnable (o : Origin) (group : Byte) (s : State) : Host.Outcome State Fault Refusal :=
  .next (entryRow o 0x07 false (some (.groupEnable group)) s)

/-- GROUP_DISABLE (R141). -/
def execGroupDisable (o : Origin) (group : Byte) (s : State) : Host.Outcome State Fault Refusal :=
  .next (entryRow o 0x08 false (some (.groupDisable group)) s)

/-- GROUP_RESYNC (R59). -/
def execGroupResync (o : Origin) (group : Byte) (s : State) : Host.Outcome State Fault Refusal :=
  .next (entryRow o 0x09 false (some (.groupResync group)) s)

/-- LANE_ADD (R137). -/
def execLaneAdd (o : Origin) (group lane : Byte) (s : State) : Host.Outcome State Fault Refusal :=
  .next (entryRow o 0x0A false (some (.laneAdd group lane)) s)

/-- LANE_REMOVE (R139). -/
def execLaneRemove (o : Origin) (lane : Byte) (s : State) : Host.Outcome State Fault Refusal :=
  .next (entryRow o 0x0B false (some (.laneRemove lane)) s)

/-- LANE_SERVICE (R157). -/
def execLaneService (o : Origin) (lane direction : Byte) (s : State) : Host.Outcome State Fault Refusal :=
  .next (entryRow o 0x0C false (some (.laneService lane direction)) s)

/-- LANE_DIAG (R182). -/
def execLaneDiag (o : Origin) (lane mode : Byte) (s : State) : Host.Outcome State Fault Refusal :=
  .next (entryRow o 0x0D false (some (.laneDiag lane mode)) s)

/-- OP_QUERY (R159). -/
def execOpQuery (o : Origin) (tag : BitVec 16) (s : State) : Host.Outcome State Fault Refusal :=
  .next (entryRow o 0x0E false (some (.opQuery tag)) s)

/-- NOTIFY_ACK (R179). -/
def execNotifyAck (o : Origin) (n : BitVec 32) (s : State) : Host.Outcome State Fault Refusal :=
  .next (entryRow o 0x0F false (some (.notifyAck n)) s)

/-- The frame of an executed DEVICE-RESET ends with it (R162): its response, one result entry, is offered, and the engine
awaits its departure. -/
def answerReset (o : Origin) (tag : BitVec 16) (s : State) : State :=
  offerResponse ⟨o, responseFrame o tag false 1 (EntryResult.mk 0x10 .ok []).bytes, true⟩ (s.countDev .framesProcessed)

/-- DEVICE_RESET (R162): executed for LOCAL origin alone (R151). -/
def execDeviceReset (o : Origin) (tag : BitVec 16) (s : State) : Host.Outcome State Fault Refusal :=
  let s1 := entryRow o 0x10 false (some .deviceReset) s
  .next (if s.executes && accessAllows o s.dev.remoteAccess 0x10 false then answerReset o tag s1 else s1)

end Sys2Proof.Machine
end

