-- ==== Sys2Proof/Machine/Timebase.lean ====
section
/-! DEFINITION. What the part does when no command waits (DESIGN CHOICE, log 2): its own next event, else one microsecond
of the timebase (R166). -/

namespace Sys2Proof.Machine

/-- The timebase advances by 1 (R166); while the RESET input is asserted it stands at 0 (R180). -/
def tick (s : State) : State := if s.resetAsserted then s else { s with timebase := s.timebase + 1 }

/-- A timer that runs and is due. -/
def State.timerDue (s : State) (timer : Option Time) : Bool :=
  match timer with
  | some e => s.due e
  | none => false

/-- A waiting response would be taken or discarded if it were offered now (R153). -/
def State.offerSettles (s : State) : Bool :=
  match s.engine with
  | .waiting r =>
    match r.origin with
    | .localSide => s.mgmtRoom
    | .remoteSide => decide (s.judgeOffer r.bytes.length ≠ .refused)
  | _ => false

/-- The timeout of an operation in flight is due (R161). -/
def State.opDue (s : State) (k : SlotIx) : Bool :=
  match (s.slot k).body with
  | .inFlight _ _ e => s.due e
  | _ => false

/-- The part is ready to take this event of its own. Only the events the part brings about itself are here; the ends of
transmissions, whose times the manual does not give (log 24), are not. -/
def State.ready (s : State) : Instr → Bool
  | .heldFrameJoin g => (s.group g).held.isSome && decide ((s.group g).egress.length < Config.egressQueueMax)
  | .responseReoffer => s.offerSettles
  | .notificationOffer => (offerOnce s).isSome
  | .engineTakeFrame => decide (s.engine = .idle) && !s.requestQueue.isEmpty
  | .segmentPlacement g => s.canPlace g
  | .segmentTransmitStart l => (s.txChoice l).isSome
  | .intervalExpiry l => s.timerDue (s.lane l).intervalTimer
  | .markerTimerExpiry l => s.timerDue (s.lane l).markerTimer
  | .holeTimerExpiry g => s.timerDue ((s.group g).hole.map (·.expiry))
  | .skewHoldExpiry l => s.timerDue (s.lane l).skewHold
  | .operationTimeout k => s.opDue k
  | .retryExpiry => s.timerDue s.retry
  | _ => false

/-- The events of the part's own, in the order they are looked at (DESIGN CHOICE, log 2). -/
def ownEvents : List Instr :=
  allGroups.map .heldFrameJoin ++ [.responseReoffer, .notificationOffer, .engineTakeFrame] ++
  allGroups.map .segmentPlacement ++ allLanes.map .segmentTransmitStart ++ allLanes.map .intervalExpiry ++
  allLanes.map .markerTimerExpiry ++ allGroups.map .holeTimerExpiry ++ allLanes.map .skewHoldExpiry ++
  allSlots.map .operationTimeout ++ [.retryExpiry]

/-- The part's own next event; none while the RESET input is asserted. -/
def State.ownEvent (s : State) : Option Instr := if s.resetAsserted then none else ownEvents.find? s.ready

end Sys2Proof.Machine
end

