-- ==== Sys2Proof/Machine/Dispatch.lean ====
section
/-! DEFINITION. The meaning of every command: one arm per row of opcode_table.json. -/

namespace Sys2Proof.Machine

def exec (i : Instr) (s : State) : Host.Outcome State Fault Refusal :=
  match i with
  | .powerOnReset => Sys2Proof.Machine.execPowerOnReset s
  | .transmitInhibitAssert => Sys2Proof.Machine.execTransmitInhibitAssert s
  | .transmitInhibitRelease => Sys2Proof.Machine.execTransmitInhibitRelease s
  | .carrierLoss lane midSegment => Sys2Proof.Machine.execCarrierLoss lane midSegment s
  | .carrierReturn lane => Sys2Proof.Machine.execCarrierReturn lane s
  | .segmentTaken lane bytes => Sys2Proof.Machine.execSegmentTaken lane bytes s
  | .intervalExpiry lane => Sys2Proof.Machine.execIntervalExpiry lane s
  | .markerTimerExpiry lane => Sys2Proof.Machine.execMarkerTimerExpiry lane s
  | .holeTimerExpiry group => Sys2Proof.Machine.execHoleTimerExpiry group s
  | .skewHoldExpiry lane => Sys2Proof.Machine.execSkewHoldExpiry lane s
  | .operationTimeout slot => Sys2Proof.Machine.execOperationTimeout slot s
  | .retryExpiry => Sys2Proof.Machine.execRetryExpiry s
  | .ingressFrameTaken stream errorMark straddlesReset payload => Sys2Proof.Machine.execIngressFrameTaken stream errorMark straddlesReset payload s
  | .egressPauseAssert => Sys2Proof.Machine.execEgressPauseAssert s
  | .egressPauseRelease => Sys2Proof.Machine.execEgressPauseRelease s
  | .egressTransmissionEnd => Sys2Proof.Machine.execEgressTransmissionEnd s
  | .heldFrameJoin group => Sys2Proof.Machine.execHeldFrameJoin group s
  | .segmentPlacement group => Sys2Proof.Machine.execSegmentPlacement group s
  | .segmentTransmitStart lane => Sys2Proof.Machine.execSegmentTransmitStart lane s
  | .segmentTransmitEnd lane => Sys2Proof.Machine.execSegmentTransmitEnd lane s
  | .engineTakeFrame => Sys2Proof.Machine.execEngineTakeFrame s
  | .responseReoffer => Sys2Proof.Machine.execResponseReoffer s
  | .echo origin params => Sys2Proof.Machine.execEcho origin params s
  | .readEntry origin table index => Sys2Proof.Machine.execReadEntry origin table index s
  | .readCounters origin set index clear => Sys2Proof.Machine.execReadCounters origin set index clear s
  | .captureRead origin lane => Sys2Proof.Machine.execCaptureRead origin lane s
  | .captureRelease origin lane => Sys2Proof.Machine.execCaptureRelease origin lane s
  | .writeEntry origin table index items => Sys2Proof.Machine.execWriteEntry origin table index items s
  | .groupEnable origin group => Sys2Proof.Machine.execGroupEnable origin group s
  | .groupDisable origin group => Sys2Proof.Machine.execGroupDisable origin group s
  | .groupResync origin group => Sys2Proof.Machine.execGroupResync origin group s
  | .laneAdd origin group lane => Sys2Proof.Machine.execLaneAdd origin group lane s
  | .laneRemove origin lane => Sys2Proof.Machine.execLaneRemove origin lane s
  | .laneService origin lane direction => Sys2Proof.Machine.execLaneService origin lane direction s
  | .laneDiag origin lane mode => Sys2Proof.Machine.execLaneDiag origin lane mode s
  | .opQuery origin tag => Sys2Proof.Machine.execOpQuery origin tag s
  | .notifyAck origin n => Sys2Proof.Machine.execNotifyAck origin n s
  | .deviceReset origin tag => Sys2Proof.Machine.execDeviceReset origin tag s
  | .deviceResetEffect => Sys2Proof.Machine.execDeviceResetEffect s
  | .notificationOffer => Sys2Proof.Machine.execNotificationOffer s
  | .resetInputRelease => Sys2Proof.Machine.execResetInputRelease s

end Sys2Proof.Machine
end

