-- ==== Sys2Proof/Safety.lean ====
section
/-! DEFINITION. What holds throughout a safe run: the laws the manual states (L1, L2, L3, L4, L10, L11), the capacities of
its queues, the ranges of its settings and counts, and the ties between the fields of a lane, a group and a slot. -/

namespace Sys2Proof.Machine

/-! ### Buffers and bytes -/

/-- Buffers held by the four groups (R80). -/
def State.poolHeld (s : State) : Nat := (allGroups.map fun g => (s.group g).heldCount).sum

/-- Law L1 (R80): free buffers and held buffers make the whole pool. -/
def State.PoolWhole (s : State) : Prop := s.poolFree + s.poolHeld = Config.poolBuffers

/-- Bonded bytes in the eight class queues (R97). -/
def State.storeUsed (s : State) : Nat := (allGroups.map fun g => (s.group g).storeBytes).sum

/-- The free count of the Transmit Store is what the class queues leave (R97). -/
def State.StoreWhole (s : State) : Prop := s.storeFree + s.storeUsed = Config.storeBytes

/-! ### Capacities -/

/-- The queues and counts of a lane keep their capacities (R22, R23, R24, R31, R36, R113, R116, R167, R184). -/
def LaneState.Bounded (x : LaneState) : Prop :=
  x.queue.length ≤ Config.laneQueueMax ∧ x.returnQueue.length ≤ Config.returnQueueMax ∧ x.debt ≤ 7 ∧
    x.interval.errorCount ≤ 255 ∧ x.capture.suppressed ≤ 255 ∧ x.good ≤ 15 ∧ x.miss ≤ 7 ∧ x.assoc.strikes?.getD 0 ≤ 7

/-- The queues of a group keep their capacities (R73, R96). -/
def GroupState.Bounded (x : GroupState) : Prop :=
  x.high.length ≤ Config.classQueueMax ∧ x.normal.length ≤ Config.classQueueMax ∧
    x.egress.length ≤ Config.egressQueueMax

/-- Every queue and count of the part keeps its capacity (R73, R74, R96, R113, R116, R146, R175, R184). -/
def State.Bounded (s : State) : Prop :=
  s.mgmtOut.length ≤ Config.mgmtOutMax ∧ s.requestQueue.length ≤ Config.requestQueueMax ∧
    s.notes.length ≤ Config.noteQueueMax ∧ s.tally ≤ 4294967295 ∧ (∀ l, (s.lane l).Bounded) ∧ ∀ g, (s.group g).Bounded

/-! ### Notifications -/

/-- The sequences of `notes` are consecutive and the last is the one before `next` (law L10, R175). -/
def consecutive (next : BitVec 32) : List Note → Prop
  | [] => True
  | r :: rest => r.seq = next - BitVec.ofNat 32 (rest.length + 1) ∧ consecutive next rest

/-- Law L10 (R175): at most 32 records, consecutive and increasing from oldest to newest, the sent ones before the
unsent. -/
def State.NotesLawful (s : State) : Prop :=
  s.notes.length ≤ Config.noteQueueMax ∧ consecutive s.nextNote s.notes ∧
    s.notes.Pairwise fun a b => b.sent = true → a.sent = true

/-! ### Settings -/

/-- The DEVICE settings lie in their ranges (R165). -/
def DevSettings.InRange (d : DevSettings) : Prop :=
  (100 ≤ d.markerInterval ∧ d.markerInterval ≤ 10000) ∧ (2 ≤ d.urgentLevel ∧ d.urgentLevel ≤ 6) ∧
    (1 ≤ d.missLimit ∧ d.missLimit ≤ 7) ∧ (1 ≤ d.errorLimit ∧ d.errorLimit ≤ 255) ∧
    (1 ≤ d.restoreCount ∧ d.restoreCount ≤ 15) ∧ (10 ≤ d.opTimeout ∧ d.opTimeout ≤ 60000) ∧
    (10 ≤ d.retryInterval ∧ d.retryInterval ≤ 10000)

/-- The GROUP settings lie in their ranges and agree with each other (R168). -/
def GroupState.InRange (x : GroupState) : Prop :=
  (x.segSize = 64 ∨ x.segSize = 128 ∨ x.segSize = 192) ∧ (32 ≤ x.window ∧ x.window ≤ 1024 ∧ x.window % 32 = 0) ∧
    (10 ≤ x.holeTime ∧ x.holeTime ≤ 65535) ∧ (1 ≤ x.skewLimit ∧ x.skewLimit < x.window) ∧
    (1 ≤ x.strikeLimit ∧ x.strikeLimit ≤ 7) ∧ (10 ≤ x.skewHold ∧ x.skewHold ≤ 10000) ∧
    (1 ≤ x.minLanes ∧ x.minLanes ≤ 8) ∧ x.reservation ≤ 1024 ∧ (8 ≤ x.holdLevel ∧ x.holdLevel ≤ 32)

/-- The settings of a STREAM entry lie in their ranges (R170). -/
def StreamState.InRange (x : StreamState) : Prop := 16 ≤ x.maxLen ∧ x.maxLen ≤ 4096

/-- Entry 0 holds its fixed settings (R94, R170). -/
def StreamState.Fixed (x : StreamState) : Prop :=
  x.valid = true ∧ x.group = 0 ∧ x.cls = .high ∧ x.maxLen = 4096

/-- Every setting of every table lies in its range, and a lane's deficit in the range its weight gives it (R110, R165 to
R170). -/
def State.SettingsInRange (s : State) : Prop :=
  s.dev.InRange ∧ (∀ l, (1 ≤ (s.lane l).weight ∧ (s.lane l).weight ≤ 8) ∧ (s.lane l).deficit ≤ 8) ∧
    (∀ g, (s.group g).InRange) ∧ (∀ x, (s.stream x).InRange) ∧ (s.stream 0).Fixed

/-! ### Lanes -/

/-- Law L3 (R127): a lane is tied to at most one group. -/
def State.OneGroup (s : State) : Prop :=
  ∀ l g h, (s.lane l).role.group? = some g → (s.lane l).assoc.group? = some h → g = h

/-- What the service state and the diagnostic mode of a lane tie (R21, R121, R126, R133, R157): a lane out of service is
DOWN, silent and unattached, a lane in service is not DOWN and its timers run, a lane in a diagnostic mode is unattached, and
only an ALIGNED lane is MEMBER. -/
def LaneState.Attached (x : LaneState) : Prop :=
  (x.inService = false → x.rx = .down ∧ x.intervalTimer = none ∧ x.markerTimer = none ∧ x.debt = 0 ∧
      x.role = .off ∧ x.assoc = .none) ∧
    (x.inService = true → x.rx ≠ .down ∧ x.intervalTimer.isSome = true ∧ x.markerTimer.isSome = true) ∧
    (x.diag ≠ .none → x.role = .off ∧ x.assoc = .none) ∧
    (x.assoc.isMember = true → x.rx = .aligned)

/-- The ties of every lane. -/
def State.LanesAttached (s : State) : Prop := ∀ l, (s.lane l).Attached

/-! ### The receive contexts -/

/-- The entries lie at rising distances from `e`, each below `w` (law L2, R43, R36). -/
def windowed (e : Seq) (w : Nat) (store : List DataSeg) : Prop :=
  (∀ d ∈ store, dist e d.seq < w) ∧ store.Pairwise fun a b => dist e a.seq < dist e b.seq

/-- Law L2 (R43) for one context, with what DISABLED and RESYNC leave (R58, R60): outside FORMING and UP there are no
sequences and no entries, and with the transmit state DISABLED the context is DISABLED. -/
def GroupState.StoreLawful (x : GroupState) : Prop :=
  (x.tx = .disabled → x.ctx = .disabled) ∧
    (x.ctx.live = false → x.expected = none ∧ x.highest = none ∧ x.store = [] ∧ x.hole = none) ∧
    (x.ctx.live = true → ∃ e, x.expected = some e ∧ windowed e x.window x.store)

/-- Law L2 for every context. -/
def State.StoresLawful (s : State) : Prop := ∀ g, (s.group g).StoreLawful

/-! ### The group-hold outputs -/

/-- What R100 leaves after every judgment: an asserted output has a class queue above the hold level less 4, a released one
has both below the hold level; a group whose Segmenter does not work has empty queues and a released output (R99, R106), and
a group has a disable record exactly in DISABLING (R141). -/
def GroupState.HoldLawful (x : GroupState) : Prop :=
  (8 ≤ x.holdLevel ∧ x.holdLevel ≤ 32) ∧ (x.disable.isSome = true ↔ x.tx = .disabling) ∧
    (x.tx.cutting = false → x.high = [] ∧ x.normal = [] ∧ x.hold = false) ∧
    (x.hold = true → x.holdLevel < x.high.length + 4 ∨ x.holdLevel < x.normal.length + 4) ∧
    (x.hold = false → x.high.length < x.holdLevel ∧ x.normal.length < x.holdLevel)

/-- The same of every group. -/
def State.HoldsLawful (s : State) : Prop := ∀ g, (s.group g).HoldLawful

/-! ### Long operations -/

/-- The role of a lane agrees with its queue and with the operation in flight on it (law L4, R113, R126, R137, R139, R141):
OFF, PROBATION and WITHDRAWN lanes have empty queues, a DRAINING lane does not; a LANE-ADD in flight means PROBATION and the
reverse; a LANE-REMOVE in flight means DRAINING or OFF; a DRAINING lane is being removed or disabled. -/
def State.RoleLawful (s : State) (l : LaneIx) : Prop :=
  match (s.lane l).role with
  | .off => (s.lane l).queue = [] ∧ ∀ p, (s.lane l).op = some p → p.kind = .remove
  | .probation g => (s.lane l).queue = [] ∧ ∃ p, (s.lane l).op = some p ∧ p.kind = .add ∧ p.group = g
  | .active _ => (s.lane l).op = none
  | .withdrawn _ => (s.lane l).queue = [] ∧ (s.lane l).op = none
  | .draining g => (s.lane l).queue ≠ [] ∧
      ((∃ p, (s.lane l).op = some p ∧ p.kind = .remove ∧ p.group = g) ∨
        ((s.lane l).op = none ∧ ∃ d, (s.group g).disable = some d ∧ inSet d.set l = true))

/-- The long operation that an operation of kind `k` on lane `l` is. -/
def LaneOpKind.on (k : LaneOpKind) (l : LaneIx) : OpKind :=
  match k with
  | .add => .laneAdd l
  | .remove => .laneRemove l

/-- A slot holds the operation `op` in flight with generation `gen`. -/
def State.holdsOp (s : State) (k : SlotIx) (gen : BitVec 12) (op : OpKind) : Prop :=
  (s.slot k).gen = gen ∧ ∃ a e, (s.slot k).body = .inFlight op a e

/-- Law L11 (R160) with what it rests on: each operation in flight on a lane or group stands in the slot its tag names, each
IN-FLIGHT slot is one of those, a group has a disable record exactly in DISABLING, a lane of a disable set has no operation
and is DRAINING or OFF, every lane naming a group in DISABLING is in its set, no operation acts for a group in DISABLING, and
the completion order lists the COMPLETE slots, each once. -/
def State.OpsLawful (s : State) : Prop :=
  (∀ l p, (s.lane l).op = some p → s.holdsOp p.slot p.gen (p.kind.on l)) ∧
    (∀ g d, (s.group g).disable = some d → s.holdsOp d.slot d.gen (.groupDisable g)) ∧
    (∀ k l a e, (s.slot k).body = .inFlight (.laneAdd l) a e →
      ∃ p, (s.lane l).op = some p ∧ p.slot = k ∧ p.kind = .add) ∧
    (∀ k l a e, (s.slot k).body = .inFlight (.laneRemove l) a e →
      ∃ p, (s.lane l).op = some p ∧ p.slot = k ∧ p.kind = .remove) ∧
    (∀ k g a e, (s.slot k).body = .inFlight (.groupDisable g) a e →
      ∃ d, (s.group g).disable = some d ∧ d.slot = k) ∧
    (∀ g, ((s.group g).disable.isSome = true ↔ (s.group g).tx = .disabling)) ∧
    (∀ g d l, (s.group g).disable = some d → inSet d.set l = true →
      (s.lane l).op = none ∧ ((s.lane l).role = .off ∨ (s.lane l).role = .draining g)) ∧
    (∀ l g, (s.lane l).role.group? = some g → (s.group g).tx ≠ .disabled) ∧
    (∀ l g d, (s.lane l).role.group? = some g → (s.group g).disable = some d → inSet d.set l = true) ∧
    (∀ l p, (s.lane l).op = some p → (s.group p.group).disable = none) ∧
    s.completionOrder.Nodup ∧
    (∀ k, k ∈ s.completionOrder ↔ ∃ op a e o t, (s.slot k).body = .complete op a e o t) ∧
    ∀ l, s.RoleLawful l

/-! ### What an event changes -/

/-- `t` is `s` but for what posting records and offering frames change (R74, R75, R174 to R178): the Notification Unit, the
seven DEVICE counters of R181, frames that join the tail of the management output queue, and an idle, unpaused egress that
begins a management frame. -/
def NotesOnly (s t : State) : Prop :=
  t = { s with
    notes := t.notes
    nextNote := t.nextNote
    tally := t.tally
    retry := t.retry
    resendPending := t.resendPending
    mgmtOut := t.mgmtOut
    egressBusy := t.egressBusy
    devCtr := t.devCtr } ∧
  (∀ c : DevCtr, c.ix.val < 15 → t.devCount c = s.devCount c) ∧
  (∃ more, t.mgmtOut = s.mgmtOut ++ more ∧ ∀ f ∈ more, f.carriesReset = false) ∧
  (t.egressBusy = s.egressBusy ∨
    (s.egressBusy = none ∧ s.egressPause = false ∧ t.egressBusy = some .management))

/-- `n` posts find room and an empty overflow tally (R176). -/
def State.HasRoom (s : State) (n : Nat) : Prop := s.notes.length + n ≤ Config.noteQueueMax ∧ s.tally = 0

/-- Between `s` and `t` exactly the records `bodies` joined the notification queue, in this order (R175, R176). -/
def Posted (bodies : List NoteBody) (s t : State) : Prop :=
  t.notes.map Note.body = s.notes.map Note.body ++ bodies ∧
    t.nextNote = s.nextNote + BitVec.ofNat 32 bodies.length ∧ t.tally = s.tally

/-- `t` is what a reset of the whole part makes of `s`: the RESET input asserted, its release, or the departure of the
response of an executed DEVICE-RESET (R162, R173, R180). -/
def AfterReset (s t : State) : Prop :=
  exec .powerOnReset s = .next t ∨ (s.resetAsserted = true ∧ exec .resetInputRelease s = .next t) ∨
    (s.resetResponseInFlight = true ∧
      (exec .deviceResetEffect s = .next t ∨ exec .egressTransmissionEnd s = .next t))

/-- The Management Engine executes an entry of request code `code` for origin `o`: it is IDLE, the part is not held in
reset, and the entry is allowed (R147, R151). -/
def State.Admits (s : State) (o : Origin) (code : Byte) (clears : Bool) : Prop :=
  s.engine = .idle ∧ s.resetAsserted = false ∧ accessAllows o s.dev.remoteAccess code clears = true

/-- `s` with the result entry of an entry command (log 8). -/
def State.answered (s : State) (code : Byte) (result : ResultCode) (data : List Byte) : State :=
  { s with lastResult := some ⟨code, result, data⟩ }

/-- A lane other than `l` in no diagnostic mode is ALIGNED (R129). -/
def State.othersAligned (s : State) (l : LaneIx) : Bool :=
  allLanes.any fun m => decide (m ≠ l) && decide ((s.lane m).rx = .aligned) && decide ((s.lane m).diag = .none)

/-- `s` with lane `l` gone from ALIGNED to LOST for reason `r` (R25, R33), and the peer report cleared when no lane keeps it
alive (R129); for a lane that is MEMBER of no group. -/
def State.withLost (s : State) (l : LaneIx) (r sr : Reason) : State :=
  { (s.modLane l fun x => { x with rx := .lost, reason := r, searchReason := sr, good := 0, miss := 0 }).countLane l
      .lostEntries with
    peerReport := if s.othersAligned l then s.peerReport else none }

/-- `s` with the GROUP-DISABLE of `g` in slot `k` completed with outcome `o` (R60, R71, R142, R161): the slot COMPLETE, every
lane MEMBER or SUSPENDED in `g` NONE with its skew hold stopped, the store and the assembler's frame discarded, and both
states DISABLED. What stands in the egress queue stays (R73). -/
def State.withGroupDisabled (s : State) (g : GroupIx) (k : SlotIx) (o : OpOutcome) : State :=
  let x := s.group g
  let n := x.store.length + (match x.building with | some p => p.chain.length | none => 0) +
    (match x.held with | some f => f.chain.length | none => 0)
  let lane := fun (y : LaneState) =>
    if y.assoc.group? = some g then { y with assoc := .none, skewHold := none } else y
  let body := fun (b : SlotBody) =>
    match b with
    | .inFlight op a e => .complete op a e o s.timebase
    | b => b
  (((({ s with
      poolFree := s.poolFree + n
      lanes := s.lanes.map lane
      completionOrder := s.completionOrder ++ [k] } : State).modSlot k fun y => { y with body := body y.body }).modGroup g
    fun y =>
      { y with
        tx := .disabled, ctx := .disabled, disable := none, store := [], expected := none, highest := none, hole := none
        building := none, held := none, awaitingFirst := true, heldCount := y.heldCount - n }).countGroup g .disableDiscard
          x.store.length).countGroup g .assemblyDiscard (x.building.toList.length + x.held.toList.length) |>.countGroup g
            .buffersReturned n

/-- The records the completion of a GROUP-DISABLE posts (R142, R161), in the order R142 gives. -/
def State.disableRecords (s : State) (g : GroupIx) (k : SlotIx) (o : OpOutcome) : List NoteBody :=
  (allLanes.filterMap fun l =>
    if (s.lane l).assoc.group? = some g then some (.receiveSet l (s.lane l).assoc .none g .left) else none) ++
  (if (s.group g).ctx = .disabled then [] else [.groupRx g (s.group g).ctx .disabled]) ++
  (if (s.group g).tx = .disabled then [] else [.groupTx g (s.group g).tx .disabled]) ++
  match (s.slot k).body with
  | .inFlight op _ _ => [.opDone k (s.slot k).gen op o]
  | _ => []

/-- The GROUP-DISABLE recorded as `d` completes in an event that leaves lane `l` in role `role l` and the peer report with
accepted map `accepted` (R142): its set is not empty, all its lanes are OFF, and none is in the map. -/
def DisableRec.completes (d : DisableRec) (role : LaneIx → Role) (accepted : LaneSet) : Bool :=
  decide (d.set ≠ 0) && (allLanes.all fun l => !inSet d.set l || decide (role l = .off)) &&
    decide (accepted &&& d.set = 0)

/-- The role a report with accepted and aligned bits `acc` and `al` leaves a lane in, when the report it replaced showed the
lane aligned or not (R130). -/
def judgedRole (role : Role) (acc al wasAligned : Bool) : Role :=
  match role with
  | .probation g => if acc then .active g else if !al && wasAligned then .off else .probation g
  | .withdrawn g => if acc then .active g else .withdrawn g
  | .active g => if acc then .active g else .withdrawn g
  | .draining g => if acc then .draining g else .off
  | .off => .off

/-- The role of lane `n` after a marker with the maps of `m` has replaced the peer report (R130). -/
def State.reportedRole (s : State) (m : MarkerBody) (n : LaneIx) : Role :=
  judgedRole (s.lane n).role (inSet m.accepted n) (inSet m.aligned n)
    (match s.peerReport with | some r => inSet r.aligned n | none => false)

/-- The GROUP-DISABLE of `g` completes in the report of a marker with the maps of `m` (R142). -/
def State.reportCompletes (s : State) (m : MarkerBody) (g : GroupIx) : Bool :=
  match (s.group g).disable with
  | some d => d.completes (s.reportedRole m) m.accepted
  | none => false

/-- A DRAINING lane of the set of `d` is dropped by the report of a marker with the maps of `m` (R130, R141). -/
def State.reportDrops (s : State) (m : MarkerBody) (d : DisableRec) : Bool :=
  allLanes.any fun n => inSet d.set n && !inSet m.accepted n &&
    match (s.lane n).role with
    | .draining _ => true
    | _ => false

/-- The outcome that a report with accepted bit `acc` and aligned bit `al` gives the operation of kind `kind` on a lane in
role `role`, when the report it replaced showed the lane aligned or not (R137, R139); none where it goes on. -/
def reportEnding (role : Role) (kind : LaneOpKind) (acc al wasAligned : Bool) : Option OpOutcome :=
  match role, kind with
  | .probation _, .add => if acc then some .done else if !al && wasAligned then some .laneFault else none
  | .draining _, .remove => if acc then none else some .doneWithLoss
  | .off, .remove => if acc then none else some .done
  | _, _ => none

/-- The request entries of a frame in bytes (13.3). -/
def entryBytes (entries : List (Byte × List Byte)) : List Byte :=
  (entries.map fun e => e.1 :: byte e.2.length :: e.2).flatten

/-- The segments a bonded frame is cut into, from sequence `seq` on (R8, R108). -/
def cutFrame (g : GroupIx) (size : Nat) (seq : Seq) (f : TxFrame) : List DataSeg :=
  (List.range ((f.bonded.length + size - 1) / size)).map fun i =>
    sliceSegment g size (seq + BitVec.ofNat 16 i) ⟨.normal, i * size⟩ f

/-! ### A safe run -/

/-- A safe state: every law above holds. The manual names no fault, so a run is safe when all its states are. -/
def State.Safe (s : State) : Prop :=
  s.PoolWhole ∧ s.StoreWhole ∧ s.Bounded ∧ s.NotesLawful ∧ s.SettingsInRange ∧ s.OneGroup ∧ s.LanesAttached ∧
    s.StoresLawful ∧ s.HoldsLawful ∧ s.OpsLawful

end Sys2Proof.Machine
end

