-- ==== Sys2Proof/Certificates/Slice0/Obligations.lean ====
section
/-! DEFINITION. The statements for the provers. Each docstring names the rules of spec/ the statement formalises; where a
clause rests on a choice of the model, the docstring names the log entry. -/

open Sys2Proof Sys2Proof.Machine

/-! ### The machine -/

/-- A step takes the command at the front of the queue and runs it on the part with the rest of the queue (log 1). -/
def Obligations.StepTakesFirstCommand : Prop :=
  ∀ (s : State) (c : Instr) (rest : List Instr), s.pending = c :: rest → step s = exec c { s with pending := rest }

/-- The model's choice for a part with no command waiting (log 2): its own next event, which is ready, else one microsecond
of the timebase; nothing at all while the RESET input is asserted (log 31). -/
def Obligations.StepWithoutCommands : Prop :=
  ∀ s : State, s.pending = [] →
    (s.resetAsserted = true → step s = .next s) ∧
    (∀ c, s.resetAsserted = false → s.ownEvent = some c → s.ready c = true ∧ step s = exec c s) ∧
    (s.resetAsserted = false → (∀ c ∈ ownEvents, s.ready c = false) →
      step s = .next { s with timebase := s.timebase + 1 })

/-- No command faults or is refused, and none touches the queue of waiting commands. -/
def Obligations.EveryCommandCompletes : Prop :=
  ∀ (c : Instr) (s : State), ∃ t, exec c s = .next t ∧ t.pending = s.pending

/-! ### Laws kept by every step -/

/-- After the power-on reset every law holds. -/
def Obligations.ResetIsSafe : Prop := State.reset.Safe

/-- Law L1 (R80): free buffers plus the buffers held by the four groups always equal 2048; and R97: the store's free count is
262,144 less the bonded lengths of the frames in the eight class queues. -/
def Obligations.PoolAndStoreLawsKept : Prop :=
  ∀ s t : State, step s = .next t → (s.PoolWhole → t.PoolWhole) ∧ (s.StoreWhole → t.StoreWhole)

/-- Every queue, tally and limit count keeps its capacity, law L9 (R116) among them; the good-interval, miss and strike counts
rest on their settings being in range, which SettingsStayInRange keeps. -/
def Obligations.CapacitiesKept : Prop :=
  ∀ s t : State, s.SettingsInRange → s.Bounded → step s = .next t → t.Bounded

/-- Law L10 (R175): consecutive sequences, and the sent records before the unsent ones. -/
def Obligations.NotificationLawKept : Prop := ∀ s t : State, s.NotesLawful → step s = .next t → t.NotesLawful

/-- Settings stay in their ranges, entry 0 of the stream table stays fixed, and deficits stay within 0 to 8 (R110, R165 to
R170). -/
def Obligations.SettingsStayInRange : Prop :=
  ∀ s t : State, s.SettingsInRange → step s = .next t → t.SettingsInRange

/-- Law L3 (R127): a lane's role and association name the same group. -/
def Obligations.OneGroupKept : Prop := ∀ s t : State, s.OneGroup → step s = .next t → t.OneGroup

/-- A lane out of service is DOWN, silent and unattached; a lane in a diagnostic mode is unattached; only an ALIGNED lane is
MEMBER (R121, R126, R133, R157). That the marker timer stops and the debt is 0 at once where a segment is in flight as the
lane goes out of service is the model's choice (log 50). -/
def Obligations.LanesStayAttached : Prop := ∀ s t : State, s.LanesAttached → step s = .next t → t.LanesAttached

/-- Law L2 (R43): every stored segment lies within the window, in order, and no two share a sequence. -/
def Obligations.WindowLawKept : Prop := ∀ s t : State, s.StoresLawful → step s = .next t → t.StoresLawful

/-- R100: between two judgments each group-hold output agrees with its class queues and its hold level, and a group whose
Segmenter does not work has empty queues and a released output (R99, R106). -/
def Obligations.GroupHoldLawKept : Prop := ∀ s t : State, s.HoldsLawful → step s = .next t → t.HoldsLawful

/-- Laws L4 and L11 (R113, R160) with the ties between roles, operations, disable records and slots. -/
def Obligations.OperationLawKept : Prop := ∀ s t : State, s.OpsLawful → step s = .next t → t.OpsLawful

/-! ### Rules over every command -/

/-- R120: while the transmit-inhibit input is asserted no lane begins a segment, one in flight stays or ends, and no segment
is placed. That a release changes the level alone is the model's choice (log 33): each start and each placement that it makes
possible is an event of its own, ready from that moment on. -/
def Obligations.InhibitedLanesBeginNothing : Prop :=
  (∀ s : State, exec .transmitInhibitAssert s = .next { s with txInhibit := true } ∧
    exec .transmitInhibitRelease s = .next { s with txInhibit := false }) ∧
  ∀ (c : Instr) (s t : State), s.txInhibit = true → exec c s = .next t →
    (∀ l, (t.lane l).flight = (s.lane l).flight ∨ (t.lane l).flight = none) ∧
    ∀ l, (t.lane l).queue = (s.lane l).queue ∨ (t.lane l).queue = []

/-- R76: the assertion of egress pause changes nothing by itself; while it is asserted the arbiter starts no frame, and the
release is the one command that starts one. -/
def Obligations.PausedEgressStartsNothing : Prop :=
  (∀ s : State, exec .egressPauseAssert s = .next { s with egressPause := true }) ∧
  ∀ (c : Instr) (s t : State), s.egressPause = true → c ≠ .egressPauseRelease → exec c s = .next t →
    t.egressBusy = s.egressBusy ∨ t.egressBusy = none

/-- R164, R167, R173: a setting stays until it is written or the part is reset. The commands left out are WRITE-ENTRY, the
engine's taking of a frame, which may hold one, and the four events of a reset; for the admin state LANE-SERVICE, and for the
diagnostic mode LANE-DIAG, are left out as well. -/
def Obligations.SettingsStayUntilWritten : Prop :=
  ∀ (c : Instr) (s t : State), exec c s = .next t → (∀ o table index items, c ≠ .writeEntry o table index items) →
    c ≠ .engineTakeFrame → c ≠ .powerOnReset → c ≠ .resetInputRelease → c ≠ .deviceResetEffect →
    c ≠ .egressTransmissionEnd →
    t.dev = s.dev ∧ (∀ l, (t.lane l).weight = (s.lane l).weight) ∧
      ((∀ o lane direction, c ≠ .laneService o lane direction) → ∀ l, (t.lane l).inService = (s.lane l).inService) ∧
      ((∀ o lane mode, c ≠ .laneDiag o lane mode) → ∀ l, (t.lane l).diag = (s.lane l).diag) ∧
      (∀ g, (t.group g).segSize = (s.group g).segSize ∧ (t.group g).window = (s.group g).window ∧
        (t.group g).holeTime = (s.group g).holeTime ∧ (t.group g).skewLimit = (s.group g).skewLimit ∧
        (t.group g).strikeLimit = (s.group g).strikeLimit ∧ (t.group g).skewHold = (s.group g).skewHold ∧
        (t.group g).minLanes = (s.group g).minLanes ∧ (t.group g).reservation = (s.group g).reservation ∧
        (t.group g).holdLevel = (s.group g).holdLevel) ∧
      ∀ x, (t.stream x).valid = (s.stream x).valid ∧ (t.stream x).group = (s.stream x).group ∧
        (t.stream x).cls = (s.stream x).cls ∧ (t.stream x).maxLen = (s.stream x).maxLen

/-- Law L12 (R31): a record in UNCORRECTABLE keeps its captured fields until CAPTURE-RELEASE or a reset. -/
def Obligations.CaptureLawKept : Prop :=
  ∀ (c : Instr) (s t : State) (l : LaneIx), (s.lane l).capture.state = .uncorrectable → exec c s = .next t →
    (∀ o lane, c ≠ .captureRelease o lane) → c ≠ .engineTakeFrame → c ≠ .powerOnReset → c ≠ .resetInputRelease →
    c ≠ .deviceResetEffect → c ≠ .egressTransmissionEnd →
    (t.lane l).capture.state = .uncorrectable ∧ (t.lane l).capture.syndrome = (s.lane l).capture.syndrome ∧
      (t.lane l).capture.time = (s.lane l).capture.time ∧ (t.lane l).capture.kind = (s.lane l).capture.kind

/-- Law L6 (R42): while a lane stays MEMBER of a group its passed mark is never moved behind its value: every event leaves it
or raises it. -/
def Obligations.PassedMarksOnlyRise : Prop :=
  ∀ (c : Instr) (s t : State) (l : LaneIx) (g : GroupIx) (m n : Seq) (j k : Nat),
    exec c s = .next t → (s.lane l).assoc = .member g m j → (t.lane l).assoc = .member g n k → behind n m = false

/-! ### The byte forms of chapter 13 -/

/-- A data or test segment as sent is read back as it was built (R6, R7, R8, R14, R17, 13.1). -/
def Obligations.SegmentsReadBack : Prop :=
  (∀ d : DataSeg, 1 ≤ d.payload.length → d.payload.length ≤ 192 →
    judgeHeader d.bytes = .good ⟨1, some .data, d.group, d.first, d.last, d.stream, d.seq, d.payload.length⟩ ∧
      d.bytes.drop 6 = d.payload) ∧
  ∀ q : Seq, judgeHeader (testBytes q) = .good ⟨1, some .test, 0, false, false, 0, q, 64⟩ ∧
    (testBytes q).drop 6 = testPattern q

/-- A marker as sent is read back as it was built: its header, with group and sequence 0 for role OFF, and its body (R10,
R11, R13, R19, 13.2). -/
def Obligations.MarkersReadBack : Prop :=
  ∀ (m : MarkerBody) (seq : Seq), ∃ h, judgeHeader (markerBytes m seq) = .good h ∧ h.kind = some .marker ∧
    h.first = false ∧ h.last = false ∧ h.field.val = m.role.code ∧
    (∀ g, m.role.group? = some g → h.group = g ∧ h.seq = seq) ∧ (m.role.group? = none → h.group = 0 ∧ h.seq = 0) ∧
    readMarker h.field ((markerBytes m seq).drop 6) = some m

/-- Every one of the 48 single flipped header bits of a segment whose header and content are good, of whatever kind, is
corrected to the header as sent, with a syndrome of its own and the payload as received (R7, R16, R17). -/
def Obligations.SingleBitErrorsCorrected : Prop :=
  ∀ (bytes : List Byte) (h : Header), judgeHeader bytes = .good h →
    (∀ k, k < 48 → ∃ syndrome, syndrome ≠ 0 ∧ judgeHeader (flipHeaderBit bytes k) = .corrected syndrome h ∧
      (flipHeaderBit bytes k).drop 6 = bytes.drop 6) ∧
    ∀ j k, j < 48 → k < 48 →
      headerCheck ((flipHeaderBit bytes j).take 6) = headerCheck ((flipHeaderBit bytes k).take 6) → j = k

/-- The entries of a request frame are read back as they were written, whatever follows them; cut short anywhere they are
not read (R148, R188, 13.3). -/
def Obligations.RequestEntriesReadBack : Prop :=
  ∀ (entries : List (Byte × List Byte)) (extra : List Byte), (∀ e ∈ entries, e.2.length ≤ 255) →
    parseEntries entries.length (entryBytes entries ++ extra) = some entries ∧
    ∀ n, n < (entryBytes entries).length → parseEntries entries.length ((entryBytes entries).take n) = none

/-! ### The Lane Receiver -/

/-- R41 with R42, R44, R80, R84, R85, R89, R90: the judgment of a data segment that arrives on an ALIGNED lane, from its bytes
to the resolution that ends it. -/
def Obligations.ArrivalsJudged : Prop :=
  ∀ (s : State) (l : LaneIx) (d : DataSeg), 1 ≤ d.payload.length → d.payload.length ≤ 192 →
    (s.lane l).rx = .aligned → (s.lane l).diag = .none → (s.lane l).cdPresent = true →
    let g := d.group
    let u := (s.countLane l .segmentsReceived).countLane l .dataPassed
    ((s.group g).ctx = .disabled → exec (.segmentTaken l d.bytes) s = .next (u.countGroup g .groupDisabled)) ∧
    ((s.group g).ctx ≠ .disabled → (s.lane l).assoc.memberOf g = false →
      exec (.segmentTaken l d.bytes) s = .next (u.countGroup g .notMember)) ∧
    ((s.group g).ctx = .resync → (s.lane l).assoc.memberOf g = true →
      exec (.segmentTaken l d.bytes) s = .next (u.countGroup g .resyncDiscard)) ∧
    ∀ e m k, (s.group g).ctx.live = true → (s.group g).expected = some e → (s.lane l).assoc = .member g m k →
      let v := (u.modLane l fun x => { x with assoc := .member g (raiseTo m d.seq) k }).modGroup g fun x =>
        { x with highest := x.highest.map fun h => raiseTo h d.seq }
      exec (.segmentTaken l d.bytes) s = .next (resolve g
        (if 32768 ≤ dist e d.seq then v.countGroup g .late
        else if (s.group g).window ≤ dist e d.seq then v.countGroup g .beyondWindow
        else if (s.group g).store.any fun x => x.seq = d.seq then v.countGroup g .duplicate
        else if s.poolFree = 0 ∨
            ((s.group g).reservation ≤ (s.group g).heldCount ∧ s.poolFree ≤ s.othersUnfilled g) then
          if (s.group g).armed then
            post (.poolExhausted g s.poolFree) ((v.countGroup g .noBuffer).modGroup g fun x => { x with armed := false })
          else v.countGroup g .noBuffer
        else
          ((({ v with poolFree := v.poolFree - 1, poolLow := min v.poolLow (v.poolFree - 1) } : State).modGroup g fun x =>
              { x with heldCount := x.heldCount + 1, armed := true, store := insertStore e d x.store }).countGroup g
                (if (s.group g).heldCount < (s.group g).reservation then .reservedGrants else .sharedGrants)).countGroup g
                  .stored))

/-- R15, R16, R18, R19, R22, R25, R31: what a Lane Receiver makes of a segment by its header and content: nothing where it
takes none; a good one goes on; a corrected one is counted, is an event at the capture record and goes on; an uncorrectable
one is counted, adds an error and is discarded. A marker that goes on with a body error is counted, adds an error and is
discarded. Where the error count of an ALIGNED lane reaches the error limit the lane is LOST; shown for a lane MEMBER of no
group. That LANE-STATE precedes CAPTURE in that event (log 15), and that CAPTURE precedes the records of a corrected segment
that goes on (log 45), are the model's. -/
def Obligations.FaultySegmentsTaken : Prop :=
  (∀ (s : State) (l : LaneIx) (bytes : List Byte),
    let x := s.lane l
    let n := min (x.interval.errorCount + 1) 255
    let u := s.countLane l .segmentsReceived
    let out := exec (.segmentTaken l bytes) s
    if x.rx = .down ∨ x.cdPresent = false ∨ x.diag = .loopLocal then out = .next s
    else
      (∀ h, judgeHeader bytes = .good h → out = .next (segmentGoesOn l h bytes u)) ∧
      (∀ syndrome h, judgeHeader bytes = .corrected syndrome h →
        let v := u.countLane l .corrected
        out = .next (segmentGoesOn l h bytes
          (if x.capture.state = .empty then
            post (.capture l .corrected syndrome)
              (v.modLane l fun y => { y with capture := ⟨.corrected, syndrome, s.timebase, h.kind, 0⟩ })
          else
            v.modLane l fun y => { y with capture := { y.capture with suppressed := min (y.capture.suppressed + 1) 255 } }))) ∧
      ∀ syndrome, judgeHeader bytes = .uncorrectable syndrome →
        let v := (u.countLane l .uncorrectable).modLane l fun y =>
          { y with interval := { y.interval with errorCount := n } }
        let captured := fun (w : State) => w.modLane l fun y =>
          { y with capture :=
              if y.capture.state = .uncorrectable then
                { y.capture with suppressed := min (y.capture.suppressed + 1) 255 }
              else ⟨.uncorrectable, syndrome, s.timebase, none, 0⟩ }
        let capture := if x.capture.state = .uncorrectable then [] else [NoteBody.capture l .uncorrectable syndrome]
        if x.rx = .aligned ∧ s.dev.errorLimit ≤ n then
          x.assoc.isMember = false → ∃ t, out = .next t ∧ NotesOnly (captured (v.withLost l .errors .noMarker)) t ∧
            (s.HasRoom 2 → Posted (.laneState l .aligned .lost .errors :: capture) s t)
        else
          ∃ t, out = .next t ∧ NotesOnly (captured v) t ∧ (s.HasRoom 1 → Posted capture s t)) ∧
  ∀ (s : State) (l : LaneIx) (bytes : List Byte) (h : Header), h.kind = some .marker →
    readMarker h.field (bytes.drop 6) = none →
    let n := min ((s.lane l).interval.errorCount + 1) 255
    let v := (s.countLane l .markerBodyError).modLane l fun y =>
      { y with interval := { y.interval with errorCount := n } }
    if (s.lane l).rx = .aligned ∧ s.dev.errorLimit ≤ n then
      (s.lane l).assoc.isMember = false →
        NotesOnly (v.withLost l .errors .noMarker) (segmentGoesOn l h bytes s) ∧
        (s.HasRoom 1 → Posted [.laneState l .aligned .lost .errors] s (segmentGoesOn l h bytes s))
    else segmentGoesOn l h bytes s = v

/-- R20, R22, R25, R26, R28, R34: a marker on a lane in SEARCH or LOST, in no diagnostic mode: valid, CROSSED or LOOPED; and
a CROSSED or LOOPED one on an ALIGNED lane that is MEMBER of no group. -/
def Obligations.MarkerJudged : Prop :=
  ∀ (s : State) (l : LaneIx) (m : MarkerBody) (S : Seq), (s.lane l).diag = .none → (s.lane l).cdPresent = true →
    (s.lane l).rx ≠ .down → (s.lane l).assoc.isMember = false →
    let looped := s.dev.stationToken ≠ 0 ∧ m.token = s.dev.stationToken
    let missing := match (s.lane l).lastCount with
      | some c => (m.count.toNat + 255 - c.toNat) % 256
      | none => 0
    let u := s.countLane l .segmentsReceived
    if looped ∨ m.lane ≠ l then
      let f : OriginFault := if looped then .looped else .crossed
      let r : Reason := if looped then .looped else .crossed
      let v := (u.countLane l (if looped then .looped else .crossed)).modLane l fun x =>
        { x with interval := { x.interval with originFault := some f } }
      if (s.lane l).rx = .aligned then
        ∃ t, exec (.segmentTaken l (markerBytes m S)) s = .next t ∧ NotesOnly (v.withLost l r r) t ∧
          (s.HasRoom 1 → Posted [.laneState l .aligned .lost r] s t)
      else if (s.lane l).searchReason = r then exec (.segmentTaken l (markerBytes m S)) s = .next v
      else
        ∃ t, exec (.segmentTaken l (markerBytes m S)) s = .next t ∧
          NotesOnly (v.modLane l fun x => { x with searchReason := r }) t ∧
          (s.HasRoom 1 → Posted [.laneState l (s.lane l).rx (s.lane l).rx r] s t)
    else
      (s.lane l).rx ≠ .aligned →
        exec (.segmentTaken l (markerBytes m S)) s =
          .next (((u.countLane l .validMarkers).countLane l .markerGap missing).modLane l fun x =>
            { x with interval := { x.interval with markerSeen := true }, lastCount := some m.count })

/-- R28, R182, R184, R186: what a lane that takes segments from its line makes of them by its diagnostic mode: the check of a
test segment in TEST, the discards, and the copy that LOOP-REMOTE returns or drops. A LOOP-LOCAL lane ignores its line
(FaultySegmentsTaken). -/
def Obligations.DiagnosticSegmentsTaken : Prop :=
  ∀ (s : State) (l : LaneIx), (s.lane l).rx ≠ .down → (s.lane l).cdPresent = true → (s.lane l).diag ≠ .loopLocal →
    let x := s.lane l
    let u := s.countLane l .segmentsReceived
    let copied := fun (bytes : List Byte) =>
      if x.diag ≠ .loopRemote then u
      else if x.returnQueue.length < 8 then u.modLane l fun y => { y with returnQueue := y.returnQueue ++ [bytes] }
      else u.countLane l .loopDropped
    (∀ d : DataSeg, 1 ≤ d.payload.length → d.payload.length ≤ 192 →
      (x.diag ≠ .none →
        exec (.segmentTaken l d.bytes) s = .next ((copied d.bytes).countLane l .diagnosticDiscard)) ∧
      (x.diag = .none → x.rx ≠ .aligned → exec (.segmentTaken l d.bytes) s = .next (u.countLane l .notAligned))) ∧
    (∀ (q : Seq) (payload : List Byte), payload.length = 64 →
      let bytes := segmentBytes .test 0 false false 0 q payload
      let t := x.test
      let d := dist (t.last + 1) q
      let gap := if t.received ≠ 0 ∧ 1 ≤ d ∧ d ≤ 32767 then d else 0
      let wrong := if payload = testPattern q then 0 else 1
      exec (.segmentTaken l bytes) s = .next
        (if x.diag = .test then
          (((u.countLane l .testReceived).countLane l .testGaps gap).countLane l .testPatternErrors wrong).modLane l fun y =>
            { y with test := ⟨t.received + 1, t.gaps + BitVec.ofNat 32 gap, t.patternErrors + BitVec.ofNat 32 wrong, q⟩ }
        else (copied bytes).countLane l .testDiscarded)) ∧
    ∀ (m : MarkerBody) (S : Seq), x.diag ≠ .none →
      let bytes := markerBytes m S
      let looped := s.dev.stationToken ≠ 0 ∧ m.token = s.dev.stationToken
      let missing := match x.lastCount with
        | some c => (m.count.toNat + 255 - c.toNat) % 256
        | none => 0
      if ¬looped ∧ m.lane = l then
        exec (.segmentTaken l bytes) s =
          .next ((((copied bytes).countLane l .validMarkers).countLane l .markerGap missing).modLane l fun y =>
            { y with interval := { y.interval with markerSeen := true }, lastCount := some m.count })
      else
        ∃ t, exec (.segmentTaken l bytes) s = .next t ∧
          (t.lane l).returnQueue = ((copied bytes).lane l).returnQueue ∧
          t.laneCount l .loopDropped = (copied bytes).laneCount l .loopDropped

/-- R22, R23, R24: the judgment of an interval at the expiry of its timer, and the start of the next. An ALIGNED lane that
becomes LOST here is MEMBER of no group. That the timebase moves to the expiry value (log 3), that the next interval starts
there (log 34), and that the error limit is read at the judgment in every case (log 40) are the model's. -/
def Obligations.IntervalJudged : Prop :=
  ∀ (s : State) (l : LaneIx), (s.lane l).rx ≠ .down →
    ((s.lane l).intervalTimer = none → exec (.intervalExpiry l) s = .next s) ∧
    ∀ e, (s.lane l).intervalTimer = some e →
      let x := s.lane l
      let good := x.interval.carrierAbsent = false ∧ x.interval.markerSeen = true ∧ x.interval.originFault = none ∧
        x.interval.errorCount < s.dev.errorLimit
      let v := (s.passTo e).modLane l fun y =>
        { y with
          interval := ⟨!s.carrier l, false, none, 0⟩
          intervalTimer := some (e + BitVec.ofNat 32 s.dev.markerInterval) }
      if x.rx = .aligned then
        if x.interval.markerSeen then exec (.intervalExpiry l) s = .next (v.modLane l fun y => { y with miss := 0 })
        else if x.miss + 1 < s.dev.missLimit then
          exec (.intervalExpiry l) s = .next (v.modLane l fun y => { y with miss := y.miss + 1 })
        else
          x.assoc.isMember = false → ∃ t, exec (.intervalExpiry l) s = .next t ∧
            NotesOnly (v.withLost l .markerMiss .noMarker) t ∧
            (s.HasRoom 1 → Posted [.laneState l .aligned .lost .markerMiss] s t)
      else if good then
        if x.good + 1 < s.dev.restoreCount then
          exec (.intervalExpiry l) s = .next (v.modLane l fun y => { y with good := y.good + 1 })
        else
          ∃ t, exec (.intervalExpiry l) s = .next t ∧
            NotesOnly (v.modLane l fun y => { y with rx := .aligned, reason := .restored, good := 0, miss := 0 }) t ∧
            (s.HasRoom 1 → Posted [.laneState l x.rx .aligned .restored] s t)
      else
        exec (.intervalExpiry l) s = .next (v.modLane l fun y =>
          { y with
            good := 0
            searchReason :=
              if x.interval.carrierAbsent then .carrier
              else if x.interval.originFault = some .crossed then .crossed
              else if x.interval.originFault = some .looped then .looped
              else if x.interval.markerSeen then x.searchReason else .noMarker })

/-- R15, R25, R26, R133: the carrier-detect input goes absent or comes back. -/
def Obligations.CarrierInputFollowed : Prop :=
  ∀ (s : State) (l : LaneIx),
    exec (.carrierReturn l) s = .next (s.modLane l fun x => { x with cdPresent := true }) ∧
    ∀ mid,
      let u := s.modLane l fun x => { x with cdPresent := false }
      let v := (u.countLane l .truncated (if mid then 1 else 0)).modLane l fun x =>
        { x with interval := { x.interval with carrierAbsent := true } }
      if (s.lane l).cdPresent = false then exec (.carrierLoss l mid) s = .next s
      else if (s.lane l).rx = .down ∨ (s.lane l).diag = .loopLocal then exec (.carrierLoss l mid) s = .next u
      else if (s.lane l).rx ≠ .aligned then
        exec (.carrierLoss l mid) s = .next (v.modLane l fun x => { x with searchReason := .carrier })
      else
        ((s.lane l).assoc.isMember = false → ∃ t, exec (.carrierLoss l mid) s = .next t ∧
          NotesOnly (v.withLost l .carrier .carrier) t ∧
          (s.HasRoom 1 → Posted [.laneState l .aligned .lost .carrier] s t)) ∧
        ∀ g m k, (s.lane l).assoc = .member g m k → ∃ t, exec (.carrierLoss l mid) s = .next t ∧
          (t.lane l).rx = .lost ∧ (t.lane l).reason = .carrier ∧ (t.lane l).searchReason = .carrier ∧
          (t.lane l).assoc = .suspended g ∧ (t.lane l).skewHold = (s.lane l).skewHold ∧
          ∀ n, n ≠ l → t.lane n = s.lane n

/-! ### Resequencing and reassembly -/

/-- R49: the expiry of the hole timer moves the expected sequence to the oldest stored entry, with one loss notice and a
resolution; a timer that does not run has no expiry (log 4). -/
def Obligations.HoleTimerExpires : Prop :=
  ∀ (s : State) (g : GroupIx),
    ((s.group g).hole = none → exec (.holeTimerExpiry g) s = .next s) ∧
    ∀ h e d rest, (s.group g).hole = some h → (s.group g).ctx.live = true → (s.group g).expected = some e →
      (s.group g).store = d :: rest →
      exec (.holeTimerExpiry g) s = .next (resolve g (lossNotice g
        ((((s.passTo h.expiry).modGroup g fun x => { x with hole := none, expected := some d.seq }).countGroup g
          .skippedByTimer (dist e d.seq)).countGroup g .holeTimerExpiries)))

/-- R40, R45, R46, R47, R50, R51, R67: what one step of a resolution does, and that the resolution takes these steps until
neither a delivery nor a fast skip applies, in every state whose store is no larger than the largest window (R36); its end
sets the hole timer alone (HoleTimerSet). The bound on its steps is the model's (log 25). -/
def Obligations.ResolutionReachesItsEnd : Prop :=
  (∀ (s : State) (g : GroupIx),
    let x := s.group g
    ((x.ctx.live = false ∨ x.expected = none) → resolveOnce g s = none) ∧
    ∀ e, x.ctx.live = true → x.expected = some e →
      (∀ d, d ∈ x.store → d.seq = e → (∀ d' ∈ x.store, d'.seq = e → d' = d) →
        resolveOnce g s =
          if x.held = none then
            some (assemble g d ((s.modGroup g fun y =>
              { y with store := y.store.filter fun z => decide (z.seq ≠ e), expected := some (e + 1) }).countGroup g
                .delivered))
          else none) ∧
      ((∀ d ∈ x.store, d.seq ≠ e) →
        ((∃ l, s.isMember g l = true) → (∀ l m k, (s.lane l).assoc = .member g m k → dist e m < 32768) →
          resolveOnce g s = some (lossNotice g
            ((s.modGroup g fun y => { y with expected := some (e + 1) }).countGroup g .skippedFast))) ∧
        ((∀ l, s.isMember g l = false) → resolveOnce g s = none) ∧
        ∀ l m k, (s.lane l).assoc = .member g m k → 32768 ≤ dist e m → resolveOnce g s = none)) ∧
  ∀ (s : State) (g : GroupIx), (s.group g).store.length ≤ 1024 →
    resolveOnce g (resolve g s) = none ∧
    (∀ s', resolveOnce g s = some s' → resolve g s = resolve g s') ∧
    (resolveOnce g s = none →
      resolve g s = s.modGroup g fun y => { y with hole := ((resolve g s).group g).hole })

/-- R48: the hole timer at the end of each resolution, and at each entry into RESYNC or DISABLED. -/
def Obligations.HoleTimerSet : Prop :=
  ∀ (s : State) (g : GroupIx),
    let t := resolve g s
    let x := t.group g
    (x.ctx.live = false → x.hole = none) ∧
    (∀ e, x.ctx.live = true → x.expected = some e →
      if (x.store.any fun d => d.seq = e) ∨ x.store = [] then x.hole = none
      else
        match (s.group g).hole with
        | some h => x.hole = if h.startedAt = e then some h else some ⟨s.timebase + BitVec.ofNat 32 x.holeTime, e⟩
        | none => x.hole = some ⟨s.timebase + BitVec.ofNat 32 x.holeTime, e⟩) ∧
    ((enterResync g s).group g).hole = none ∧ ((enterDisabled g s).group g).hole = none

/-- R58, R59, R71, R80, R156: GROUP-RESYNC in each receive state. -/
def Obligations.GroupResyncTaken : Prop :=
  ∀ (s : State) (o : Origin) (b : Byte) (g : GroupIx), s.Admits o 0x09 false → b.toNat = g.val →
    let x := s.group g
    let n := x.store.length + (match x.building with | some p => p.chain.length | none => 0) +
      (match x.held with | some f => f.chain.length | none => 0)
    (x.ctx = .disabled → exec (.groupResync o b) s = .next (s.answered 0x09 .state [])) ∧
    (x.ctx = .resync → exec (.groupResync o b) s = .next (s.answered 0x09 .ok [])) ∧
    (x.ctx.live = true → n ≤ x.heldCount → ∃ t, exec (.groupResync o b) s = .next t ∧
      NotesOnly
        ((((({ s.answered 0x09 .ok [] with
            poolFree := s.poolFree + n
            lanes := s.lanes.map fun y => { y with
              assoc := if y.assoc.memberOf g then y.assoc.withStrikes 0 else y.assoc } } : State).modGroup g fun y =>
          { y with
            ctx := .resync, store := [], expected := none, highest := none, hole := none
            building := none, held := none, awaitingFirst := true, heldCount := y.heldCount - n }).countGroup g
              .resyncDiscard x.store.length).countGroup g .assemblyDiscard
                (x.building.toList.length + x.held.toList.length)).countGroup g .buffersReturned n) t ∧
      (s.HasRoom 1 → Posted [.groupRx g x.ctx .resync] s t))

/-- R66: a segment without FIRST that joins a partial frame. -/
def Obligations.JoiningSegmentChecked : Prop :=
  ∀ (s : State) (g : GroupIx) (d : DataSeg) (p : Building), d.first = false → (s.group g).awaitingFirst = false →
    (s.group g).building = some p →
    if d.stream ≠ p.stream ∨ 4100 < (p.chain.map List.length).sum + d.payload.length then
      assemble g d s = (releaseBuffers g (p.chain.length + 1)
        (s.modGroup g fun x => { x with building := none, awaitingFirst := true })).countGroup g .brokenFrame
    else if d.last then
      assemble g d s = judgeFrame g ⟨p.stream, p.chain ++ [d.payload]⟩ (s.modGroup g fun x => { x with building := none })
    else
      assemble g d s = s.modGroup g fun x => { x with building := some ⟨p.stream, p.chain ++ [d.payload]⟩ }

/-- R4, R5, R8, R65 to R69, R77, law L8: a frame cut at any segment size from any sequence, its segments delivered in
order to an assembler with no partial frame, joins the egress queue, and is sent with its stream and its payload whole. -/
def Obligations.CutFramesAreRebuilt : Prop :=
  ∀ (s : State) (g : GroupIx) (size : Nat) (seq : Seq) (x : StreamIx) (payload : List Byte),
    size = 64 ∨ size = 128 ∨ size = 192 → x ≠ 0 → (s.stream x).valid = true → 16 ≤ payload.length →
    payload.length ≤ 4096 → (s.group g).building = none → (s.group g).egress.length < 64 →
    let f : TxFrame := ⟨x, payload ++ be 4 (frameCheck x payload).toNat⟩
    let chain := (cutFrame g size seq f).map DataSeg.payload
    (cutFrame g size seq f).foldl (fun u d => assemble g d u) s =
        egressJoin g ⟨x, chain⟩ (s.modGroup g fun y => { y with awaitingFirst := false }) ∧
      chain.flatten = f.bonded ∧ EgressFrame.sent ⟨x, chain⟩ = ⟨x, payload⟩

/-! ### Local egress -/

/-- R4, R70, R73, R74, R75, R77, R80: what stands on the Local Frame Port while a frame is in flight; the end of
a transmission, for a management frame that is no response of an executed DEVICE-RESET and for a data frame of a group with
no frame held; and HELD-FRAME-JOIN for a group with a frame held. That the offers which wait for the room made are events of
their own is the model's choice (log 51). -/
def Obligations.EgressTransmissionEnds : Prop :=
  ∀ s : State,
    (s.egressBusy = none → s.onPort = none ∧ exec .egressTransmissionEnd s = .next s) ∧
    (∀ f rest, s.egressBusy = some .management → s.mgmtOut = f :: rest → s.onPort = some ⟨0, f.bytes⟩) ∧
    (∀ g f rest, s.egressBusy = some (.group g) → (s.group g).egress = f :: rest →
      s.onPort = some ⟨f.stream, f.chain.flatten.take ((f.chain.map List.length).sum - 4)⟩) ∧
    (∀ f rest, s.egressBusy = some .management → s.mgmtOut = f :: rest → f.carriesReset = false →
      exec .egressTransmissionEnd s =
        .next (arbitrate (({ s with mgmtOut := rest, egressBusy := none } : State).countDev .managementFramesSent))) ∧
    (∀ g f rest, s.egressBusy = some (.group g) → (s.group g).egress = f :: rest → (s.group g).held = none →
      f.chain.length ≤ (s.group g).heldCount →
      exec .egressTransmissionEnd s =
        .next (arbitrate ((((({ s with egressBusy := none, poolFree := s.poolFree + f.chain.length } : State).modGroup g
          fun x => { x with egress := rest, heldCount := x.heldCount - f.chain.length }).countGroup g .buffersReturned
            f.chain.length).countGroup g .framesSent).countStream f.stream .egressFrames |>.countStream f.stream .egressBytes
              ((f.chain.map List.length).sum - 4)))) ∧
    ∀ g,
      ((s.group g).held = none ∨ 64 ≤ (s.group g).egress.length → exec (.heldFrameJoin g) s = .next s) ∧
      ∀ f, (s.group g).held = some f → (s.group g).egress.length < 64 →
        exec (.heldFrameJoin g) s = .next
          (let t := arbitrate ((s.modGroup g fun x => { x with held := none, egress := x.egress ++ [f] }).countGroup g
            .framesAssembled)
          if (s.group g).ctx.live then resolve g t else t)

/-- R75, R76: what the arbiter chooses at the boundary the release of egress pause makes. -/
def Obligations.ArbiterChooses : Prop :=
  ∀ s : State,
    let u := { s with egressPause := false }
    if s.egressBusy ≠ none then exec .egressPauseRelease s = .next u
    else if s.mgmtOut ≠ [] then exec .egressPauseRelease s = .next { u with egressBusy := some .management }
    else
      ((∀ g, (s.group g).egress = []) → exec .egressPauseRelease s = .next u) ∧
      ∀ g, (s.group g).egress ≠ [] →
        (∀ h, (s.group h).egress ≠ [] → (g - s.lastServed - 1).val ≤ (h - s.lastServed - 1).val) →
        exec .egressPauseRelease s = .next { u with egressBusy := some (.group g), lastServed := g }

/-! ### Ingress -/

/-- R93 with R92 and R95: the judgment of a frame taken from the Local Frame Port; a frame that straddles a reset, or that
arrives while the RESET input is asserted, is not taken (log 27, log 31). -/
def Obligations.IngressFramesJudged : Prop :=
  ∀ (s : State) (x : StreamIx) (errorMark straddles : Bool) (payload : List Byte),
    let e := s.stream x
    let g := e.group
    let n := payload.length
    let u := s.countDev .ingressFramesTaken
    let out := exec (.ingressFrameTaken x errorMark straddles payload) s
    if s.resetAsserted = true ∨ straddles = true then out = .next s
    else if errorMark then out = .next (u.countStream x .ingressError)
    else if x = 0 then out = .next (localIntake payload u)
    else if e.valid = false then out = .next (u.countStream x .unknownStream)
    else if n < 16 ∨ e.maxLen < n then out = .next (u.countStream x .length)
    else if (s.group g).tx ≠ .up then out = .next ((u.countStream x .groupDown).countGroup g .groupDown)
    else if 32 ≤ (match e.cls with | .high => (s.group g).high | .normal => (s.group g).normal).length then
      out = .next ((u.countStream x .queueFull).countGroup g .queueFull)
    else if s.storeFree < n + 4 then out = .next ((u.countStream x .storeFull).countGroup g .storeFull)
    else
      let f : TxFrame := ⟨x, payload ++ be 4 (frameCheck x payload).toNat⟩
      out = .next (judgeHold g
        ((((({ u with
            storeFree := s.storeFree - (n + 4)
            storeLow := min s.storeLow (s.storeFree - (n + 4)) } : State).modGroup g fun y =>
          { y with
            high := if e.cls = .high then y.high ++ [f] else y.high
            normal := if e.cls = .normal then y.normal ++ [f] else y.normal }).countStream x .ingressFrames).countStream x
              .ingressBytes n).countGroup g .framesAdmitted |>.countGroup g .bytesAdmitted n))

/-- R69, R101, R102, R103, R145, R146, R188: the two intakes of management frames: from the local side, by its command; and
from the bond, with the hand-over of a good stream-0 frame to it. The counters of a BUSY REFUSAL to the peer (log 20) and its
clear stop-on-error bit (log 42) are the model's. -/
def Obligations.ManagementFramesTaken : Prop :=
  (∀ (s : State) (frame : List Byte), s.resetAsserted = false →
    let u := s.countDev .ingressFramesTaken
    let n := frame.length
    let out := exec (.ingressFrameTaken 0 false false frame) s
    if n < 8 ∨ 1024 < n ∨ byteAt frame 0 ≠ 1 ∨ (byteAt frame 1 ≠ 1 ∧ byteAt frame 1 ≠ 2) then
      out = .next (u.countDev .malformed)
    else if byteAt frame 1 = 1 then
      if s.requestQueue.length < 8 then
        out = .next (({ u with requestQueue := s.requestQueue ++ [⟨.localSide, frame⟩] } : State).countDev
          .managementFramesTaken)
      else if s.mgmtOut.length < 8 then
        out = .next (arbitrate { u.countDev .refused with
          mgmtOut := s.mgmtOut ++ [⟨[4, 0, 0, byteAt frame 3, byteAt frame 4, 0, 1, 0], false⟩] })
      else out = .next (u.countDev .refused)
    else
      match s.dev.mgmtGroup with
      | none => out = .next (u.countDev .relayFailed)
      | some g =>
        if (s.group g).tx ≠ .up ∨ 32 ≤ (s.group g).high.length ∨ s.storeFree < n + 4 then
          out = .next (u.countDev .relayFailed)
        else
          out = .next (judgeHold g
            ((((({ u.countDev .relayedToPeer with
                storeFree := s.storeFree - (n + 4)
                storeLow := min s.storeLow (s.storeFree - (n + 4)) } : State).modGroup g fun y =>
              { y with high := y.high ++ [⟨0, frame ++ be 4 (frameCheck 0 frame).toNat⟩] }).countStream 0
                .ingressFrames).countStream 0 .ingressBytes n).countGroup g .framesAdmitted |>.countGroup g
                  .bytesAdmitted n))) ∧
  (∀ (s : State) (frame : List Byte),
    let n := frame.length
    let kind := byteAt frame 0
    let u := s.countDev .remoteRefused
    let refusal : List Byte := [4, 0, 1, byteAt frame 3, byteAt frame 4, 0, 1, 0]
    if n < 8 ∨ 1024 < n ∨ (kind ≠ 1 ∧ kind ≠ 2 ∧ kind ≠ 4) then bondIntake frame s = s.countDev .malformed
    else if kind = 2 ∨ kind = 4 then
      bondIntake frame s =
        if s.mgmtOut.length < 8 then arbitrate { s.countDev .relayedUp with mgmtOut := s.mgmtOut ++ [⟨frame, false⟩] }
        else s.countDev .relayedUpLost
    else if s.requestQueue.length < 8 then
      bondIntake frame s = ({ s with requestQueue := s.requestQueue ++ [⟨.remoteSide, frame⟩] } : State).countDev
        .remoteRequestsTaken
    else
      match s.dev.mgmtGroup with
      | none => bondIntake frame s = u
      | some g =>
        if (s.group g).tx ≠ .up ∨ 32 ≤ (s.group g).high.length ∨ s.storeFree < 12 then bondIntake frame s = u
        else
          bondIntake frame s = judgeHold g
            ((((({ u with
                storeFree := s.storeFree - 12
                storeLow := min s.storeLow (s.storeFree - 12) } : State).modGroup g fun y =>
              { y with high := y.high ++ [⟨0, refusal ++ be 4 (frameCheck 0 refusal).toNat⟩] }).countStream 0
                .ingressFrames).countStream 0 .ingressBytes 8).countGroup g .framesAdmitted |>.countGroup g
                  .bytesAdmitted 8)) ∧
  ∀ (s : State) (g : GroupIx) (chain : List (List Byte)) (frame : List Byte),
    chain.flatten = frame ++ be 4 (frameCheck 0 frame).toNat → 8 ≤ frame.length → (s.stream 0).valid = true →
    let u := releaseBuffers g chain.length s
    judgeFrame g ⟨0, chain⟩ s =
      if s.dev.mgmtGroup = some g then bondIntake frame (u.countGroup g .managementHandedUp)
      else u.countGroup g .managementOffGroup

/-! ### The transmit side -/

/-- R8, R9, R96, R97, R107 to R111: a placement. `D` is the deficit after the refill; the lane is the first eligible one with
a positive deficit from the round-robin position upwards. That a response waiting for the room made is offered in an event of
its own is the model's choice (log 51). -/
def Obligations.SegmentsPlaced : Prop :=
  ∀ (s : State) (g : GroupIx),
    (s.canPlace g = false → exec (.segmentPlacement g) s = .next s) ∧
    ∀ (c : Cursor) (f : TxFrame) (more : List TxFrame) (l : LaneIx),
      let x := s.group g
      let queue := match c.cls with | .high => x.high | .normal => x.normal
      let refills : Bool := !allLanes.any fun m => s.eligible g m && decide (0 < (s.lane m).deficit)
      let D := fun m => (s.lane m).deficit + (if refills && s.eligible g m then (s.lane m).weight else 0)
      let rest := f.bonded.length - c.cut
      let n := min x.segSize rest
      let d : DataSeg := ⟨g, decide (c.cut = 0), decide (rest ≤ x.segSize), f.stream, x.nextSeq,
        (f.bonded.drop c.cut).take n⟩
      s.canPlace g = true → queue = f :: more →
      (x.cursor = some c ∨ (x.cursor = none ∧ c.cut = 0 ∧ (c.cls = .normal → x.high = []))) →
      c.cut < f.bonded.length → s.eligible g l = true → 0 < D l →
      (∀ m, s.eligible g m = true → 0 < D m → (l - x.rrPos).val ≤ (m - x.rrPos).val) →
      let u := ((({ s with lanes := Vector.ofFn fun m => { s.lanes[m] with deficit := D m } } : State).modLane l fun y =>
        { y with queue := y.queue ++ [d], deficit := D l - 1 }).countLane l .segmentsPlaced).modGroup g (fun y =>
          { y with rrPos := l + 1, nextSeq := y.nextSeq + 1 }) |>.countGroup g .segmentsCut
      exec (.segmentPlacement g) s = .next
        (if x.segSize < rest then u.modGroup g fun y => { y with cursor := some ⟨c.cls, c.cut + n⟩ }
        else judgeHold g
          ((({ u with storeFree := u.storeFree + f.bonded.length } : State).modGroup g fun y =>
            { y with
              cursor := none
              high := if c.cls = .high then more else y.high
              normal := if c.cls = .normal then more else y.normal }).countGroup g .framesCut))

/-- R116, R134: the expiries of a lane's marker timer and of its skew hold. That a timer that does not run has none (log 4),
that the timebase moves to the expiry value (log 3), and that the next marker interval starts there (log 34) are the
model's. -/
def Obligations.LaneTimersExpire : Prop :=
  ∀ (s : State) (l : LaneIx),
    ((s.lane l).markerTimer = none → exec (.markerTimerExpiry l) s = .next s) ∧
    (∀ e, (s.lane l).markerTimer = some e →
      let u := (s.passTo e).modLane l fun x =>
        { x with markerTimer := some (e + BitVec.ofNat 32 s.dev.markerInterval) }
      exec (.markerTimerExpiry l) s = .next
        (if 7 ≤ (s.lane l).debt then u.countLane l .markerStarvation
        else u.modLane l fun x => { x with debt := x.debt + 1 })) ∧
    ((s.lane l).skewHold = none → exec (.skewHoldExpiry l) s = .next s) ∧
    ∀ e, (s.lane l).skewHold = some e →
      exec (.skewHoldExpiry l) s = .next ((s.passTo e).modLane l fun x => { x with skewHold := none })

/-- R113, R117, R118, R119, R126, R130, R142, R182 to R185: what a lane begins when it may send, by its mode, debt and queue;
what the emptying of a DRAINING lane's queue does, also where it completes a GROUP-DISABLE; and the end of a transmission,
with the delivery of a LOOP-LOCAL segment to the lane's own receiver. That a marker is counted as urgent or opportunistic in
TEST and LOOP-LOCAL by the debt alone (log 30), that a looped segment reaches the receiver at the end of its transmission and
only while the lane is still in LOOP-LOCAL (log 12) and with the bytes it was sent with (log 52), and the order of the records
of an emptying (log 43) are the model's. -/
def Obligations.TransmissionsBeginAndEnd : Prop :=
  ∀ (s : State) (l : LaneIx),
    let x := s.lane l
    let send := fun (bytes : List Byte) => s.modLane l fun y => { y with flight := some ⟨bytes, decide (x.diag = .loopLocal)⟩ }
    let marker := fun (c : LaneCtr) => (((send (s.marker l)).modLane l fun y =>
      { y with markerCount := y.markerCount + 1, debt := y.debt - 1 }).countLane l .markersSent).countLane l c
    let out := exec (.segmentTransmitStart l) s
    (if x.inService = false ∨ s.txInhibit = true ∨ x.flight ≠ none then out = .next s
    else if x.diag = .loopRemote then
      (x.returnQueue = [] → out = .next s) ∧
      ∀ b rest, x.returnQueue = b :: rest →
        out = .next (((send b).modLane l fun y => { y with returnQueue := rest }).countLane l .loopReturned)
    else if s.dev.urgentLevel ≤ x.debt then out = .next (marker .urgentMarker)
    else if x.diag = .test then
      out = .next (((send (testBytes x.testSeq)).modLane l fun y => { y with testSeq := y.testSeq + 1 }).countLane l
        .testSent)
    else
      (x.queue = [] ∨ x.diag = .loopLocal →
        out = .next (if 1 ≤ x.debt then marker .opportunisticMarker else s)) ∧
      ∀ d rest, x.queue = d :: rest → x.diag = .none →
        let u := ((send d.bytes).modLane l fun y => { y with queue := rest }).countLane l .dataSent
        (rest ≠ [] ∨ (∀ g, x.role ≠ .draining g) → out = .next u) ∧
        ∀ g, rest = [] → x.role = .draining g →
          let v := u.modLane l fun y => { y with role := .off, deficit := 0 }
          let drained := NoteBody.laneRole l (.draining g) .off .drained
          (s.inDisableSet l = false →
            ∃ t, out = .next t ∧ NotesOnly v t ∧ (s.HasRoom 1 → Posted [drained] s t)) ∧
          ∀ k, (s.group g).disable = some k → inSet k.set l = true →
            (∀ h k', (s.group h).disable = some k' → inSet k'.set l = true → h = g) →
            let role := fun n => if n = l then .off else (s.lane n).role
            let o : OpOutcome := if k.loss then .doneWithLoss else .done
            if s.peerReport.any fun r => k.completes role r.accepted then
              (s.group g).store.length +
                  (match (s.group g).building with | some p => p.chain.length | none => 0) +
                  (match (s.group g).held with | some f => f.chain.length | none => 0) ≤ (s.group g).heldCount →
                (s.slot k.slot).body.isInFlight = true →
                ∃ t, out = .next t ∧ NotesOnly (v.withGroupDisabled g k.slot o) t ∧
                  (s.HasRoom 12 → Posted (drained :: s.disableRecords g k.slot o) s t)
            else ∃ t, out = .next t ∧ NotesOnly v t ∧ (s.HasRoom 1 → Posted [drained] s t)) ∧
    (x.flight = none → exec (.segmentTransmitEnd l) s = .next s) ∧
    ∀ f, x.flight = some f →
      let v := s.modLane l fun y => { y with flight := none }
      let taken := v.countLane l .segmentsReceived
      let ended := exec (.segmentTransmitEnd l) s
      if f.looped = false ∨ x.diag ≠ .loopLocal ∨ x.rx = .down then ended = .next v
      else
        (∀ (m : MarkerBody) (S : Seq), f.bytes = markerBytes m S → m.lane = l →
          let missing := match x.lastCount with
            | some c => (m.count.toNat + 255 - c.toNat) % 256
            | none => 0
          ended = .next (((taken.countLane l .validMarkers).countLane l .markerGap missing).modLane l fun y =>
            { y with interval := { y.interval with markerSeen := true }, lastCount := some m.count })) ∧
        (∀ d : DataSeg, 1 ≤ d.payload.length → d.payload.length ≤ 192 → f.bytes = d.bytes →
          ended = .next (taken.countLane l .diagnosticDiscard)) ∧
        ∀ q : Seq, f.bytes = testBytes q → ended = .next (taken.countLane l .testDiscarded)

/-! ### Membership -/

/-- R128, R129, R130, R137, R139, R141, R142: a valid marker on an ALIGNED lane in no diagnostic mode replaces the peer report,
and every lane's role is what the report makes of it; a lane withdrawn or dropped while draining has its queue flushed; each
LANE-ADD and LANE-REMOVE that the report ends has its outcome in its slot; and a GROUP-DISABLE completes when the report
leaves its set OFF and out of the accepted map. -/
def Obligations.ReportJudgesEveryRole : Prop :=
  ∀ (s : State) (l : LaneIx) (m : MarkerBody) (S : Seq), (s.lane l).rx = .aligned → (s.lane l).diag = .none →
    (s.lane l).cdPresent = true → m.lane = l → s.dev.stationToken = 0 ∨ m.token ≠ s.dev.stationToken →
    ∃ t, exec (.segmentTaken l (markerBytes m S)) s = .next t ∧ t.peerReport = some ⟨m.aligned, m.accepted, l⟩ ∧
      (∀ n,
        let role := (s.lane n).role
        let wasAligned := match s.peerReport with | some r => inSet r.aligned n | none => false
        (t.lane n).role = judgedRole role (inSet m.accepted n) (inSet m.aligned n) wasAligned ∧
        (t.lane n).queue = (match role with
          | .active _ => if inSet m.accepted n then (s.lane n).queue else []
          | .draining _ => if inSet m.accepted n then (s.lane n).queue else []
          | _ => (s.lane n).queue) ∧
        (t.lane n).weight = (s.lane n).weight ∧ (t.lane n).flight = (s.lane n).flight ∧
        (n ≠ l → (t.lane n).rx = (s.lane n).rx ∧ (t.lane n).interval = (s.lane n).interval) ∧
        ((s.lane n).op = none → (t.lane n).op = none) ∧
        ∀ p a e, s.OpsLawful → (s.lane n).op = some p → s.slot p.slot = ⟨p.gen, .inFlight (p.kind.on n) a e⟩ →
          match reportEnding role p.kind (inSet m.accepted n) (inSet m.aligned n) wasAligned with
          | none => (t.lane n).op = some p ∧ t.slot p.slot = s.slot p.slot
          | some o => (t.lane n).op = none ∧ t.slot p.slot = ⟨p.gen, .complete (p.kind.on n) a e o s.timebase⟩) ∧
      ∀ g d, (s.group g).disable = some d →
        let loss := d.loss || s.reportDrops m d
        if s.reportCompletes m g then
          (t.group g).tx = .disabled ∧ (t.group g).ctx = .disabled ∧ (t.group g).disable = none ∧
          (t.group g).store = [] ∧ (t.group g).expected = none ∧ (t.group g).egress = (s.group g).egress ∧
          (∀ n, n ≠ l → (s.lane n).assoc.group? = some g → (t.lane n).assoc = .none ∧ (t.lane n).skewHold = none) ∧
          ∀ a e, s.OpsLawful → s.slot d.slot = ⟨d.gen, .inFlight (.groupDisable g) a e⟩ →
            t.slot d.slot =
              ⟨d.gen, .complete (.groupDisable g) a e (if loss then .doneWithLoss else .done) s.timebase⟩
        else
          (t.group g).disable = some { d with loss := loss } ∧
          ((s.group g).tx = .disabling → (t.group g).tx = .disabling)

/-- R39, R40, R52 to R56, R127, R128, R131, R132, R142: the association of a lane after its valid marker, with any GROUP-DISABLE
in flight; `admits` is R132's condition. A MEMBER lane stays with its group, MEMBER or suspended for skew, and its marker, as
the marker that admits a lane, is applied at the group's context: the raise of the passed mark, the exit from RESYNC, the skew
measurement, its strikes and the suspension. That a SUSPENDED lane that fails admission stays SUSPENDED (log 37), and that
the RECEIVE-SET of a departure by skew precedes its GROUP-STATE (log 46), are the model's choices. -/
def Obligations.MarkerJudgesAssociation : Prop :=
  (∀ (s : State) (l : LaneIx) (m : MarkerBody) (S : Seq), (s.lane l).rx = .aligned → (s.lane l).diag = .none →
    (s.lane l).cdPresent = true → m.lane = l → s.dev.stationToken = 0 ∨ m.token ≠ s.dev.stationToken →
    let x := s.lane l
    let kept := fun n =>
      if (s.lane n).assoc.group?.any (s.reportCompletes m) then Assoc.none else (s.lane n).assoc
    let role := s.reportedRole m l
    let missing := match x.lastCount with
      | some c => (m.count.toNat + 255 - c.toNat) % 256
      | none => 0
    let v := (((s.countLane l .segmentsReceived).countLane l .validMarkers).countLane l .markerGap missing).modLane l
      fun y => { y with interval := { y.interval with markerSeen := true }, lastCount := some m.count }
    ∃ t, exec (.segmentTaken l (markerBytes m S)) s = .next t ∧
      (∀ n, n ≠ l → (t.lane n).assoc = kept n) ∧
      match m.role.group? with
      | none => (t.lane l).assoc = .none ∧ (t.lane l).mismatch = false ∧ (t.lane l).skewHold =
          (if x.assoc.group?.isSome then none else x.skewHold)
      | some g =>
        let admits := (s.group g).ctx ≠ .disabled ∧ s.reportCompletes m g = false ∧
          (role.group? = none ∨ role.group? = some g)
        if (kept l).memberOf g then
          t = applyMarker l g S true (clearMismatch l (takeReport l m v)) ∧
          (t.lane l).assoc.group? = some g ∧ (t.lane l).mismatch = false ∧ t.laneCount l .admitted = s.laneCount l .admitted
        else if kept l = .suspended g ∧ x.skewHold ≠ none then
          (t.lane l).assoc = .suspended g ∧ t.laneCount l .holdIgnored = s.laneCount l .holdIgnored + 1
        else if admits then
          (t.lane l).assoc = .member g (S - 1) 0 ∧ (t.lane l).mismatch = false ∧
            t.laneCount l .restored = s.laneCount l .restored + (if kept l = .suspended g then 1 else 0) ∧
            t.laneCount l .admitted = s.laneCount l .admitted + (if kept l = .suspended g then 0 else 1) ∧
            ∃ w, t = applyMarker l g S false w ∧ (w.lane l).assoc = .member g (S - 1) 0 ∧
              (w.group g).expected = (s.group g).expected ∧ (w.group g).highest = (s.group g).highest ∧
              (w.group g).store = (s.group g).store ∧ (w.group g).building = (s.group g).building ∧
              (w.group g).ctx = (if (s.group g).ctx = .forming ∧ (s.group g).minLanes ≤ w.memberCount g then .up
                else (s.group g).ctx)
        else
          (t.lane l).assoc = (if kept l = .suspended g then .suspended g else .none) ∧
            (t.lane l).mismatch = true ∧ t.laneCount l .groupMismatch = s.laneCount l .groupMismatch + 1) ∧
  (∀ (s : State) (l : LaneIx) (g : GroupIx) (S mark : Seq) (k : Nat) (was : Bool), (s.lane l).assoc = .member g mark k →
    let x := s.group g
    let mark' := raiseTo mark (S - 1)
    let u := fun (j : Nat) => s.modLane l fun y => { y with assoc := .member g mark' j }
    let d := fun (h : Seq) => dist (S - 1) h
    let lag := match x.highest with
      | some h => if 1 ≤ d h ∧ d h ≤ 32767 then d h else 0
      | none => 0
    let live : CtxState := if s.memberCount g < x.minLanes then .forming else .up
    let struck := (u (k + 1)).countGroup g .skewStrikes
    (x.ctx = .disabled → applyMarker l g S was s = u k) ∧
    (x.ctx = .resync → applyMarker l g S was s = resolve g (post (.groupRx g .resync live)
      ((u k).modGroup g fun y => { y with ctx := live, expected := some S, highest := some (S - 1) }))) ∧
    (x.ctx.live = true → was = false → applyMarker l g S was s = resolve g (u k)) ∧
    (x.ctx.live = true → was = true →
      if lag ≤ x.skewLimit then applyMarker l g S was s = resolve g (u 0)
      else if k + 1 < x.strikeLimit then applyMarker l g S was s = resolve g struck
      else applyMarker l g S was s = resolveIfLive g (departed g
        (post (.receiveSet l (.member g mark' (k + 1)) (.suspended g) g .skew)
          ((struck.countGroup g .skewSuspensions).modLane l fun y =>
            { y with
              assoc := .suspended g
              skewHold := some (s.timebase + BitVec.ofNat 32 (1000 * x.skewHold)) }))))) ∧
  ∀ (s : State) (g : GroupIx),
    let x := s.group g
    (x.ctx.live = false → departed g s = s) ∧
    (x.ctx.live = true → s.memberCount g = 0 → departed g s = enterResync g s) ∧
    (x.ctx.live = true → s.memberCount g ≠ 0 → departed g s = resolve g
      (if x.ctx = .up ∧ s.memberCount g < x.minLanes then
        post (.groupRx g .up .forming) (s.modGroup g fun y => { y with ctx := .forming })
      else s))

/-- R156, R37, R38, R83, R106, R136: GROUP-ENABLE of a group whose two states are DISABLED, and its refusals. -/
def Obligations.GroupEnabled : Prop :=
  ∀ (s : State) (o : Origin) (b : Byte) (g : GroupIx), s.Admits o 0x07 false → b.toNat = g.val →
    let reserved := (allGroups.map fun h => if (s.group h).tx = .disabled then 0 else (s.group h).reservation).sum
    if (s.group g).tx ≠ .disabled then exec (.groupEnable o b) s = .next (s.answered 0x07 .state [])
    else if 2048 < (s.group g).reservation + reserved then
      exec (.groupEnable o b) s = .next (s.answered 0x07 .badValue [])
    else
      (s.group g).ctx = .disabled → ∃ t, exec (.groupEnable o b) s = .next t ∧
        NotesOnly ((s.answered 0x07 .ok []).modGroup g fun x =>
          { x with tx := .forming, ctx := .resync, nextSeq := 0, rrPos := 0 }) t ∧
        (s.HasRoom 2 → Posted [.groupTx g .disabled .forming, .groupRx g .disabled .resync] s t)

/-- R137, R139, R158, R160, R161: LANE-ADD and LANE-REMOVE with every answer R158 gives: the refusals in their order, the slot
R160 chooses, an accepted add, and an accepted remove of an ACTIVE, a WITHDRAWN and a PROBATION lane. The cause REMOVE of the
record of an ACTIVE lane that becomes OFF at once (log 14) and the order of OP-DONE ABORTED and LANE-ROLE (log 43) are the
model's. -/
def Obligations.LaneOperationsJudged : Prop :=
  (∀ (s : State) (k : SlotIx), s.chooseSlot = some k ↔
    ((s.slot k).body = .empty ∧ ∀ j, j < k → (s.slot j).body ≠ .empty) ∨
      ((∀ j, (s.slot j).body ≠ .empty) ∧ s.completionOrder.head? = some k)) ∧
  (∀ (s : State) (o : Origin) (lane group : Byte),
    (s.Admits o 0x0A false → 8 ≤ lane.toNat ∨ 4 ≤ group.toNat →
      exec (.laneAdd o group lane) s = .next (s.answered 0x0A .badIndex [])) ∧
    (s.Admits o 0x0B false → 8 ≤ lane.toNat →
      exec (.laneRemove o lane) s = .next (s.answered 0x0B .badIndex []))) ∧
  ∀ (s : State) (o : Origin) (l : LaneIx) (g : GroupIx) (lane group : Byte), lane.toNat = l.val → group.toNat = g.val →
    let x := s.lane l
    let given := fun (w : State) (k : SlotIx) (op : OpKind) =>
      { w.modSlot k fun y =>
          ⟨y.gen + 1, .inFlight op s.timebase (s.timebase + BitVec.ofNat 32 (1000 * s.dev.opTimeout))⟩ with
        completionOrder := w.completionOrder.filter fun j => decide (j ≠ k) }
    let tag := fun (k : SlotIx) => tagBytes k ((s.slot k).gen + 1)
    (s.Admits o 0x0A false →
      let out := exec (.laneAdd o group lane) s
      let answer := fun (c : ResultCode) => Host.Outcome.next (s.answered 0x0A c [])
      if (s.group g).tx ≠ .forming ∧ (s.group g).tx ≠ .up then out = answer .state
      else if x.inService = false ∨ x.diag ≠ .none then out = answer .state
      else if x.role ≠ .off then out = answer .conflict
      else if x.assoc.group? ≠ none ∧ x.assoc.group? ≠ some g then out = answer .conflict
      else if x.op ≠ none ∨ s.inDisableSet l = true then out = answer .conflict
      else
        match s.chooseSlot with
        | none => out = answer .noRoom
        | some k =>
          ∃ t, out = .next t ∧
            NotesOnly (((given s k (.laneAdd l)).answered 0x0A .accepted (tag k)).modLane l fun y =>
              { y with role := .probation g, deficit := 0, op := some ⟨.add, k, (s.slot k).gen + 1, g⟩ }) t ∧
            (s.HasRoom 1 → Posted [.laneRole l .off (.probation g) .add] s t)) ∧
    (s.Admits o 0x0B false →
      let out := exec (.laneRemove o lane) s
      let answer := fun (c : ResultCode) => Host.Outcome.next (s.answered 0x0B c [])
      let accepted := fun (w : State) (k : SlotIx) (h : GroupIx) (role : Role) =>
        ((given w k (.laneRemove l)).answered 0x0B .accepted (tag k)).modLane l fun y =>
          { y with role := role, deficit := 0, op := some ⟨.remove, k, (s.slot k).gen + 1, h⟩ }
      if s.inDisableSet l = true then out = answer .conflict
      else if x.role = .off then out = answer .state
      else if s.removing l then out = answer .conflict
      else
        (x.op = none → s.chooseSlot = none → out = answer .noRoom) ∧
        (∀ k h, x.op = none → s.chooseSlot = some k → x.role = .active h →
          let active := s.activeCount h - 1
          ∃ t, out = .next t ∧
            NotesOnly ((accepted s k h (if x.queue = [] then .off else .draining h)).modGroup h fun y =>
              { y with
                tx := if y.tx = .up ∧ active < y.minLanes then .forming
                  else if y.tx = .forming ∧ y.minLanes ≤ active then .up else y.tx }) t) ∧
        (∀ k h, x.op = none → s.chooseSlot = some k → x.role = .withdrawn h →
          ∃ t, out = .next t ∧ NotesOnly (accepted s k h .off) t ∧
            (s.HasRoom 1 → Posted [.laneRole l (.withdrawn h) .off .remove] s t)) ∧
        ∀ p h a e, x.op = some p → x.role = .probation h → s.slot p.slot = ⟨p.gen, .inFlight (.laneAdd l) a e⟩ →
          let w := { s.modSlot p.slot fun y => { y with body := .complete (.laneAdd l) a e .aborted s.timebase } with
            completionOrder := s.completionOrder ++ [p.slot] }
          match w.chooseSlot with
          | none => False
          | some k =>
            ∃ t, out = .next t ∧ NotesOnly (accepted w k h .off) t ∧
              (s.HasRoom 2 → Posted
                [.opDone p.slot p.gen (.laneAdd l) .aborted, .laneRole l (.probation h) .off .remove] s t))

/-- R99, R106, R141, R142, R158: GROUP-DISABLE with every answer R158 gives. A request that aborts an operation always finds
a slot. Accepted with an EMPTY slot free its effect is shown in full; with no lane in its set it completes at once. That the
roles it changes move the transmit state from UP or FORMING to DISABLING alone is the model's choice (log 17). -/
def Obligations.GroupDisableJudged : Prop :=
  (∀ (s : State) (o : Origin) (group : Byte), s.Admits o 0x08 false →
    let out := exec (.groupDisable o group) s
    let answer := fun (c : ResultCode) => Host.Outcome.next (s.answered 0x08 c [])
    (4 ≤ group.toNat → out = answer .badIndex) ∧
    ∀ g : GroupIx, group.toNat = g.val →
      if (s.group g).tx ≠ .forming ∧ (s.group g).tx ≠ .up then out = answer .state
      else
        ((∀ l, s.opOn g l = false) → s.chooseSlot = none → out = answer .noRoom) ∧
        (s.OpsLawful → s.chooseSlot ≠ none ∨ (∃ l, s.opOn g l = true) →
          ∃ t k, out = .next t ∧ t.lastResult = some ⟨0x08, .accepted, tagBytes k ((s.slot k).gen + 1)⟩ ∧
            (t.slot k).gen = (s.slot k).gen + 1 ∧
            (t.group g).tx = (if s.disableSet g = 0 then .disabled else .disabling))) ∧
  ∀ (s : State) (o : Origin) (g : GroupIx) (k : SlotIx) (group : Byte), group.toNat = g.val → s.Admits o 0x08 false →
    (s.group g).tx = .forming ∨ (s.group g).tx = .up → s.chooseSlot = some k → (s.slot k).body = .empty →
    let gen := (s.slot k).gen + 1
    ∃ t, exec (.groupDisable o group) s = .next t ∧ t.lastResult = some ⟨0x08, .accepted, tagBytes k gen⟩ ∧
      if s.disableSet g = 0 then
        (t.group g).tx = .disabled ∧ (t.group g).ctx = .disabled ∧ (t.group g).disable = none ∧
          (t.group g).high = [] ∧ (t.group g).normal = [] ∧ (t.group g).cursor = none ∧
          t.slot k = ⟨gen, .complete (.groupDisable g) s.timebase
            (s.timebase + BitVec.ofNat 32 (1000 * s.dev.opTimeout)) .done s.timebase⟩
      else
      (t.group g).tx = .disabling ∧
      (t.group g).disable = some ⟨k, gen, s.disableSet g, false⟩ ∧ (t.group g).high = [] ∧ (t.group g).normal = [] ∧
      (t.group g).cursor = none ∧ (t.group g).ctx = (s.group g).ctx ∧ (t.group g).nextSeq = (s.group g).nextSeq ∧
      t.storeFree = s.storeFree + (s.group g).storeBytes ∧
      t.groupCount g .groupDown =
        s.groupCount g .groupDown + BitVec.ofNat 32 ((s.group g).high.length + (s.group g).normal.length) ∧
      (∀ h, h ≠ g → t.group h = s.group h) ∧
      (t.slot k = ⟨gen, .inFlight (.groupDisable g) s.timebase
        (s.timebase + BitVec.ofNat 32 (1000 * s.dev.opTimeout))⟩) ∧
      (∀ l p a e, (s.lane l).op = some p → p.group = g → s.slot p.slot = ⟨p.gen, .inFlight (p.kind.on l) a e⟩ →
        t.slot p.slot = ⟨p.gen, .complete (p.kind.on l) a e .aborted s.timebase⟩) ∧
      ∀ l,
        let x := s.lane l
        t.lane l = { x with
          role := match x.role with
            | .active h => if h = g then (if x.queue = [] then .off else .draining g) else .active h
            | .withdrawn h => if h = g then .off else .withdrawn h
            | .probation h => if h = g then .off else .probation h
            | r => r
          deficit := match x.role with
            | .active h => if h = g then 0 else x.deficit
            | .withdrawn h => if h = g then 0 else x.deficit
            | .probation h => if h = g then 0 else x.deficit
            | _ => x.deficit
          op := if s.opOn g l then none else x.op }

/-- R114, R137, R139, R142, R160, R161: the timeout of each kind of operation; a slot that is not IN-FLIGHT has no timer
running. That the timebase, and with it the time of completion, moves to the expiry value is the model's (log 3), and so is
the order of LANE-ROLE and OP-DONE (log 43). -/
def Obligations.OperationsTimeOut : Prop :=
  ∀ (s : State) (k : SlotIx),
    ((∀ op a e, (s.slot k).body ≠ .inFlight op a e) → exec (.operationTimeout k) s = .next s) ∧
    ∀ a e gen, (s.slot k).gen = gen →
      let now := (s.passTo e).timebase
      let ended := fun (op : OpKind) =>
        { (s.passTo e).modSlot k fun _ => ⟨gen, .complete op a e .timeout now⟩ with
          completionOrder := s.completionOrder ++ [k] }
      (∀ l g, (s.slot k).body = .inFlight (.laneAdd l) a e → (s.lane l).op = some ⟨.add, k, gen, g⟩ →
        (s.lane l).role = .probation g → ∃ t, exec (.operationTimeout k) s = .next t ∧
          NotesOnly ((ended (.laneAdd l)).modLane l fun x => { x with role := .off, deficit := 0, op := none }) t ∧
          (s.HasRoom 2 →
            Posted [.laneRole l (.probation g) .off .timeout, .opDone k gen (.laneAdd l) .timeout] s t)) ∧
      (∀ l g, (s.slot k).body = .inFlight (.laneRemove l) a e → (s.lane l).op = some ⟨.remove, k, gen, g⟩ →
        ((s.lane l).role = .off → ∃ t, exec (.operationTimeout k) s = .next t ∧
          NotesOnly ((ended (.laneRemove l)).modLane l fun x => { x with op := none }) t ∧
          (s.HasRoom 1 → Posted [.opDone k gen (.laneRemove l) .timeout] s t)) ∧
        ((s.lane l).role = .draining g → ∃ t, exec (.operationTimeout k) s = .next t ∧
          NotesOnly (((ended (.laneRemove l)).modLane l fun x =>
            { x with role := .off, deficit := 0, op := none, queue := [] }).countLane l .discardedOnForce
              (s.lane l).queue.length) t ∧
          (s.HasRoom 2 →
            Posted [.laneRole l (.draining g) .off .timeout, .opDone k gen (.laneRemove l) .timeout] s t))) ∧
      ∀ g d, (s.slot k).body = .inFlight (.groupDisable g) a e → (s.group g).disable = some d → d.slot = k →
        ∃ t, exec (.operationTimeout k) s = .next t ∧ (t.group g).tx = .disabled ∧ (t.group g).ctx = .disabled ∧
          (t.group g).disable = none ∧ (t.group g).store = [] ∧ (t.group g).expected = none ∧
          (t.group g).egress = (s.group g).egress ∧
          (∀ l, (t.lane l).assoc = if (s.lane l).assoc.group? = some g then .none else (s.lane l).assoc) ∧
          (∀ l h, inSet d.set l = true → (s.lane l).role = .draining h →
            (t.lane l).role = .off ∧ (t.lane l).queue = [] ∧
              t.laneCount l .discardedOnForce =
                s.laneCount l .discardedOnForce + BitVec.ofNat 32 (s.lane l).queue.length) ∧
          t.slot k = ⟨gen, .complete (.groupDisable g) a e .timeout now⟩

/-! ### The Management Engine -/

/-- R150 (step 2), R151: the judgment of every entry of a frame against remote access, read entry by entry. That an unknown
request code from REMOTE origin is allowed under FULL, and refused for its form, is the model's (log 38). -/
def Obligations.RemoteAccessJudged : Prop :=
  (∀ (access : RemoteAccess) (code : Byte) (clears : Bool),
    accessAllows .localSide access code clears = true ∧
    (accessAllows .remoteSide access code clears = true ↔
      match access with
      | .none => False
      | .read => code = 0x01 ∨ code = 0x02 ∨ (code = 0x04 ∧ clears = false) ∨ code = 0x05 ∨ code = 0x0E
      | .full => code ≠ 0x10)) ∧
  ∀ (o : Origin) (stop : Bool) (later : Nat) (code : Byte) (params : List Byte) (r : FrameRun),
    r.stopped = false → r.carriesReset = false →
    let clears := match params with
      | _ :: _ :: c :: _ => decide (c ≠ 0)
      | _ => true
    let r' := runEntry o stop later code params r
    (accessAllows o r.part.dev.remoteAccess code clears = false →
      r' = ⟨r.part.countDev .deniedEntries, r.built ++ [code, 2, 0, 0], stop, false⟩) ∧
    (accessAllows o r.part.dev.remoteAccess code clears = true → r'.built[r.built.length + 1]? ≠ some 2)

/-- R147 to R150, R152, R153, R154, R162: the IDLE engine takes the frame at the head of the request queue. A malformed frame is
discarded; a well-formed one has its entries executed in order and its response offered, shown in full for one ECHO entry from
the local side. An entry after the end of the frame gives NOT-PROCESSED; one that is allowed is refused for its form or for
want of room in the response (steps 3 and 4 of R150), or executed; and stop-on-error ends the frame at the first failure. That
"frames processed" rises after the entries have run is the model's (log 21). -/
def Obligations.EngineTakesFrames : Prop :=
  (∀ s : State,
    (s.engine ≠ .idle ∨ s.requestQueue = [] → exec .engineTakeFrame s = .next s) ∧
    ∀ f rest, s.engine = .idle → s.requestQueue = f :: rest →
      let count := (byteAt f.bytes 5).toNat
      let u := { s with requestQueue := rest }
      (count = 0 ∨ 16 < count ∨ parseEntries count (f.bytes.drop 8) = none →
        exec .engineTakeFrame s = .next (u.countDev .malformed)) ∧
      (∀ entries, 1 ≤ count → count ≤ 16 → parseEntries count (f.bytes.drop 8) = some entries →
        let r := runEntries f.origin (frameStop f.bytes) entries ⟨u, [], false, false⟩
        let flags := (byteAt f.bytes 2 &&& 0x80) ||| (match f.origin with | .localSide => 0 | .remoteSide => 1)
        exec .engineTakeFrame s = .next (offerResponse
          ⟨f.origin, [2, 0, flags, byteAt f.bytes 3, byteAt f.bytes 4, byteAt f.bytes 5, 0, 0] ++ r.built, r.carriesReset⟩
          (r.part.countDev .framesProcessed))) ∧
      ∀ (kind target stop tagHigh tagLow reason reserved : Byte) (params extra : List Byte),
        f = ⟨.localSide, [kind, target, stop, tagHigh, tagLow, 1, reason, reserved] ++ entryBytes [(0x01, params)] ++ extra⟩ →
        params.length ≤ 255 → s.mgmtOut.length < 8 →
        exec .engineTakeFrame s = .next (arbitrate
          { (u.countDev .framesProcessed).countDev .responsesSent with
            mgmtOut := s.mgmtOut ++ [⟨[2, 0, stop &&& 0x80, tagHigh, tagLow, 1, 0, 0, 0x01, 0, 0, byte params.length] ++
              params, false⟩] })) ∧
  ∀ (o : Origin) (stop : Bool) (code : Byte) (params : List Byte) (more : List (Byte × List Byte)) (r : FrameRun),
    runEntries o stop [] r = r ∧
    runEntries o stop ((code, params) :: more) r =
      runEntries o stop more (runEntry o stop more.length code params r) ∧
    ∀ later : Nat,
      let out := runEntry o stop later code params r
      let largest :=
        if code = 0x01 ∨ code = 0x02 then 255 else if code = 0x04 then 152 else if code = 0x05 then 8
        else if code = 0x0E then 12 else if code = 0x08 ∨ code = 0x0A ∨ code = 0x0B then 2 else 0
      if r.stopped = true ∨ r.carriesReset = true then out = { r with built := r.built ++ [code, 9, 0, 0] }
      else
        accessAllows o r.part.dev.remoteAccess code (asksClear params) = true →
          (parseReq code params = none → out = ⟨r.part, r.built ++ [code, 3, 0, 0], stop, false⟩) ∧
          ∀ q, parseReq code params = some q →
            if 1024 < 8 + r.built.length + 4 + largest + 4 * later then
              out = ⟨r.part, r.built ++ [code, 7, 0, 0], stop, false⟩
            else
              let a := q.run r.part
              out = ⟨a.part, r.built ++ ([code, byte a.result.code] ++ be 2 a.data.length ++ a.data),
                stop && decide (a.result ≠ .ok ∧ a.result ≠ .accepted), decide (code = 0x10) && decide (a.result = .ok)⟩

/-- R104, R147, R153, R162: the WAITING engine offers its response again. That the offer is an event of its own, judged as the
state stands then, is the model's choice (log 51). -/
def Obligations.ResponsesReoffered : Prop :=
  ∀ s : State,
    ((∀ r, s.engine ≠ .waiting r) → exec .responseReoffer s = .next s) ∧
    ∀ (o : Origin) (bytes : List Byte) (reset : Bool), s.engine = .waiting ⟨o, bytes, reset⟩ →
      match o with
      | .localSide =>
        if s.mgmtOut.length < 8 then
          exec .responseReoffer s = .next (arbitrate
            { s.countDev .responsesSent with
              engine := if reset then .resetting else .idle
              mgmtOut := s.mgmtOut ++ [⟨bytes, reset⟩] })
        else exec .responseReoffer s = .next s
      | .remoteSide =>
        let discarded := Host.Outcome.next ({ s with engine := .idle }.countDev .responsesDiscarded)
        match s.dev.mgmtGroup with
        | none => exec .responseReoffer s = discarded
        | some g =>
          if (s.group g).tx ≠ .up then exec .responseReoffer s = discarded
          else if 32 ≤ (s.group g).high.length ∨ s.storeFree < bytes.length + 4 then exec .responseReoffer s = .next s
          else
            exec .responseReoffer s = .next (judgeHold g
              (((((({ s with
                  engine := .idle
                  storeFree := s.storeFree - (bytes.length + 4)
                  storeLow := min s.storeLow (s.storeFree - (bytes.length + 4)) } : State).countDev
                .responsesSent).modGroup g fun y =>
                { y with high := y.high ++ [⟨0, bytes ++ be 4 (frameCheck 0 bytes).toNat⟩] }).countStream 0
                  .ingressFrames).countStream 0 .ingressBytes bytes.length).countGroup g .framesAdmitted |>.countGroup g
                    .bytesAdmitted bytes.length))

/-- R32, R154, R159, R164, R171: what the requests that only read, clear or release answer, and what they change. -/
def Obligations.ReadingRequestsAnswered : Prop :=
  ∀ (s : State) (o : Origin),
    (∀ params, s.Admits o 0x01 false → exec (.echo o params) s = .next (s.answered 0x01 .ok params)) ∧
    (∀ table index, s.Admits o 0x02 false → exec (.readEntry o table index) s =
      match tableRef table index with
      | none => .next (s.answered 0x02 .badIndex [])
      | some r => .next ((s.drawFree r).answered 0x02 .ok (s.entryItems r))) ∧
    (∀ set index clear, s.Admits o 0x04 (decide (clear ≠ 0)) → exec (.readCounters o set index clear) s =
      match tableRef set index with
      | none => .next (s.answered 0x04 .badIndex [])
      | some r => .next ((if clear = 0 then s else clearCounters r s).answered 0x04 .ok (s.counterBytes r))) ∧
    (∀ (l : LaneIx) (lane : Byte), lane.toNat = l.val →
      (s.Admits o 0x05 false →
        exec (.captureRead o lane) s = .next (s.answered 0x05 .ok (s.lane l).capture.bytes)) ∧
      (s.Admits o 0x06 false →
        exec (.captureRelease o lane) s =
          .next ((s.answered 0x06 .ok []).modLane l fun x => { x with capture := ⟨.empty, 0, 0, none, 0⟩ }))) ∧
    (∀ lane : Byte, 8 ≤ lane.toNat →
      (s.Admits o 0x05 false → exec (.captureRead o lane) s = .next (s.answered 0x05 .badIndex [])) ∧
      (s.Admits o 0x06 false → exec (.captureRelease o lane) s = .next (s.answered 0x06 .badIndex []))) ∧
    ∀ (k : SlotIx) (gen : BitVec 12), s.Admits o 0x0E false →
      exec (.opQuery o (BitVec.ofNat 16 (4096 * k.val + gen.toNat))) s = .next
        (if (s.slot k).body = .empty ∨ (s.slot k).gen ≠ gen then s.answered 0x0E .badValue []
        else s.answered 0x0E .ok (s.slot k).body.queryBytes)

/-- R155, R164, R165, R167, R168, R170: WRITE-ENTRY of one field of each table. A value out of range gives BAD-VALUE, a GROUP
whose transmit state is not DISABLED gives STATE, and neither writes anything. -/
def Obligations.SettingsWritten : Prop :=
  ∀ (s : State) (o : Origin) (index : Byte) (v : Nat), s.Admits o 0x03 false → v < 65536 →
    let answer := fun (c : ResultCode) => s.answered 0x03 c []
    (exec (.writeEntry o 1 0 ([0x01, 2] ++ be 2 v)) s = .next
      (if 100 ≤ v ∧ v ≤ 10000 then { answer .ok with dev := { s.dev with markerInterval := v } } else answer .badValue)) ∧
    (∀ l : LaneIx, index.toNat = l.val → v < 256 → exec (.writeEntry o 2 index ([0x02, 1] ++ be 1 v)) s = .next
      (if 1 ≤ v ∧ v ≤ 8 then (answer .ok).modLane l fun x => { x with weight := v } else answer .badValue)) ∧
    (∀ g : GroupIx, index.toNat = g.val → exec (.writeEntry o 3 index ([0x02, 2] ++ be 2 v)) s = .next
      (if 32 ≤ v ∧ v ≤ 1024 ∧ v % 32 = 0 ∧ (s.group g).skewLimit < v then
        if (s.group g).tx = .disabled then (answer .ok).modGroup g fun x => { x with window := v } else answer .state
      else answer .badValue)) ∧
    ∀ x : StreamIx, index.toNat = x.val → exec (.writeEntry o 4 index ([0x04, 2] ++ be 2 v)) s = .next
      (if x = 0 then answer .badIndex
      else if 16 ≤ v ∧ v ≤ 4096 then (answer .ok).modStream x fun y => { y with maxLen := v } else answer .badValue)

/-- R21, R116, R121, R157: LANE-SERVICE. That OUT is refused with STATE before the case of a lane already out of
service (log 32), and that OUT stops the marker timer and sets the debt to 0 at once, also with a segment in flight (log 50),
are the model's. -/
def Obligations.LaneServiceTaken : Prop :=
  ∀ (s : State) (o : Origin) (l : LaneIx) (lane : Byte), lane.toNat = l.val → s.Admits o 0x0C false →
    let x := s.lane l
    let ok := s.answered 0x0C .ok []
    (if x.inService then exec (.laneService o lane 1) s = .next ok
    else
      x.rx = .down → ∃ t, exec (.laneService o lane 1) s = .next t ∧
        NotesOnly (ok.modLane l fun y =>
          { y with
            inService := true, rx := .search, reason := .service
            searchReason := if s.carrier l then .noMarker else .carrier
            good := 0, miss := 0, lastCount := none, interval := ⟨!s.carrier l, false, none, 0⟩
            intervalTimer := some (s.timebase + BitVec.ofNat 32 s.dev.markerInterval)
            markerTimer := some (s.timebase + BitVec.ofNat 32 s.dev.markerInterval), debt := 0 }) t ∧
        (s.HasRoom 1 → Posted [.laneState l .down .search .service] s t)) ∧
    if x.role ≠ .off ∨ x.assoc ≠ .none ∨ x.op ≠ none ∨ s.inDisableSet l = true then
      exec (.laneService o lane 2) s = .next (s.answered 0x0C .state [])
    else if x.inService = false then exec (.laneService o lane 2) s = .next ok
    else
      ∃ t, exec (.laneService o lane 2) s = .next t ∧
        NotesOnly (({ ok with
            peerReport := if x.rx = .aligned ∧ s.othersAligned l = false then none else s.peerReport } : State).modLane l
          (fun y =>
            { y with
              inService := false, rx := .down, reason := .service, good := 0, miss := 0, lastCount := none
              intervalTimer := none, interval := ⟨false, false, none, 0⟩, markerTimer := none, debt := 0
              returnQueue := [] }) |>.countLane l .loopDropped x.returnQueue.length) t ∧
        (s.HasRoom 1 → Posted [.laneState l x.rx .down .service] s t)

/-- R21, R157, R182, R184, R185, R186: LANE-DIAG naming mode `m`. That an attached lane is refused with STATE also where
`m` is the mode it has is the model's (log 32). -/
def Obligations.DiagnosticModeSet : Prop :=
  ∀ (s : State) (o : Origin) (l : LaneIx) (lane mode : Byte) (m : Diag), lane.toNat = l.val → mode.toNat = m.code →
    s.Admits o 0x0D false →
    let x := s.lane l
    let ok := s.answered 0x0D .ok []
    let present := x.cdPresent || decide (m = .loopLocal)
    let changed := fun (y : LaneState) =>
      ({ y with
        diag := m
        returnQueue := if y.diag = .loopRemote then [] else y.returnQueue
        testSeq := if m = .test then 0 else y.testSeq
        test := if m = .test then ⟨0, 0, 0, 0⟩ else y.test } : LaneState)
    let u := (ok.modLane l changed).countLane l .loopDropped
      (if x.diag = .loopRemote then x.returnQueue.length else 0)
    if x.role ≠ .off ∨ x.assoc ≠ .none ∨ x.op ≠ none ∨ s.inDisableSet l = true then
      exec (.laneDiag o lane mode) s = .next (s.answered 0x0D .state [])
    else if x.diag = m then exec (.laneDiag o lane mode) s = .next ok
    else if x.inService = false then exec (.laneDiag o lane mode) s = .next u
    else
      ∃ t, exec (.laneDiag o lane mode) s = .next t ∧
        NotesOnly (({ u with
            peerReport := if x.rx = .aligned ∧ s.othersAligned l = false then none else s.peerReport } : State).modLane l
          fun y =>
            { y with
              rx := .search, reason := .service, searchReason := if present then .noMarker else .carrier
              good := 0, miss := 0, lastCount := none, interval := ⟨!present, false, none, 0⟩
              intervalTimer := some (s.timebase + BitVec.ofNat 32 s.dev.markerInterval) }) t ∧
        (s.HasRoom 1 → Posted [.laneState l x.rx .search .service] s t)

/-! ### Notifications -/

/-- R174, R175, R176: the three rows of a post. Offering frames may mark records sent. -/
def Obligations.PostsHandled : Prop :=
  ∀ (s : State) (body : NoteBody),
    let t := post body s
    let unsent := fun (notes : List Note) => notes.map fun r => { r with sent := false }
    NotesOnly s t ∧
    if 32 ≤ s.notes.length then
      t = { s.countDev .notificationsLost with tally := min (s.tally + 1) 4294967295 }
    else if s.tally = 0 then
      unsent t.notes = unsent s.notes ++ [⟨s.nextNote, body, s.timebase, false⟩] ∧ t.nextNote = s.nextNote + 1 ∧
        t.tally = 0 ∧ t.devCount .notificationsPosted = s.devCount .notificationsPosted + 1 ∧
        t.devCount .notificationsLost = s.devCount .notificationsLost
    else if s.notes.length = 31 then
      unsent t.notes = unsent s.notes ++ [⟨s.nextNote, .overflow s.tally, s.timebase, false⟩] ∧
        t.nextNote = s.nextNote + 1 ∧ t.tally = 1 ∧
        t.devCount .notificationsPosted = s.devCount .notificationsPosted + 1 ∧
        t.devCount .notificationsLost = s.devCount .notificationsLost + 1
    else
      unsent t.notes = unsent s.notes ++ [⟨s.nextNote, .overflow s.tally, s.timebase, false⟩,
          ⟨s.nextNote + 1, body, s.timebase, false⟩] ∧
        t.nextNote = s.nextNote + 2 ∧ t.tally = 0 ∧
        t.devCount .notificationsPosted = s.devCount .notificationsPosted + 2 ∧
        t.devCount .notificationsLost = s.devCount .notificationsLost

/-- R159, R175, R176, R178, R179: NOTIFY-ACK; where it frees room while posts were lost, the OVERFLOW record is queued in the
event, and is offered (log 29). That a timer it restarts loses an expiry that was due is the model's choice (log 49). The case
of `n` exactly half the circle from the newest sequence is left out (log 36). -/
def Obligations.RecordsAcknowledged : Prop :=
  ∀ (s : State) (o : Origin) (n : BitVec 32), s.Admits o 0x0F false → s.NotesLawful →
    if 1 ≤ dist s.newestNote n ∧ dist s.newestNote n < 2147483648 then
      exec (.notifyAck o n) s = .next (s.answered 0x0F .badValue [])
    else
      dist s.newestNote n ≠ 2147483648 →
      let kept := s.notes.filter fun r => decide (1 ≤ dist n r.seq ∧ dist n r.seq < 2147483648)
      let removed := s.notes.length - kept.length
      let anySent := kept.any fun r => r.sent
      let base :=
        { (s.countDev .recordsAcknowledged removed).answered 0x0F .ok [] with
          notes := kept
          resendPending := anySent && s.resendPending
          retry :=
            if !anySent then none
            else if 0 < removed ∧ s.resendPending = false then
              some (s.timebase + BitVec.ofNat 32 (1000 * s.dev.retryInterval))
            else s.retry }
      let unsent := fun (notes : List Note) => notes.map fun r => { r with sent := false }
      if s.tally = 0 ∨ removed = 0 then exec (.notifyAck o n) s = .next base
      else
        ∃ t, exec (.notifyAck o n) s = .next t ∧ NotesOnly base t ∧
          unsent t.notes = unsent kept ++ [⟨s.nextNote, .overflow s.tally, s.timebase, false⟩] ∧
          t.nextNote = s.nextNote + 1 ∧ t.tally = 0 ∧
          t.devCount .recordsAcknowledged = s.devCount .recordsAcknowledged + BitVec.ofNat 32 removed ∧
          t.devCount .notificationsPosted = s.devCount .notificationsPosted + 1 ∧
          t.devCount .notificationsLost = s.devCount .notificationsLost

/-- R175, R177, R178: the offers of NOTIFICATION-OFFER, frame by frame until the output queue is full or nothing is left to
send: a pending resend first, then the oldest unsent records, eight to a frame; and RETRY-EXPIRY, which makes a resend fall
due and offers. That the timebase moves to the expiry value (log 3), that a timer that does not run has no expiry (log 4), and
that the offer at a room is an event of its own (log 51), are the model's. -/
def Obligations.NotificationFramesOffered : Prop :=
  ∀ s : State,
    let offer := fun (u : State) => exec .notificationOffer u
    let queued := fun (u : State) (notes : List Note) => arbitrate { u with mgmtOut := s.mgmtOut ++ [⟨
      [3, 0, 0, 0, 0, byte notes.length, 0, 0] ++ (notes.map Note.bytes).flatten, false⟩] }
    let unsent := fun (notes : List Note) => notes.filter fun r => !r.sent
    let sent := (s.notes.filter fun r => r.sent).take 8
    let again := some (s.timebase + BitVec.ofNat 32 (1000 * s.dev.retryInterval))
    (8 ≤ s.mgmtOut.length ∨ (unsent s.notes = [] ∧ (s.resendPending = false ∨ sent = [])) → offer s = .next s) ∧
    (s.mgmtOut.length < 8 → s.resendPending = true → sent ≠ [] →
      offer s = offer (queued
        { (s.countDev .resendFramesQueued).countDev .recordsResent sent.length with
          retry := again, resendPending := false } sent)) ∧
    (∀ first rest, s.mgmtOut.length < 8 → s.resendPending = false ∨ sent = [] → s.notes = first ++ rest →
      unsent first ≠ [] → (unsent first).length ≤ 8 → (unsent first).length = 8 ∨ unsent rest = [] →
      offer s = offer (queued
        { s.countDev .notificationFramesQueued with
          notes := (first.map fun r => { r with sent := true }) ++ rest
          retry := if s.retry = none ∧ s.resendPending = false then again else s.retry } (unsent first))) ∧
    (s.retry = none → exec .retryExpiry s = .next s) ∧
    ∀ e, s.retry = some e →
      exec .retryExpiry s = offer { (s.passTo e).countDev .retryExpiries with retry := none, resendPending := true }

/-! ### Resets -/

/-- R149, R151, R153, R162: DEVICE-RESET, alone in its frame (log 9). -/
def Obligations.DeviceResetExecuted : Prop :=
  ∀ (s : State) (tag : BitVec 16), s.engine = .idle → s.resetAsserted = false →
    let bytes : List Byte := [2, 0, 0] ++ be 2 tag.toNat ++ [1, 0, 0, 0x10, 0, 0, 0]
    let u := (s.answered 0x10 .ok []).countDev .framesProcessed
    exec (.deviceReset .remoteSide tag) s = .next ((s.answered 0x10 .denied []).countDev .deniedEntries) ∧
    exec (.deviceReset .localSide tag) s = .next
      (if s.mgmtOut.length < 8 then
        arbitrate { u.countDev .responsesSent with engine := .resetting, mgmtOut := s.mgmtOut ++ [⟨bytes, true⟩] }
      else { u with engine := .waiting ⟨.localSide, bytes, true⟩ })

/-- R162, R173, R180: what the two resets make of any state. That POWER_ON_RESET leaves RESET-DONE to the release of the RESET
input (log 5), and that the departure of the DEVICE-RESET response is the reset (log 10), are the model's. The input pins keep
their levels (log 7), and `pending` and `freeUse` are the model's own. -/
def Obligations.ResetsTakeEffect : Prop :=
  ∀ s : State,
    let held := fun (cause : ResetCause) =>
      { State.held with
        pending := s.pending, freeUse := s.freeUse, txInhibit := s.txInhibit, egressPause := s.egressPause
        resetCause := cause, lanes := s.lanes.map fun (x : LaneState) => { LaneState.initial with cdPresent := x.cdPresent } }
    let ended := fun (cause : ResetCause) =>
      { held cause with
        notes := [⟨1, .resetDone cause, 0, true⟩]
        nextNote := 2
        mgmtOut := [⟨[3, 0, 0, 0, 0, 1, 0, 0, 0, 0, 0, 1, 1, 0, 0, 0, 0, 0, 0, byte cause.code, 0, 0, 0, 0], false⟩]
        egressBusy := if s.egressPause then none else some .management
        retry := some 200000
        devCtr := (State.held.devCtr.set 15 1).set 17 1 }
    exec .powerOnReset s = .next { held .powerOn with resetAsserted := true } ∧
    exec .resetInputRelease s = .next (if s.resetAsserted then ended .powerOn else s) ∧
    exec .deviceResetEffect s = .next (if s.resetResponseInFlight then ended .requested else s) ∧
    (s.resetResponseInFlight = true → exec .egressTransmissionEnd s = .next (ended .requested))

/-- R63: what every receive context holds after a reset. -/
def Obligations.ReceiveContextsAfterReset : Prop :=
  ∀ s t : State, AfterReset s t →
    (∀ g,
      let x := t.group g
      x.ctx = .disabled ∧ x.expected = none ∧ x.highest = none ∧ x.store = [] ∧ x.hole = none ∧
        (∀ l, (t.lane l).assoc = .none ∧ t.isMember g l = false) ∧
        (∀ c : GroupCtr, t.groupCount g c = 0) ∧
        x.segSize = 128 ∧ x.window = 256 ∧ x.holeTime = 2000 ∧ x.skewLimit = 64 ∧ x.strikeLimit = 3 ∧
        x.skewHold = 1000 ∧ x.minLanes = 1 ∧ x.reservation = 0 ∧ x.holdLevel = 24) ∧
    ∀ r ∈ t.notes, ∃ cause, r.body = .resetDone cause
end

