-- ==== Sys2Proof/Laws/State.lean ====
section
/-! SUPPORT. One lemma for each field of the state under each of its updates, and what an update makes of the lane, group,
stream, slot or counter it names. -/

namespace Sys2Proof.Machine

/-! ### modLane -/

@[simp] theorem State.modLane_pending (s : State) (l : LaneIx) (f : LaneState → LaneState) : (s.modLane l f).pending = s.pending := rfl
@[simp] theorem State.modLane_freeUse (s : State) (l : LaneIx) (f : LaneState → LaneState) : (s.modLane l f).freeUse = s.freeUse := rfl
@[simp] theorem State.modLane_lastResult (s : State) (l : LaneIx) (f : LaneState → LaneState) : (s.modLane l f).lastResult = s.lastResult := rfl
@[simp] theorem State.modLane_txInhibit (s : State) (l : LaneIx) (f : LaneState → LaneState) : (s.modLane l f).txInhibit = s.txInhibit := rfl
@[simp] theorem State.modLane_egressPause (s : State) (l : LaneIx) (f : LaneState → LaneState) : (s.modLane l f).egressPause = s.egressPause := rfl
@[simp] theorem State.modLane_resetAsserted (s : State) (l : LaneIx) (f : LaneState → LaneState) : (s.modLane l f).resetAsserted = s.resetAsserted := rfl
@[simp] theorem State.modLane_resetCause (s : State) (l : LaneIx) (f : LaneState → LaneState) : (s.modLane l f).resetCause = s.resetCause := rfl
@[simp] theorem State.modLane_timebase (s : State) (l : LaneIx) (f : LaneState → LaneState) : (s.modLane l f).timebase = s.timebase := rfl
@[simp] theorem State.modLane_dev (s : State) (l : LaneIx) (f : LaneState → LaneState) : (s.modLane l f).dev = s.dev := rfl
@[simp] theorem State.modLane_devCtr (s : State) (l : LaneIx) (f : LaneState → LaneState) : (s.modLane l f).devCtr = s.devCtr := rfl
@[simp] theorem State.modLane_groups (s : State) (l : LaneIx) (f : LaneState → LaneState) : (s.modLane l f).groups = s.groups := rfl
@[simp] theorem State.modLane_streams (s : State) (l : LaneIx) (f : LaneState → LaneState) : (s.modLane l f).streams = s.streams := rfl
@[simp] theorem State.modLane_poolFree (s : State) (l : LaneIx) (f : LaneState → LaneState) : (s.modLane l f).poolFree = s.poolFree := rfl
@[simp] theorem State.modLane_poolLow (s : State) (l : LaneIx) (f : LaneState → LaneState) : (s.modLane l f).poolLow = s.poolLow := rfl
@[simp] theorem State.modLane_storeFree (s : State) (l : LaneIx) (f : LaneState → LaneState) : (s.modLane l f).storeFree = s.storeFree := rfl
@[simp] theorem State.modLane_storeLow (s : State) (l : LaneIx) (f : LaneState → LaneState) : (s.modLane l f).storeLow = s.storeLow := rfl
@[simp] theorem State.modLane_peerReport (s : State) (l : LaneIx) (f : LaneState → LaneState) : (s.modLane l f).peerReport = s.peerReport := rfl
@[simp] theorem State.modLane_mgmtOut (s : State) (l : LaneIx) (f : LaneState → LaneState) : (s.modLane l f).mgmtOut = s.mgmtOut := rfl
@[simp] theorem State.modLane_egressBusy (s : State) (l : LaneIx) (f : LaneState → LaneState) : (s.modLane l f).egressBusy = s.egressBusy := rfl
@[simp] theorem State.modLane_lastServed (s : State) (l : LaneIx) (f : LaneState → LaneState) : (s.modLane l f).lastServed = s.lastServed := rfl
@[simp] theorem State.modLane_requestQueue (s : State) (l : LaneIx) (f : LaneState → LaneState) : (s.modLane l f).requestQueue = s.requestQueue := rfl
@[simp] theorem State.modLane_engine (s : State) (l : LaneIx) (f : LaneState → LaneState) : (s.modLane l f).engine = s.engine := rfl
@[simp] theorem State.modLane_slots (s : State) (l : LaneIx) (f : LaneState → LaneState) : (s.modLane l f).slots = s.slots := rfl
@[simp] theorem State.modLane_completionOrder (s : State) (l : LaneIx) (f : LaneState → LaneState) : (s.modLane l f).completionOrder = s.completionOrder := rfl
@[simp] theorem State.modLane_notes (s : State) (l : LaneIx) (f : LaneState → LaneState) : (s.modLane l f).notes = s.notes := rfl
@[simp] theorem State.modLane_nextNote (s : State) (l : LaneIx) (f : LaneState → LaneState) : (s.modLane l f).nextNote = s.nextNote := rfl
@[simp] theorem State.modLane_tally (s : State) (l : LaneIx) (f : LaneState → LaneState) : (s.modLane l f).tally = s.tally := rfl
@[simp] theorem State.modLane_retry (s : State) (l : LaneIx) (f : LaneState → LaneState) : (s.modLane l f).retry = s.retry := rfl
@[simp] theorem State.modLane_resendPending (s : State) (l : LaneIx) (f : LaneState → LaneState) : (s.modLane l f).resendPending = s.resendPending := rfl

/-! ### modGroup -/

@[simp] theorem State.modGroup_pending (s : State) (g : GroupIx) (f : GroupState → GroupState) : (s.modGroup g f).pending = s.pending := rfl
@[simp] theorem State.modGroup_freeUse (s : State) (g : GroupIx) (f : GroupState → GroupState) : (s.modGroup g f).freeUse = s.freeUse := rfl
@[simp] theorem State.modGroup_lastResult (s : State) (g : GroupIx) (f : GroupState → GroupState) : (s.modGroup g f).lastResult = s.lastResult := rfl
@[simp] theorem State.modGroup_txInhibit (s : State) (g : GroupIx) (f : GroupState → GroupState) : (s.modGroup g f).txInhibit = s.txInhibit := rfl
@[simp] theorem State.modGroup_egressPause (s : State) (g : GroupIx) (f : GroupState → GroupState) : (s.modGroup g f).egressPause = s.egressPause := rfl
@[simp] theorem State.modGroup_resetAsserted (s : State) (g : GroupIx) (f : GroupState → GroupState) : (s.modGroup g f).resetAsserted = s.resetAsserted := rfl
@[simp] theorem State.modGroup_resetCause (s : State) (g : GroupIx) (f : GroupState → GroupState) : (s.modGroup g f).resetCause = s.resetCause := rfl
@[simp] theorem State.modGroup_timebase (s : State) (g : GroupIx) (f : GroupState → GroupState) : (s.modGroup g f).timebase = s.timebase := rfl
@[simp] theorem State.modGroup_dev (s : State) (g : GroupIx) (f : GroupState → GroupState) : (s.modGroup g f).dev = s.dev := rfl
@[simp] theorem State.modGroup_devCtr (s : State) (g : GroupIx) (f : GroupState → GroupState) : (s.modGroup g f).devCtr = s.devCtr := rfl
@[simp] theorem State.modGroup_lanes (s : State) (g : GroupIx) (f : GroupState → GroupState) : (s.modGroup g f).lanes = s.lanes := rfl
@[simp] theorem State.modGroup_streams (s : State) (g : GroupIx) (f : GroupState → GroupState) : (s.modGroup g f).streams = s.streams := rfl
@[simp] theorem State.modGroup_poolFree (s : State) (g : GroupIx) (f : GroupState → GroupState) : (s.modGroup g f).poolFree = s.poolFree := rfl
@[simp] theorem State.modGroup_poolLow (s : State) (g : GroupIx) (f : GroupState → GroupState) : (s.modGroup g f).poolLow = s.poolLow := rfl
@[simp] theorem State.modGroup_storeFree (s : State) (g : GroupIx) (f : GroupState → GroupState) : (s.modGroup g f).storeFree = s.storeFree := rfl
@[simp] theorem State.modGroup_storeLow (s : State) (g : GroupIx) (f : GroupState → GroupState) : (s.modGroup g f).storeLow = s.storeLow := rfl
@[simp] theorem State.modGroup_peerReport (s : State) (g : GroupIx) (f : GroupState → GroupState) : (s.modGroup g f).peerReport = s.peerReport := rfl
@[simp] theorem State.modGroup_mgmtOut (s : State) (g : GroupIx) (f : GroupState → GroupState) : (s.modGroup g f).mgmtOut = s.mgmtOut := rfl
@[simp] theorem State.modGroup_egressBusy (s : State) (g : GroupIx) (f : GroupState → GroupState) : (s.modGroup g f).egressBusy = s.egressBusy := rfl
@[simp] theorem State.modGroup_lastServed (s : State) (g : GroupIx) (f : GroupState → GroupState) : (s.modGroup g f).lastServed = s.lastServed := rfl
@[simp] theorem State.modGroup_requestQueue (s : State) (g : GroupIx) (f : GroupState → GroupState) : (s.modGroup g f).requestQueue = s.requestQueue := rfl
@[simp] theorem State.modGroup_engine (s : State) (g : GroupIx) (f : GroupState → GroupState) : (s.modGroup g f).engine = s.engine := rfl
@[simp] theorem State.modGroup_slots (s : State) (g : GroupIx) (f : GroupState → GroupState) : (s.modGroup g f).slots = s.slots := rfl
@[simp] theorem State.modGroup_completionOrder (s : State) (g : GroupIx) (f : GroupState → GroupState) : (s.modGroup g f).completionOrder = s.completionOrder := rfl
@[simp] theorem State.modGroup_notes (s : State) (g : GroupIx) (f : GroupState → GroupState) : (s.modGroup g f).notes = s.notes := rfl
@[simp] theorem State.modGroup_nextNote (s : State) (g : GroupIx) (f : GroupState → GroupState) : (s.modGroup g f).nextNote = s.nextNote := rfl
@[simp] theorem State.modGroup_tally (s : State) (g : GroupIx) (f : GroupState → GroupState) : (s.modGroup g f).tally = s.tally := rfl
@[simp] theorem State.modGroup_retry (s : State) (g : GroupIx) (f : GroupState → GroupState) : (s.modGroup g f).retry = s.retry := rfl
@[simp] theorem State.modGroup_resendPending (s : State) (g : GroupIx) (f : GroupState → GroupState) : (s.modGroup g f).resendPending = s.resendPending := rfl

/-! ### modStream -/

@[simp] theorem State.modStream_pending (s : State) (x : StreamIx) (f : StreamState → StreamState) : (s.modStream x f).pending = s.pending := rfl
@[simp] theorem State.modStream_freeUse (s : State) (x : StreamIx) (f : StreamState → StreamState) : (s.modStream x f).freeUse = s.freeUse := rfl
@[simp] theorem State.modStream_lastResult (s : State) (x : StreamIx) (f : StreamState → StreamState) : (s.modStream x f).lastResult = s.lastResult := rfl
@[simp] theorem State.modStream_txInhibit (s : State) (x : StreamIx) (f : StreamState → StreamState) : (s.modStream x f).txInhibit = s.txInhibit := rfl
@[simp] theorem State.modStream_egressPause (s : State) (x : StreamIx) (f : StreamState → StreamState) : (s.modStream x f).egressPause = s.egressPause := rfl
@[simp] theorem State.modStream_resetAsserted (s : State) (x : StreamIx) (f : StreamState → StreamState) : (s.modStream x f).resetAsserted = s.resetAsserted := rfl
@[simp] theorem State.modStream_resetCause (s : State) (x : StreamIx) (f : StreamState → StreamState) : (s.modStream x f).resetCause = s.resetCause := rfl
@[simp] theorem State.modStream_timebase (s : State) (x : StreamIx) (f : StreamState → StreamState) : (s.modStream x f).timebase = s.timebase := rfl
@[simp] theorem State.modStream_dev (s : State) (x : StreamIx) (f : StreamState → StreamState) : (s.modStream x f).dev = s.dev := rfl
@[simp] theorem State.modStream_devCtr (s : State) (x : StreamIx) (f : StreamState → StreamState) : (s.modStream x f).devCtr = s.devCtr := rfl
@[simp] theorem State.modStream_lanes (s : State) (x : StreamIx) (f : StreamState → StreamState) : (s.modStream x f).lanes = s.lanes := rfl
@[simp] theorem State.modStream_groups (s : State) (x : StreamIx) (f : StreamState → StreamState) : (s.modStream x f).groups = s.groups := rfl
@[simp] theorem State.modStream_poolFree (s : State) (x : StreamIx) (f : StreamState → StreamState) : (s.modStream x f).poolFree = s.poolFree := rfl
@[simp] theorem State.modStream_poolLow (s : State) (x : StreamIx) (f : StreamState → StreamState) : (s.modStream x f).poolLow = s.poolLow := rfl
@[simp] theorem State.modStream_storeFree (s : State) (x : StreamIx) (f : StreamState → StreamState) : (s.modStream x f).storeFree = s.storeFree := rfl
@[simp] theorem State.modStream_storeLow (s : State) (x : StreamIx) (f : StreamState → StreamState) : (s.modStream x f).storeLow = s.storeLow := rfl
@[simp] theorem State.modStream_peerReport (s : State) (x : StreamIx) (f : StreamState → StreamState) : (s.modStream x f).peerReport = s.peerReport := rfl
@[simp] theorem State.modStream_mgmtOut (s : State) (x : StreamIx) (f : StreamState → StreamState) : (s.modStream x f).mgmtOut = s.mgmtOut := rfl
@[simp] theorem State.modStream_egressBusy (s : State) (x : StreamIx) (f : StreamState → StreamState) : (s.modStream x f).egressBusy = s.egressBusy := rfl
@[simp] theorem State.modStream_lastServed (s : State) (x : StreamIx) (f : StreamState → StreamState) : (s.modStream x f).lastServed = s.lastServed := rfl
@[simp] theorem State.modStream_requestQueue (s : State) (x : StreamIx) (f : StreamState → StreamState) : (s.modStream x f).requestQueue = s.requestQueue := rfl
@[simp] theorem State.modStream_engine (s : State) (x : StreamIx) (f : StreamState → StreamState) : (s.modStream x f).engine = s.engine := rfl
@[simp] theorem State.modStream_slots (s : State) (x : StreamIx) (f : StreamState → StreamState) : (s.modStream x f).slots = s.slots := rfl
@[simp] theorem State.modStream_completionOrder (s : State) (x : StreamIx) (f : StreamState → StreamState) : (s.modStream x f).completionOrder = s.completionOrder := rfl
@[simp] theorem State.modStream_notes (s : State) (x : StreamIx) (f : StreamState → StreamState) : (s.modStream x f).notes = s.notes := rfl
@[simp] theorem State.modStream_nextNote (s : State) (x : StreamIx) (f : StreamState → StreamState) : (s.modStream x f).nextNote = s.nextNote := rfl
@[simp] theorem State.modStream_tally (s : State) (x : StreamIx) (f : StreamState → StreamState) : (s.modStream x f).tally = s.tally := rfl
@[simp] theorem State.modStream_retry (s : State) (x : StreamIx) (f : StreamState → StreamState) : (s.modStream x f).retry = s.retry := rfl
@[simp] theorem State.modStream_resendPending (s : State) (x : StreamIx) (f : StreamState → StreamState) : (s.modStream x f).resendPending = s.resendPending := rfl

/-! ### modSlot -/

@[simp] theorem State.modSlot_pending (s : State) (k : SlotIx) (f : Slot → Slot) : (s.modSlot k f).pending = s.pending := rfl
@[simp] theorem State.modSlot_freeUse (s : State) (k : SlotIx) (f : Slot → Slot) : (s.modSlot k f).freeUse = s.freeUse := rfl
@[simp] theorem State.modSlot_lastResult (s : State) (k : SlotIx) (f : Slot → Slot) : (s.modSlot k f).lastResult = s.lastResult := rfl
@[simp] theorem State.modSlot_txInhibit (s : State) (k : SlotIx) (f : Slot → Slot) : (s.modSlot k f).txInhibit = s.txInhibit := rfl
@[simp] theorem State.modSlot_egressPause (s : State) (k : SlotIx) (f : Slot → Slot) : (s.modSlot k f).egressPause = s.egressPause := rfl
@[simp] theorem State.modSlot_resetAsserted (s : State) (k : SlotIx) (f : Slot → Slot) : (s.modSlot k f).resetAsserted = s.resetAsserted := rfl
@[simp] theorem State.modSlot_resetCause (s : State) (k : SlotIx) (f : Slot → Slot) : (s.modSlot k f).resetCause = s.resetCause := rfl
@[simp] theorem State.modSlot_timebase (s : State) (k : SlotIx) (f : Slot → Slot) : (s.modSlot k f).timebase = s.timebase := rfl
@[simp] theorem State.modSlot_dev (s : State) (k : SlotIx) (f : Slot → Slot) : (s.modSlot k f).dev = s.dev := rfl
@[simp] theorem State.modSlot_devCtr (s : State) (k : SlotIx) (f : Slot → Slot) : (s.modSlot k f).devCtr = s.devCtr := rfl
@[simp] theorem State.modSlot_lanes (s : State) (k : SlotIx) (f : Slot → Slot) : (s.modSlot k f).lanes = s.lanes := rfl
@[simp] theorem State.modSlot_groups (s : State) (k : SlotIx) (f : Slot → Slot) : (s.modSlot k f).groups = s.groups := rfl
@[simp] theorem State.modSlot_streams (s : State) (k : SlotIx) (f : Slot → Slot) : (s.modSlot k f).streams = s.streams := rfl
@[simp] theorem State.modSlot_poolFree (s : State) (k : SlotIx) (f : Slot → Slot) : (s.modSlot k f).poolFree = s.poolFree := rfl
@[simp] theorem State.modSlot_poolLow (s : State) (k : SlotIx) (f : Slot → Slot) : (s.modSlot k f).poolLow = s.poolLow := rfl
@[simp] theorem State.modSlot_storeFree (s : State) (k : SlotIx) (f : Slot → Slot) : (s.modSlot k f).storeFree = s.storeFree := rfl
@[simp] theorem State.modSlot_storeLow (s : State) (k : SlotIx) (f : Slot → Slot) : (s.modSlot k f).storeLow = s.storeLow := rfl
@[simp] theorem State.modSlot_peerReport (s : State) (k : SlotIx) (f : Slot → Slot) : (s.modSlot k f).peerReport = s.peerReport := rfl
@[simp] theorem State.modSlot_mgmtOut (s : State) (k : SlotIx) (f : Slot → Slot) : (s.modSlot k f).mgmtOut = s.mgmtOut := rfl
@[simp] theorem State.modSlot_egressBusy (s : State) (k : SlotIx) (f : Slot → Slot) : (s.modSlot k f).egressBusy = s.egressBusy := rfl
@[simp] theorem State.modSlot_lastServed (s : State) (k : SlotIx) (f : Slot → Slot) : (s.modSlot k f).lastServed = s.lastServed := rfl
@[simp] theorem State.modSlot_requestQueue (s : State) (k : SlotIx) (f : Slot → Slot) : (s.modSlot k f).requestQueue = s.requestQueue := rfl
@[simp] theorem State.modSlot_engine (s : State) (k : SlotIx) (f : Slot → Slot) : (s.modSlot k f).engine = s.engine := rfl
@[simp] theorem State.modSlot_completionOrder (s : State) (k : SlotIx) (f : Slot → Slot) : (s.modSlot k f).completionOrder = s.completionOrder := rfl
@[simp] theorem State.modSlot_notes (s : State) (k : SlotIx) (f : Slot → Slot) : (s.modSlot k f).notes = s.notes := rfl
@[simp] theorem State.modSlot_nextNote (s : State) (k : SlotIx) (f : Slot → Slot) : (s.modSlot k f).nextNote = s.nextNote := rfl
@[simp] theorem State.modSlot_tally (s : State) (k : SlotIx) (f : Slot → Slot) : (s.modSlot k f).tally = s.tally := rfl
@[simp] theorem State.modSlot_retry (s : State) (k : SlotIx) (f : Slot → Slot) : (s.modSlot k f).retry = s.retry := rfl
@[simp] theorem State.modSlot_resendPending (s : State) (k : SlotIx) (f : Slot → Slot) : (s.modSlot k f).resendPending = s.resendPending := rfl

/-! ### countLane -/

@[simp] theorem State.countLane_pending (s : State) (l : LaneIx) (c : LaneCtr) (n : Nat) : (s.countLane l c n).pending = s.pending := rfl
@[simp] theorem State.countLane_freeUse (s : State) (l : LaneIx) (c : LaneCtr) (n : Nat) : (s.countLane l c n).freeUse = s.freeUse := rfl
@[simp] theorem State.countLane_lastResult (s : State) (l : LaneIx) (c : LaneCtr) (n : Nat) : (s.countLane l c n).lastResult = s.lastResult := rfl
@[simp] theorem State.countLane_txInhibit (s : State) (l : LaneIx) (c : LaneCtr) (n : Nat) : (s.countLane l c n).txInhibit = s.txInhibit := rfl
@[simp] theorem State.countLane_egressPause (s : State) (l : LaneIx) (c : LaneCtr) (n : Nat) : (s.countLane l c n).egressPause = s.egressPause := rfl
@[simp] theorem State.countLane_resetAsserted (s : State) (l : LaneIx) (c : LaneCtr) (n : Nat) : (s.countLane l c n).resetAsserted = s.resetAsserted := rfl
@[simp] theorem State.countLane_resetCause (s : State) (l : LaneIx) (c : LaneCtr) (n : Nat) : (s.countLane l c n).resetCause = s.resetCause := rfl
@[simp] theorem State.countLane_timebase (s : State) (l : LaneIx) (c : LaneCtr) (n : Nat) : (s.countLane l c n).timebase = s.timebase := rfl
@[simp] theorem State.countLane_dev (s : State) (l : LaneIx) (c : LaneCtr) (n : Nat) : (s.countLane l c n).dev = s.dev := rfl
@[simp] theorem State.countLane_devCtr (s : State) (l : LaneIx) (c : LaneCtr) (n : Nat) : (s.countLane l c n).devCtr = s.devCtr := rfl
@[simp] theorem State.countLane_groups (s : State) (l : LaneIx) (c : LaneCtr) (n : Nat) : (s.countLane l c n).groups = s.groups := rfl
@[simp] theorem State.countLane_streams (s : State) (l : LaneIx) (c : LaneCtr) (n : Nat) : (s.countLane l c n).streams = s.streams := rfl
@[simp] theorem State.countLane_poolFree (s : State) (l : LaneIx) (c : LaneCtr) (n : Nat) : (s.countLane l c n).poolFree = s.poolFree := rfl
@[simp] theorem State.countLane_poolLow (s : State) (l : LaneIx) (c : LaneCtr) (n : Nat) : (s.countLane l c n).poolLow = s.poolLow := rfl
@[simp] theorem State.countLane_storeFree (s : State) (l : LaneIx) (c : LaneCtr) (n : Nat) : (s.countLane l c n).storeFree = s.storeFree := rfl
@[simp] theorem State.countLane_storeLow (s : State) (l : LaneIx) (c : LaneCtr) (n : Nat) : (s.countLane l c n).storeLow = s.storeLow := rfl
@[simp] theorem State.countLane_peerReport (s : State) (l : LaneIx) (c : LaneCtr) (n : Nat) : (s.countLane l c n).peerReport = s.peerReport := rfl
@[simp] theorem State.countLane_mgmtOut (s : State) (l : LaneIx) (c : LaneCtr) (n : Nat) : (s.countLane l c n).mgmtOut = s.mgmtOut := rfl
@[simp] theorem State.countLane_egressBusy (s : State) (l : LaneIx) (c : LaneCtr) (n : Nat) : (s.countLane l c n).egressBusy = s.egressBusy := rfl
@[simp] theorem State.countLane_lastServed (s : State) (l : LaneIx) (c : LaneCtr) (n : Nat) : (s.countLane l c n).lastServed = s.lastServed := rfl
@[simp] theorem State.countLane_requestQueue (s : State) (l : LaneIx) (c : LaneCtr) (n : Nat) : (s.countLane l c n).requestQueue = s.requestQueue := rfl
@[simp] theorem State.countLane_engine (s : State) (l : LaneIx) (c : LaneCtr) (n : Nat) : (s.countLane l c n).engine = s.engine := rfl
@[simp] theorem State.countLane_slots (s : State) (l : LaneIx) (c : LaneCtr) (n : Nat) : (s.countLane l c n).slots = s.slots := rfl
@[simp] theorem State.countLane_completionOrder (s : State) (l : LaneIx) (c : LaneCtr) (n : Nat) : (s.countLane l c n).completionOrder = s.completionOrder := rfl
@[simp] theorem State.countLane_notes (s : State) (l : LaneIx) (c : LaneCtr) (n : Nat) : (s.countLane l c n).notes = s.notes := rfl
@[simp] theorem State.countLane_nextNote (s : State) (l : LaneIx) (c : LaneCtr) (n : Nat) : (s.countLane l c n).nextNote = s.nextNote := rfl
@[simp] theorem State.countLane_tally (s : State) (l : LaneIx) (c : LaneCtr) (n : Nat) : (s.countLane l c n).tally = s.tally := rfl
@[simp] theorem State.countLane_retry (s : State) (l : LaneIx) (c : LaneCtr) (n : Nat) : (s.countLane l c n).retry = s.retry := rfl
@[simp] theorem State.countLane_resendPending (s : State) (l : LaneIx) (c : LaneCtr) (n : Nat) : (s.countLane l c n).resendPending = s.resendPending := rfl

/-! ### countGroup -/

@[simp] theorem State.countGroup_pending (s : State) (g : GroupIx) (c : GroupCtr) (n : Nat) : (s.countGroup g c n).pending = s.pending := rfl
@[simp] theorem State.countGroup_freeUse (s : State) (g : GroupIx) (c : GroupCtr) (n : Nat) : (s.countGroup g c n).freeUse = s.freeUse := rfl
@[simp] theorem State.countGroup_lastResult (s : State) (g : GroupIx) (c : GroupCtr) (n : Nat) : (s.countGroup g c n).lastResult = s.lastResult := rfl
@[simp] theorem State.countGroup_txInhibit (s : State) (g : GroupIx) (c : GroupCtr) (n : Nat) : (s.countGroup g c n).txInhibit = s.txInhibit := rfl
@[simp] theorem State.countGroup_egressPause (s : State) (g : GroupIx) (c : GroupCtr) (n : Nat) : (s.countGroup g c n).egressPause = s.egressPause := rfl
@[simp] theorem State.countGroup_resetAsserted (s : State) (g : GroupIx) (c : GroupCtr) (n : Nat) : (s.countGroup g c n).resetAsserted = s.resetAsserted := rfl
@[simp] theorem State.countGroup_resetCause (s : State) (g : GroupIx) (c : GroupCtr) (n : Nat) : (s.countGroup g c n).resetCause = s.resetCause := rfl
@[simp] theorem State.countGroup_timebase (s : State) (g : GroupIx) (c : GroupCtr) (n : Nat) : (s.countGroup g c n).timebase = s.timebase := rfl
@[simp] theorem State.countGroup_dev (s : State) (g : GroupIx) (c : GroupCtr) (n : Nat) : (s.countGroup g c n).dev = s.dev := rfl
@[simp] theorem State.countGroup_devCtr (s : State) (g : GroupIx) (c : GroupCtr) (n : Nat) : (s.countGroup g c n).devCtr = s.devCtr := rfl
@[simp] theorem State.countGroup_lanes (s : State) (g : GroupIx) (c : GroupCtr) (n : Nat) : (s.countGroup g c n).lanes = s.lanes := rfl
@[simp] theorem State.countGroup_streams (s : State) (g : GroupIx) (c : GroupCtr) (n : Nat) : (s.countGroup g c n).streams = s.streams := rfl
@[simp] theorem State.countGroup_poolFree (s : State) (g : GroupIx) (c : GroupCtr) (n : Nat) : (s.countGroup g c n).poolFree = s.poolFree := rfl
@[simp] theorem State.countGroup_poolLow (s : State) (g : GroupIx) (c : GroupCtr) (n : Nat) : (s.countGroup g c n).poolLow = s.poolLow := rfl
@[simp] theorem State.countGroup_storeFree (s : State) (g : GroupIx) (c : GroupCtr) (n : Nat) : (s.countGroup g c n).storeFree = s.storeFree := rfl
@[simp] theorem State.countGroup_storeLow (s : State) (g : GroupIx) (c : GroupCtr) (n : Nat) : (s.countGroup g c n).storeLow = s.storeLow := rfl
@[simp] theorem State.countGroup_peerReport (s : State) (g : GroupIx) (c : GroupCtr) (n : Nat) : (s.countGroup g c n).peerReport = s.peerReport := rfl
@[simp] theorem State.countGroup_mgmtOut (s : State) (g : GroupIx) (c : GroupCtr) (n : Nat) : (s.countGroup g c n).mgmtOut = s.mgmtOut := rfl
@[simp] theorem State.countGroup_egressBusy (s : State) (g : GroupIx) (c : GroupCtr) (n : Nat) : (s.countGroup g c n).egressBusy = s.egressBusy := rfl
@[simp] theorem State.countGroup_lastServed (s : State) (g : GroupIx) (c : GroupCtr) (n : Nat) : (s.countGroup g c n).lastServed = s.lastServed := rfl
@[simp] theorem State.countGroup_requestQueue (s : State) (g : GroupIx) (c : GroupCtr) (n : Nat) : (s.countGroup g c n).requestQueue = s.requestQueue := rfl
@[simp] theorem State.countGroup_engine (s : State) (g : GroupIx) (c : GroupCtr) (n : Nat) : (s.countGroup g c n).engine = s.engine := rfl
@[simp] theorem State.countGroup_slots (s : State) (g : GroupIx) (c : GroupCtr) (n : Nat) : (s.countGroup g c n).slots = s.slots := rfl
@[simp] theorem State.countGroup_completionOrder (s : State) (g : GroupIx) (c : GroupCtr) (n : Nat) : (s.countGroup g c n).completionOrder = s.completionOrder := rfl
@[simp] theorem State.countGroup_notes (s : State) (g : GroupIx) (c : GroupCtr) (n : Nat) : (s.countGroup g c n).notes = s.notes := rfl
@[simp] theorem State.countGroup_nextNote (s : State) (g : GroupIx) (c : GroupCtr) (n : Nat) : (s.countGroup g c n).nextNote = s.nextNote := rfl
@[simp] theorem State.countGroup_tally (s : State) (g : GroupIx) (c : GroupCtr) (n : Nat) : (s.countGroup g c n).tally = s.tally := rfl
@[simp] theorem State.countGroup_retry (s : State) (g : GroupIx) (c : GroupCtr) (n : Nat) : (s.countGroup g c n).retry = s.retry := rfl
@[simp] theorem State.countGroup_resendPending (s : State) (g : GroupIx) (c : GroupCtr) (n : Nat) : (s.countGroup g c n).resendPending = s.resendPending := rfl

/-! ### countStream -/

@[simp] theorem State.countStream_pending (s : State) (x : StreamIx) (c : StreamCtr) (n : Nat) : (s.countStream x c n).pending = s.pending := rfl
@[simp] theorem State.countStream_freeUse (s : State) (x : StreamIx) (c : StreamCtr) (n : Nat) : (s.countStream x c n).freeUse = s.freeUse := rfl
@[simp] theorem State.countStream_lastResult (s : State) (x : StreamIx) (c : StreamCtr) (n : Nat) : (s.countStream x c n).lastResult = s.lastResult := rfl
@[simp] theorem State.countStream_txInhibit (s : State) (x : StreamIx) (c : StreamCtr) (n : Nat) : (s.countStream x c n).txInhibit = s.txInhibit := rfl
@[simp] theorem State.countStream_egressPause (s : State) (x : StreamIx) (c : StreamCtr) (n : Nat) : (s.countStream x c n).egressPause = s.egressPause := rfl
@[simp] theorem State.countStream_resetAsserted (s : State) (x : StreamIx) (c : StreamCtr) (n : Nat) : (s.countStream x c n).resetAsserted = s.resetAsserted := rfl
@[simp] theorem State.countStream_resetCause (s : State) (x : StreamIx) (c : StreamCtr) (n : Nat) : (s.countStream x c n).resetCause = s.resetCause := rfl
@[simp] theorem State.countStream_timebase (s : State) (x : StreamIx) (c : StreamCtr) (n : Nat) : (s.countStream x c n).timebase = s.timebase := rfl
@[simp] theorem State.countStream_dev (s : State) (x : StreamIx) (c : StreamCtr) (n : Nat) : (s.countStream x c n).dev = s.dev := rfl
@[simp] theorem State.countStream_devCtr (s : State) (x : StreamIx) (c : StreamCtr) (n : Nat) : (s.countStream x c n).devCtr = s.devCtr := rfl
@[simp] theorem State.countStream_lanes (s : State) (x : StreamIx) (c : StreamCtr) (n : Nat) : (s.countStream x c n).lanes = s.lanes := rfl
@[simp] theorem State.countStream_groups (s : State) (x : StreamIx) (c : StreamCtr) (n : Nat) : (s.countStream x c n).groups = s.groups := rfl
@[simp] theorem State.countStream_poolFree (s : State) (x : StreamIx) (c : StreamCtr) (n : Nat) : (s.countStream x c n).poolFree = s.poolFree := rfl
@[simp] theorem State.countStream_poolLow (s : State) (x : StreamIx) (c : StreamCtr) (n : Nat) : (s.countStream x c n).poolLow = s.poolLow := rfl
@[simp] theorem State.countStream_storeFree (s : State) (x : StreamIx) (c : StreamCtr) (n : Nat) : (s.countStream x c n).storeFree = s.storeFree := rfl
@[simp] theorem State.countStream_storeLow (s : State) (x : StreamIx) (c : StreamCtr) (n : Nat) : (s.countStream x c n).storeLow = s.storeLow := rfl
@[simp] theorem State.countStream_peerReport (s : State) (x : StreamIx) (c : StreamCtr) (n : Nat) : (s.countStream x c n).peerReport = s.peerReport := rfl
@[simp] theorem State.countStream_mgmtOut (s : State) (x : StreamIx) (c : StreamCtr) (n : Nat) : (s.countStream x c n).mgmtOut = s.mgmtOut := rfl
@[simp] theorem State.countStream_egressBusy (s : State) (x : StreamIx) (c : StreamCtr) (n : Nat) : (s.countStream x c n).egressBusy = s.egressBusy := rfl
@[simp] theorem State.countStream_lastServed (s : State) (x : StreamIx) (c : StreamCtr) (n : Nat) : (s.countStream x c n).lastServed = s.lastServed := rfl
@[simp] theorem State.countStream_requestQueue (s : State) (x : StreamIx) (c : StreamCtr) (n : Nat) : (s.countStream x c n).requestQueue = s.requestQueue := rfl
@[simp] theorem State.countStream_engine (s : State) (x : StreamIx) (c : StreamCtr) (n : Nat) : (s.countStream x c n).engine = s.engine := rfl
@[simp] theorem State.countStream_slots (s : State) (x : StreamIx) (c : StreamCtr) (n : Nat) : (s.countStream x c n).slots = s.slots := rfl
@[simp] theorem State.countStream_completionOrder (s : State) (x : StreamIx) (c : StreamCtr) (n : Nat) : (s.countStream x c n).completionOrder = s.completionOrder := rfl
@[simp] theorem State.countStream_notes (s : State) (x : StreamIx) (c : StreamCtr) (n : Nat) : (s.countStream x c n).notes = s.notes := rfl
@[simp] theorem State.countStream_nextNote (s : State) (x : StreamIx) (c : StreamCtr) (n : Nat) : (s.countStream x c n).nextNote = s.nextNote := rfl
@[simp] theorem State.countStream_tally (s : State) (x : StreamIx) (c : StreamCtr) (n : Nat) : (s.countStream x c n).tally = s.tally := rfl
@[simp] theorem State.countStream_retry (s : State) (x : StreamIx) (c : StreamCtr) (n : Nat) : (s.countStream x c n).retry = s.retry := rfl
@[simp] theorem State.countStream_resendPending (s : State) (x : StreamIx) (c : StreamCtr) (n : Nat) : (s.countStream x c n).resendPending = s.resendPending := rfl

/-! ### countDev -/

@[simp] theorem State.countDev_pending (s : State) (c : DevCtr) (n : Nat) : (s.countDev c n).pending = s.pending := rfl
@[simp] theorem State.countDev_freeUse (s : State) (c : DevCtr) (n : Nat) : (s.countDev c n).freeUse = s.freeUse := rfl
@[simp] theorem State.countDev_lastResult (s : State) (c : DevCtr) (n : Nat) : (s.countDev c n).lastResult = s.lastResult := rfl
@[simp] theorem State.countDev_txInhibit (s : State) (c : DevCtr) (n : Nat) : (s.countDev c n).txInhibit = s.txInhibit := rfl
@[simp] theorem State.countDev_egressPause (s : State) (c : DevCtr) (n : Nat) : (s.countDev c n).egressPause = s.egressPause := rfl
@[simp] theorem State.countDev_resetAsserted (s : State) (c : DevCtr) (n : Nat) : (s.countDev c n).resetAsserted = s.resetAsserted := rfl
@[simp] theorem State.countDev_resetCause (s : State) (c : DevCtr) (n : Nat) : (s.countDev c n).resetCause = s.resetCause := rfl
@[simp] theorem State.countDev_timebase (s : State) (c : DevCtr) (n : Nat) : (s.countDev c n).timebase = s.timebase := rfl
@[simp] theorem State.countDev_dev (s : State) (c : DevCtr) (n : Nat) : (s.countDev c n).dev = s.dev := rfl
@[simp] theorem State.countDev_lanes (s : State) (c : DevCtr) (n : Nat) : (s.countDev c n).lanes = s.lanes := rfl
@[simp] theorem State.countDev_groups (s : State) (c : DevCtr) (n : Nat) : (s.countDev c n).groups = s.groups := rfl
@[simp] theorem State.countDev_streams (s : State) (c : DevCtr) (n : Nat) : (s.countDev c n).streams = s.streams := rfl
@[simp] theorem State.countDev_poolFree (s : State) (c : DevCtr) (n : Nat) : (s.countDev c n).poolFree = s.poolFree := rfl
@[simp] theorem State.countDev_poolLow (s : State) (c : DevCtr) (n : Nat) : (s.countDev c n).poolLow = s.poolLow := rfl
@[simp] theorem State.countDev_storeFree (s : State) (c : DevCtr) (n : Nat) : (s.countDev c n).storeFree = s.storeFree := rfl
@[simp] theorem State.countDev_storeLow (s : State) (c : DevCtr) (n : Nat) : (s.countDev c n).storeLow = s.storeLow := rfl
@[simp] theorem State.countDev_peerReport (s : State) (c : DevCtr) (n : Nat) : (s.countDev c n).peerReport = s.peerReport := rfl
@[simp] theorem State.countDev_mgmtOut (s : State) (c : DevCtr) (n : Nat) : (s.countDev c n).mgmtOut = s.mgmtOut := rfl
@[simp] theorem State.countDev_egressBusy (s : State) (c : DevCtr) (n : Nat) : (s.countDev c n).egressBusy = s.egressBusy := rfl
@[simp] theorem State.countDev_lastServed (s : State) (c : DevCtr) (n : Nat) : (s.countDev c n).lastServed = s.lastServed := rfl
@[simp] theorem State.countDev_requestQueue (s : State) (c : DevCtr) (n : Nat) : (s.countDev c n).requestQueue = s.requestQueue := rfl
@[simp] theorem State.countDev_engine (s : State) (c : DevCtr) (n : Nat) : (s.countDev c n).engine = s.engine := rfl
@[simp] theorem State.countDev_slots (s : State) (c : DevCtr) (n : Nat) : (s.countDev c n).slots = s.slots := rfl
@[simp] theorem State.countDev_completionOrder (s : State) (c : DevCtr) (n : Nat) : (s.countDev c n).completionOrder = s.completionOrder := rfl
@[simp] theorem State.countDev_notes (s : State) (c : DevCtr) (n : Nat) : (s.countDev c n).notes = s.notes := rfl
@[simp] theorem State.countDev_nextNote (s : State) (c : DevCtr) (n : Nat) : (s.countDev c n).nextNote = s.nextNote := rfl
@[simp] theorem State.countDev_tally (s : State) (c : DevCtr) (n : Nat) : (s.countDev c n).tally = s.tally := rfl
@[simp] theorem State.countDev_retry (s : State) (c : DevCtr) (n : Nat) : (s.countDev c n).retry = s.retry := rfl
@[simp] theorem State.countDev_resendPending (s : State) (c : DevCtr) (n : Nat) : (s.countDev c n).resendPending = s.resendPending := rfl

/-! ### passTo -/

@[simp] theorem State.passTo_pending (s : State) (e : Time) : (s.passTo e).pending = s.pending := rfl
@[simp] theorem State.passTo_freeUse (s : State) (e : Time) : (s.passTo e).freeUse = s.freeUse := rfl
@[simp] theorem State.passTo_lastResult (s : State) (e : Time) : (s.passTo e).lastResult = s.lastResult := rfl
@[simp] theorem State.passTo_txInhibit (s : State) (e : Time) : (s.passTo e).txInhibit = s.txInhibit := rfl
@[simp] theorem State.passTo_egressPause (s : State) (e : Time) : (s.passTo e).egressPause = s.egressPause := rfl
@[simp] theorem State.passTo_resetAsserted (s : State) (e : Time) : (s.passTo e).resetAsserted = s.resetAsserted := rfl
@[simp] theorem State.passTo_resetCause (s : State) (e : Time) : (s.passTo e).resetCause = s.resetCause := rfl
@[simp] theorem State.passTo_dev (s : State) (e : Time) : (s.passTo e).dev = s.dev := rfl
@[simp] theorem State.passTo_devCtr (s : State) (e : Time) : (s.passTo e).devCtr = s.devCtr := rfl
@[simp] theorem State.passTo_lanes (s : State) (e : Time) : (s.passTo e).lanes = s.lanes := rfl
@[simp] theorem State.passTo_groups (s : State) (e : Time) : (s.passTo e).groups = s.groups := rfl
@[simp] theorem State.passTo_streams (s : State) (e : Time) : (s.passTo e).streams = s.streams := rfl
@[simp] theorem State.passTo_poolFree (s : State) (e : Time) : (s.passTo e).poolFree = s.poolFree := rfl
@[simp] theorem State.passTo_poolLow (s : State) (e : Time) : (s.passTo e).poolLow = s.poolLow := rfl
@[simp] theorem State.passTo_storeFree (s : State) (e : Time) : (s.passTo e).storeFree = s.storeFree := rfl
@[simp] theorem State.passTo_storeLow (s : State) (e : Time) : (s.passTo e).storeLow = s.storeLow := rfl
@[simp] theorem State.passTo_peerReport (s : State) (e : Time) : (s.passTo e).peerReport = s.peerReport := rfl
@[simp] theorem State.passTo_mgmtOut (s : State) (e : Time) : (s.passTo e).mgmtOut = s.mgmtOut := rfl
@[simp] theorem State.passTo_egressBusy (s : State) (e : Time) : (s.passTo e).egressBusy = s.egressBusy := rfl
@[simp] theorem State.passTo_lastServed (s : State) (e : Time) : (s.passTo e).lastServed = s.lastServed := rfl
@[simp] theorem State.passTo_requestQueue (s : State) (e : Time) : (s.passTo e).requestQueue = s.requestQueue := rfl
@[simp] theorem State.passTo_engine (s : State) (e : Time) : (s.passTo e).engine = s.engine := rfl
@[simp] theorem State.passTo_slots (s : State) (e : Time) : (s.passTo e).slots = s.slots := rfl
@[simp] theorem State.passTo_completionOrder (s : State) (e : Time) : (s.passTo e).completionOrder = s.completionOrder := rfl
@[simp] theorem State.passTo_notes (s : State) (e : Time) : (s.passTo e).notes = s.notes := rfl
@[simp] theorem State.passTo_nextNote (s : State) (e : Time) : (s.passTo e).nextNote = s.nextNote := rfl
@[simp] theorem State.passTo_tally (s : State) (e : Time) : (s.passTo e).tally = s.tally := rfl
@[simp] theorem State.passTo_retry (s : State) (e : Time) : (s.passTo e).retry = s.retry := rfl
@[simp] theorem State.passTo_resendPending (s : State) (e : Time) : (s.passTo e).resendPending = s.resendPending := rfl

/-! ### The lane, group, stream and slot changed, and the others -/

@[simp] theorem State.lane_modLane (s : State) (l m : LaneIx) (f : LaneState → LaneState) :
    (s.modLane l f).lane m = if m = l then f (s.lane l) else s.lane m := by
  by_cases h : m = l
  · subst h; simp [State.modLane, State.lane]
  · have h' : l.val ≠ m.val := fun e => h (Fin.ext e.symm)
    simp [State.modLane, State.lane, h, h']

@[simp] theorem State.group_modGroup (s : State) (g h : GroupIx) (f : GroupState → GroupState) :
    (s.modGroup g f).group h = if h = g then f (s.group g) else s.group h := by
  by_cases e : h = g
  · subst e; simp [State.modGroup, State.group]
  · have e' : g.val ≠ h.val := fun x => e (Fin.ext x.symm)
    simp [State.modGroup, State.group, e, e']

@[simp] theorem State.stream_modStream (s : State) (x y : StreamIx) (f : StreamState → StreamState) :
    (s.modStream x f).stream y = if y = x then f (s.stream x) else s.stream y := by
  by_cases h : y = x
  · subst h; simp [State.modStream, State.stream]
  · have h' : x.val ≠ y.val := fun e => h (Fin.ext e.symm)
    simp [State.modStream, State.stream, h, h']

@[simp] theorem State.slot_modSlot (s : State) (k j : SlotIx) (f : Slot → Slot) :
    (s.modSlot k f).slot j = if j = k then f (s.slot k) else s.slot j := by
  by_cases h : j = k
  · subst h; simp [State.modSlot, State.slot]
  · have h' : k.val ≠ j.val := fun e => h (Fin.ext e.symm)
    simp [State.modSlot, State.slot, h, h']

@[simp] theorem State.lane_countLane (s : State) (l m : LaneIx) (c : LaneCtr) (n : Nat) :
    (s.countLane l c n).lane m =
      if m = l then { s.lane l with ctr := raiseCounter (s.lane l).ctr c.ix n } else s.lane m := by
  simp [State.countLane]

@[simp] theorem State.group_countGroup (s : State) (g h : GroupIx) (c : GroupCtr) (n : Nat) :
    (s.countGroup g c n).group h =
      if h = g then { s.group g with ctr := raiseCounter (s.group g).ctr c.ix n } else s.group h := by
  simp [State.countGroup]

@[simp] theorem State.stream_countStream (s : State) (x y : StreamIx) (c : StreamCtr) (n : Nat) :
    (s.countStream x c n).stream y =
      if y = x then { s.stream x with ctr := raiseCounter (s.stream x).ctr c.ix n } else s.stream y := by
  simp [State.countStream]

@[simp] theorem State.group_modLane (s : State) (l : LaneIx) (f : LaneState → LaneState) (i : GroupIx) : (s.modLane l f).group i = s.group i := rfl
@[simp] theorem State.stream_modLane (s : State) (l : LaneIx) (f : LaneState → LaneState) (i : StreamIx) : (s.modLane l f).stream i = s.stream i := rfl
@[simp] theorem State.slot_modLane (s : State) (l : LaneIx) (f : LaneState → LaneState) (i : SlotIx) : (s.modLane l f).slot i = s.slot i := rfl
@[simp] theorem State.lane_modGroup (s : State) (g : GroupIx) (f : GroupState → GroupState) (i : LaneIx) : (s.modGroup g f).lane i = s.lane i := rfl
@[simp] theorem State.stream_modGroup (s : State) (g : GroupIx) (f : GroupState → GroupState) (i : StreamIx) : (s.modGroup g f).stream i = s.stream i := rfl
@[simp] theorem State.slot_modGroup (s : State) (g : GroupIx) (f : GroupState → GroupState) (i : SlotIx) : (s.modGroup g f).slot i = s.slot i := rfl
@[simp] theorem State.lane_modStream (s : State) (x : StreamIx) (f : StreamState → StreamState) (i : LaneIx) : (s.modStream x f).lane i = s.lane i := rfl
@[simp] theorem State.group_modStream (s : State) (x : StreamIx) (f : StreamState → StreamState) (i : GroupIx) : (s.modStream x f).group i = s.group i := rfl
@[simp] theorem State.slot_modStream (s : State) (x : StreamIx) (f : StreamState → StreamState) (i : SlotIx) : (s.modStream x f).slot i = s.slot i := rfl
@[simp] theorem State.lane_modSlot (s : State) (k : SlotIx) (f : Slot → Slot) (i : LaneIx) : (s.modSlot k f).lane i = s.lane i := rfl
@[simp] theorem State.group_modSlot (s : State) (k : SlotIx) (f : Slot → Slot) (i : GroupIx) : (s.modSlot k f).group i = s.group i := rfl
@[simp] theorem State.stream_modSlot (s : State) (k : SlotIx) (f : Slot → Slot) (i : StreamIx) : (s.modSlot k f).stream i = s.stream i := rfl
@[simp] theorem State.group_countLane (s : State) (l : LaneIx) (c : LaneCtr) (n : Nat) (i : GroupIx) : (s.countLane l c n).group i = s.group i := rfl
@[simp] theorem State.stream_countLane (s : State) (l : LaneIx) (c : LaneCtr) (n : Nat) (i : StreamIx) : (s.countLane l c n).stream i = s.stream i := rfl
@[simp] theorem State.slot_countLane (s : State) (l : LaneIx) (c : LaneCtr) (n : Nat) (i : SlotIx) : (s.countLane l c n).slot i = s.slot i := rfl
@[simp] theorem State.lane_countGroup (s : State) (g : GroupIx) (c : GroupCtr) (n : Nat) (i : LaneIx) : (s.countGroup g c n).lane i = s.lane i := rfl
@[simp] theorem State.stream_countGroup (s : State) (g : GroupIx) (c : GroupCtr) (n : Nat) (i : StreamIx) : (s.countGroup g c n).stream i = s.stream i := rfl
@[simp] theorem State.slot_countGroup (s : State) (g : GroupIx) (c : GroupCtr) (n : Nat) (i : SlotIx) : (s.countGroup g c n).slot i = s.slot i := rfl
@[simp] theorem State.lane_countStream (s : State) (x : StreamIx) (c : StreamCtr) (n : Nat) (i : LaneIx) : (s.countStream x c n).lane i = s.lane i := rfl
@[simp] theorem State.group_countStream (s : State) (x : StreamIx) (c : StreamCtr) (n : Nat) (i : GroupIx) : (s.countStream x c n).group i = s.group i := rfl
@[simp] theorem State.slot_countStream (s : State) (x : StreamIx) (c : StreamCtr) (n : Nat) (i : SlotIx) : (s.countStream x c n).slot i = s.slot i := rfl
@[simp] theorem State.lane_countDev (s : State) (c : DevCtr) (n : Nat) (i : LaneIx) : (s.countDev c n).lane i = s.lane i := rfl
@[simp] theorem State.group_countDev (s : State) (c : DevCtr) (n : Nat) (i : GroupIx) : (s.countDev c n).group i = s.group i := rfl
@[simp] theorem State.stream_countDev (s : State) (c : DevCtr) (n : Nat) (i : StreamIx) : (s.countDev c n).stream i = s.stream i := rfl
@[simp] theorem State.slot_countDev (s : State) (c : DevCtr) (n : Nat) (i : SlotIx) : (s.countDev c n).slot i = s.slot i := rfl
@[simp] theorem State.lane_passTo (s : State) (e : Time) (i : LaneIx) : (s.passTo e).lane i = s.lane i := rfl
@[simp] theorem State.group_passTo (s : State) (e : Time) (i : GroupIx) : (s.passTo e).group i = s.group i := rfl
@[simp] theorem State.stream_passTo (s : State) (e : Time) (i : StreamIx) : (s.passTo e).stream i = s.stream i := rfl
@[simp] theorem State.slot_passTo (s : State) (e : Time) (i : SlotIx) : (s.passTo e).slot i = s.slot i := rfl

/-! ### Counters (R171) -/

@[simp] theorem raiseCounter_get {k : Nat} (v : Vector Counter k) (i j : Fin k) (n : Nat) :
    (raiseCounter v i n)[j.val] = if j = i then v[i.val] + BitVec.ofNat 32 n else v[j.val] := by
  by_cases h : j = i
  · subst h; simp [raiseCounter]
  · have h' : i.val ≠ j.val := fun e => h (Fin.ext e.symm)
    simp [raiseCounter, h, h']

theorem LaneCtr.ix_injective (c d : LaneCtr) (h : c.ix = d.ix) : c = d := by
  have e : c.ctorIdx = d.ctorIdx := congrArg Fin.val h
  rw [← LaneCtr.ofNat_ctorIdx c, ← LaneCtr.ofNat_ctorIdx d, e]

@[simp] theorem LaneCtr.ix_eq (c d : LaneCtr) : c.ix = d.ix ↔ c = d :=
  ⟨LaneCtr.ix_injective c d, congrArg LaneCtr.ix⟩

theorem DevCtr.ix_injective (c d : DevCtr) (h : c.ix = d.ix) : c = d := by
  have e : c.ctorIdx = d.ctorIdx := congrArg Fin.val h
  rw [← DevCtr.ofNat_ctorIdx c, ← DevCtr.ofNat_ctorIdx d, e]

@[simp] theorem DevCtr.ix_eq (c d : DevCtr) : c.ix = d.ix ↔ c = d :=
  ⟨DevCtr.ix_injective c d, congrArg DevCtr.ix⟩

theorem StreamCtr.ix_injective (c d : StreamCtr) (h : c.ix = d.ix) : c = d := by
  have e : c.ctorIdx = d.ctorIdx := congrArg Fin.val h
  rw [← StreamCtr.ofNat_ctorIdx c, ← StreamCtr.ofNat_ctorIdx d, e]

@[simp] theorem StreamCtr.ix_eq (c d : StreamCtr) : c.ix = d.ix ↔ c = d :=
  ⟨StreamCtr.ix_injective c d, congrArg StreamCtr.ix⟩

theorem GroupCtr.ix_injective (c d : GroupCtr) (h : c.ix = d.ix) : c = d := by
  have e : c.ctorIdx = d.ctorIdx := congrArg Fin.val h
  rw [← GroupCtr.ofNat_ctorIdx c, ← GroupCtr.ofNat_ctorIdx d, e]

@[simp] theorem GroupCtr.ix_eq (c d : GroupCtr) : c.ix = d.ix ↔ c = d :=
  ⟨GroupCtr.ix_injective c d, congrArg GroupCtr.ix⟩

theorem State.laneCount_countLane (s : State) (l m : LaneIx) (c d : LaneCtr) (n : Nat) :
    (s.countLane l c n).laneCount m d =
      if m = l ∧ d = c then s.laneCount l c + BitVec.ofNat 32 n else s.laneCount m d := by
  simp only [State.laneCount, State.lane_countLane]
  by_cases h : m = l <;> simp [h]

theorem State.groupCount_countGroup (s : State) (g h : GroupIx) (c d : GroupCtr) (n : Nat) :
    (s.countGroup g c n).groupCount h d =
      if h = g ∧ d = c then s.groupCount g c + BitVec.ofNat 32 n else s.groupCount h d := by
  simp only [State.groupCount, State.group_countGroup]
  by_cases e : h = g <;> simp [e]

theorem State.streamCount_countStream (s : State) (x y : StreamIx) (c d : StreamCtr) (n : Nat) :
    (s.countStream x c n).streamCount y d =
      if y = x ∧ d = c then s.streamCount x c + BitVec.ofNat 32 n else s.streamCount y d := by
  simp only [State.streamCount, State.stream_countStream]
  by_cases h : y = x <;> simp [h]

theorem State.devCount_countDev (s : State) (c d : DevCtr) (n : Nat) :
    (s.countDev c n).devCount d =
      if d = c then s.devCount c + BitVec.ofNat 32 n else s.devCount d := by
  simp [State.devCount, State.countDev]

end Sys2Proof.Machine
end

