-- ==== Sys2Proof/Laws/Notify.lean ====
section
/-! SUPPORT. What posting a record and offering notification frames can do: they change only what `NotesOnly` names, and a
post with room appends its record. -/

namespace Sys2Proof.Machine

/-! ### The relation -/

/-- A change of the Notification Unit's fields alone. -/
theorem NotesOnly.of_unit {s t : State}
    (h : t = { s with
      notes := t.notes, nextNote := t.nextNote, tally := t.tally, retry := t.retry, resendPending := t.resendPending }) :
    NotesOnly s t := by
  rw [h]
  exact ⟨rfl, fun _ _ => rfl, ⟨[], (List.append_nil _).symm, by simp⟩, .inl rfl⟩

theorem NotesOnly.refl (s : State) : NotesOnly s s := .of_unit rfl

theorem NotesOnly.trans {s t u : State} (h : NotesOnly s t) (k : NotesOnly t u) : NotesOnly s u := by
  obtain ⟨e, hc, ⟨m, hm, hf⟩, hb⟩ := h
  obtain ⟨f, kc, ⟨n, kn, kf⟩, kb⟩ := k
  have hp : t.egressPause = s.egressPause := (congrArg State.egressPause e).trans rfl
  refine ⟨?_, fun c h => (kc c h).trans (hc c h), ⟨m ++ n, by rw [kn, hm, List.append_assoc], ?_⟩, ?_⟩
  · rw [e] at f
    exact f
  · intro x hx
    rcases List.mem_append.1 hx with h | h
    · exact hf x h
    · exact kf x h
  · rcases kb with kb | ⟨k1, k2, k3⟩
    · rw [kb]; exact hb
    · rcases hb with hb | ⟨h1, h2, h3⟩
      · exact .inr ⟨hb ▸ k1, hp ▸ k2, k3⟩
      · exact .inr ⟨h1, h2, k3⟩

/-- A counter of R181 may rise. -/
theorem countDev_notesOnly (s : State) (c : DevCtr) (n : Nat) (hc : 15 ≤ c.ix.val) : NotesOnly s (s.countDev c n) := by
  refine ⟨rfl, fun d hd => ?_, ⟨[], (List.append_nil _).symm, by simp⟩, .inl rfl⟩
  have : d ≠ c := fun e => by subst e; omega
  simp [State.devCount_countDev, this]

/-! ### Each operation -/

theorem queueNote_notesOnly (b : NoteBody) (s : State) : NotesOnly s (queueNote b s) :=
  NotesOnly.trans (t := { s with notes := s.notes ++ [Note.mk s.nextNote b s.timebase false], nextNote := s.nextNote + 1 })
    (.of_unit rfl) (countDev_notesOnly _ .notificationsPosted 1 (by decide))

theorem loseNote_notesOnly (s : State) : NotesOnly s (loseNote s) :=
  NotesOnly.trans (t := { s with tally := min (s.tally + 1) 4294967295 })
    (.of_unit rfl) (countDev_notesOnly _ .notificationsLost 1 (by decide))

theorem queueOverflow_notesOnly (s : State) : NotesOnly s (queueOverflow s) :=
  (queueNote_notesOnly _ s).trans (.of_unit rfl)

theorem startRetry_notesOnly (s : State) : NotesOnly s (startRetry s) := .of_unit rfl

/-- With a management frame waiting the arbiter can only begin it (R75). -/
theorem arbitrate_of_mgmt {s : State} (h : s.mgmtOut ≠ []) :
    arbitrate s = s ∨
      (s.egressBusy = none ∧ s.egressPause = false ∧ arbitrate s = { s with egressBusy := some .management }) := by
  unfold arbitrate
  split
  · exact .inl rfl
  · next hb =>
    simp only [Bool.or_eq_true, not_or, Bool.not_eq_true, Option.isSome_eq_false_iff, Option.isNone_iff_eq_none] at hb
    exact .inr ⟨hb.1, hb.2, by simp [List.isEmpty_eq_false_iff.2 h]⟩

/-- A frame joins the management output queue, and an idle, unpaused egress begins the head of that queue (R74, R75). -/
theorem mgmtJoin_cases (f : MgmtFrame) (s : State) :
    ∃ busy, mgmtJoin f s = { s with mgmtOut := s.mgmtOut ++ [f], egressBusy := busy } ∧
      (busy = s.egressBusy ∨ (s.egressBusy = none ∧ s.egressPause = false ∧ busy = some .management)) := by
  have h : ({ s with mgmtOut := s.mgmtOut ++ [f] } : State).mgmtOut ≠ [] := by simp
  rcases arbitrate_of_mgmt h with e | ⟨a, b, e⟩
  · exact ⟨_, e, .inl rfl⟩
  · exact ⟨_, e, .inr ⟨a, b, rfl⟩⟩

theorem mgmtJoin_notesOnly (bytes : List Byte) (s : State) : NotesOnly s (mgmtJoin ⟨bytes, false⟩ s) := by
  obtain ⟨busy, e, hb⟩ := mgmtJoin_cases ⟨bytes, false⟩ s
  rw [e]
  exact ⟨rfl, fun _ _ => rfl, ⟨_, rfl, by simp⟩, hb⟩

theorem takeFirstSend_notesOnly (s : State) : NotesOnly s (takeFirstSend s) := by
  have h : NotesOnly s (mgmtJoin ⟨notificationFrame s.unsentNotes, false⟩
      ({ s with notes := markSent Config.notesPerFrame s.notes }.countDev .notificationFramesQueued)) :=
    (NotesOnly.trans (t := { s with notes := markSent Config.notesPerFrame s.notes }) (.of_unit rfl)
      (countDev_notesOnly _ .notificationFramesQueued 1 (by decide))).trans (mgmtJoin_notesOnly _ _)
  unfold takeFirstSend
  dsimp only
  split
  · exact h.trans (startRetry_notesOnly _)
  · exact h

theorem takeResend_notesOnly (s : State) : NotesOnly s (takeResend s) :=
  (((NotesOnly.trans (t := { s with resendPending := false }) (.of_unit rfl)
    (countDev_notesOnly _ .resendFramesQueued 1 (by decide))).trans
      (countDev_notesOnly _ .recordsResent _ (by decide))).trans (mgmtJoin_notesOnly _ _)).trans
        (startRetry_notesOnly _)

theorem offerOnce_notesOnly {s t : State} (h : offerOnce s = some t) : NotesOnly s t := by
  unfold offerOnce at h
  split at h
  · cases h
  · split at h
    · cases h; exact takeResend_notesOnly s
    · split at h
      · cases h; exact takeFirstSend_notesOnly s
      · cases h

theorem offerUpTo_notesOnly (n : Nat) (s : State) : NotesOnly s (offerUpTo n s) := by
  induction n generalizing s with
  | zero => exact .refl s
  | succ n ih =>
    unfold offerUpTo
    split
    · exact .refl s
    · next h => exact (offerOnce_notesOnly h).trans (ih _)

theorem offerNotes_notesOnly (s : State) : NotesOnly s (offerNotes s) := offerUpTo_notesOnly _ s

/-- A post changes only the Notification Unit and the management output queue (R176, R177). -/
theorem post_notesOnly (b : NoteBody) (s : State) : NotesOnly s (post b s) := by
  unfold post
  split
  · exact loseNote_notesOnly s
  · split
    · exact (queueNote_notesOnly b s).trans (offerNotes_notesOnly _)
    · refine (queueOverflow_notesOnly s).trans ?_
      dsimp only
      split
      · exact (queueNote_notesOnly b _).trans (offerNotes_notesOnly _)
      · exact (loseNote_notesOnly _).trans (offerNotes_notesOnly _)

/-- NOTIFY-ACK changes only the Notification Unit and the management output queue (R179). -/
theorem acknowledge_notesOnly (n : BitVec 32) (s : State) : NotesOnly s (acknowledge n s) := by
  unfold acknowledge
  extract_lets kept removed s1 s2
  have h1 : NotesOnly s s1 :=
    NotesOnly.trans (t := { s with notes := kept }) (.of_unit rfl)
      (countDev_notesOnly _ .recordsAcknowledged _ (by decide))
  have h2 : NotesOnly s s2 := by
    unfold s2
    split
    · exact h1.trans (.of_unit rfl)
    · split
      · exact h1.trans (startRetry_notesOnly _)
      · exact h1
  split
  · exact (h2.trans (queueOverflow_notesOnly _)).trans (offerNotes_notesOnly _)
  · exact h2

/-! ### What `NotesOnly` leaves unchanged, field by field -/

section
variable {s t : State} (h : NotesOnly s t)
include h
theorem NotesOnly.pending_eq : t.pending = s.pending := (congrArg State.pending h.1).trans rfl
theorem NotesOnly.freeUse_eq : t.freeUse = s.freeUse := (congrArg State.freeUse h.1).trans rfl
theorem NotesOnly.lastResult_eq : t.lastResult = s.lastResult := (congrArg State.lastResult h.1).trans rfl
theorem NotesOnly.txInhibit_eq : t.txInhibit = s.txInhibit := (congrArg State.txInhibit h.1).trans rfl
theorem NotesOnly.egressPause_eq : t.egressPause = s.egressPause := (congrArg State.egressPause h.1).trans rfl
theorem NotesOnly.resetAsserted_eq : t.resetAsserted = s.resetAsserted := (congrArg State.resetAsserted h.1).trans rfl
theorem NotesOnly.resetCause_eq : t.resetCause = s.resetCause := (congrArg State.resetCause h.1).trans rfl
theorem NotesOnly.timebase_eq : t.timebase = s.timebase := (congrArg State.timebase h.1).trans rfl
theorem NotesOnly.dev_eq : t.dev = s.dev := (congrArg State.dev h.1).trans rfl
theorem NotesOnly.lanes_eq : t.lanes = s.lanes := (congrArg State.lanes h.1).trans rfl
theorem NotesOnly.groups_eq : t.groups = s.groups := (congrArg State.groups h.1).trans rfl
theorem NotesOnly.streams_eq : t.streams = s.streams := (congrArg State.streams h.1).trans rfl
theorem NotesOnly.poolFree_eq : t.poolFree = s.poolFree := (congrArg State.poolFree h.1).trans rfl
theorem NotesOnly.poolLow_eq : t.poolLow = s.poolLow := (congrArg State.poolLow h.1).trans rfl
theorem NotesOnly.storeFree_eq : t.storeFree = s.storeFree := (congrArg State.storeFree h.1).trans rfl
theorem NotesOnly.storeLow_eq : t.storeLow = s.storeLow := (congrArg State.storeLow h.1).trans rfl
theorem NotesOnly.peerReport_eq : t.peerReport = s.peerReport := (congrArg State.peerReport h.1).trans rfl
theorem NotesOnly.lastServed_eq : t.lastServed = s.lastServed := (congrArg State.lastServed h.1).trans rfl
theorem NotesOnly.requestQueue_eq : t.requestQueue = s.requestQueue := (congrArg State.requestQueue h.1).trans rfl
theorem NotesOnly.engine_eq : t.engine = s.engine := (congrArg State.engine h.1).trans rfl
theorem NotesOnly.slots_eq : t.slots = s.slots := (congrArg State.slots h.1).trans rfl
theorem NotesOnly.completionOrder_eq : t.completionOrder = s.completionOrder := (congrArg State.completionOrder h.1).trans rfl
theorem NotesOnly.lane_eq (i : LaneIx) : t.lane i = s.lane i := by
  simp only [State.lane, h.lanes_eq]
theorem NotesOnly.group_eq (i : GroupIx) : t.group i = s.group i := by
  simp only [State.group, h.groups_eq]
theorem NotesOnly.stream_eq (i : StreamIx) : t.stream i = s.stream i := by
  simp only [State.stream, h.streams_eq]
theorem NotesOnly.slot_eq (i : SlotIx) : t.slot i = s.slot i := by
  simp only [State.slot, h.slots_eq]
end

/-! ### The same for a post -/

@[simp] theorem post_pending (b : NoteBody) (s : State) : (post b s).pending = s.pending := (post_notesOnly b s).pending_eq
@[simp] theorem post_freeUse (b : NoteBody) (s : State) : (post b s).freeUse = s.freeUse := (post_notesOnly b s).freeUse_eq
@[simp] theorem post_lastResult (b : NoteBody) (s : State) : (post b s).lastResult = s.lastResult := (post_notesOnly b s).lastResult_eq
@[simp] theorem post_txInhibit (b : NoteBody) (s : State) : (post b s).txInhibit = s.txInhibit := (post_notesOnly b s).txInhibit_eq
@[simp] theorem post_egressPause (b : NoteBody) (s : State) : (post b s).egressPause = s.egressPause := (post_notesOnly b s).egressPause_eq
@[simp] theorem post_resetAsserted (b : NoteBody) (s : State) : (post b s).resetAsserted = s.resetAsserted := (post_notesOnly b s).resetAsserted_eq
@[simp] theorem post_resetCause (b : NoteBody) (s : State) : (post b s).resetCause = s.resetCause := (post_notesOnly b s).resetCause_eq
@[simp] theorem post_timebase (b : NoteBody) (s : State) : (post b s).timebase = s.timebase := (post_notesOnly b s).timebase_eq
@[simp] theorem post_dev (b : NoteBody) (s : State) : (post b s).dev = s.dev := (post_notesOnly b s).dev_eq
@[simp] theorem post_lanes (b : NoteBody) (s : State) : (post b s).lanes = s.lanes := (post_notesOnly b s).lanes_eq
@[simp] theorem post_groups (b : NoteBody) (s : State) : (post b s).groups = s.groups := (post_notesOnly b s).groups_eq
@[simp] theorem post_streams (b : NoteBody) (s : State) : (post b s).streams = s.streams := (post_notesOnly b s).streams_eq
@[simp] theorem post_poolFree (b : NoteBody) (s : State) : (post b s).poolFree = s.poolFree := (post_notesOnly b s).poolFree_eq
@[simp] theorem post_poolLow (b : NoteBody) (s : State) : (post b s).poolLow = s.poolLow := (post_notesOnly b s).poolLow_eq
@[simp] theorem post_storeFree (b : NoteBody) (s : State) : (post b s).storeFree = s.storeFree := (post_notesOnly b s).storeFree_eq
@[simp] theorem post_storeLow (b : NoteBody) (s : State) : (post b s).storeLow = s.storeLow := (post_notesOnly b s).storeLow_eq
@[simp] theorem post_peerReport (b : NoteBody) (s : State) : (post b s).peerReport = s.peerReport := (post_notesOnly b s).peerReport_eq
@[simp] theorem post_lastServed (b : NoteBody) (s : State) : (post b s).lastServed = s.lastServed := (post_notesOnly b s).lastServed_eq
@[simp] theorem post_requestQueue (b : NoteBody) (s : State) : (post b s).requestQueue = s.requestQueue := (post_notesOnly b s).requestQueue_eq
@[simp] theorem post_engine (b : NoteBody) (s : State) : (post b s).engine = s.engine := (post_notesOnly b s).engine_eq
@[simp] theorem post_slots (b : NoteBody) (s : State) : (post b s).slots = s.slots := (post_notesOnly b s).slots_eq
@[simp] theorem post_completionOrder (b : NoteBody) (s : State) : (post b s).completionOrder = s.completionOrder := (post_notesOnly b s).completionOrder_eq
@[simp] theorem post_lane (b : NoteBody) (s : State) (i : LaneIx) : (post b s).lane i = s.lane i :=
  (post_notesOnly b s).lane_eq i
@[simp] theorem post_group (b : NoteBody) (s : State) (i : GroupIx) : (post b s).group i = s.group i :=
  (post_notesOnly b s).group_eq i
@[simp] theorem post_stream (b : NoteBody) (s : State) (i : StreamIx) : (post b s).stream i = s.stream i :=
  (post_notesOnly b s).stream_eq i
@[simp] theorem post_slot (b : NoteBody) (s : State) (i : SlotIx) : (post b s).slot i = s.slot i :=
  (post_notesOnly b s).slot_eq i

/-! ### The record -/

/-- Sending changes no record but for its mark. -/
theorem markSent_bodies (n : Nat) (notes : List Note) : (markSent n notes).map Note.body = notes.map Note.body := by
  induction n, notes using markSent.induct with
  | case1 notes => simp [markSent]
  | case2 n => simp [markSent]
  | case3 n r rest hr ih => simp [markSent, hr, ih]
  | case4 n r rest hr ih => simp [markSent, hr, ih]

theorem offerOnce_bodies {s t : State} (h : offerOnce s = some t) :
    t.notes.map Note.body = s.notes.map Note.body ∧ t.nextNote = s.nextNote ∧ t.tally = s.tally := by
  unfold offerOnce at h
  split at h
  · cases h
  · split at h
    · cases h
      unfold takeResend startRetry
      obtain ⟨busy, e, -⟩ := mgmtJoin_cases ⟨notificationFrame s.resendNotes, false⟩
        (({ s with resendPending := false }.countDev .resendFramesQueued).countDev .recordsResent s.resendNotes.length)
      rw [e]
      exact ⟨rfl, rfl, rfl⟩
    · split at h
      · cases h
        unfold takeFirstSend startRetry
        obtain ⟨busy, e, -⟩ := mgmtJoin_cases ⟨notificationFrame s.unsentNotes, false⟩
          ({ s with notes := markSent Config.notesPerFrame s.notes }.countDev .notificationFramesQueued)
        dsimp only
        rw [e]
        split <;> exact ⟨markSent_bodies _ _, rfl, rfl⟩
      · cases h

theorem offerUpTo_bodies (n : Nat) (s : State) :
    (offerUpTo n s).notes.map Note.body = s.notes.map Note.body ∧ (offerUpTo n s).nextNote = s.nextNote ∧
      (offerUpTo n s).tally = s.tally := by
  induction n generalizing s with
  | zero => exact ⟨rfl, rfl, rfl⟩
  | succ n ih =>
    unfold offerUpTo
    split
    · exact ⟨rfl, rfl, rfl⟩
    · next h =>
      obtain ⟨a, b, c⟩ := offerOnce_bodies h
      obtain ⟨x, y, z⟩ := ih _
      exact ⟨x.trans a, y.trans b, z.trans c⟩

/-- A post with room appends its record (R175, R176). -/
theorem post_posted {s : State} (b : NoteBody) (h : s.HasRoom 1) : Posted [b] s (post b s) := by
  obtain ⟨hl, ht⟩ := h
  have hr : s.noteRoom = true := by simp [State.noteRoom]; omega
  obtain ⟨x, y, z⟩ := offerUpTo_bodies Config.mgmtOutMax (queueNote b s)
  simp only [Posted, post, hr, ht, offerNotes]
  refine ⟨?_, ?_, ?_⟩
  · simpa [queueNote, State.countDev] using x
  · simpa [queueNote, State.countDev] using y
  · simpa [queueNote, State.countDev, ht] using z

theorem Posted.trans {s t u : State} {a b : List NoteBody} (h : Posted a s t) (k : Posted b t u) :
    Posted (a ++ b) s u := by
  obtain ⟨h1, h2, h3⟩ := h
  obtain ⟨k1, k2, k3⟩ := k
  refine ⟨by rw [k1, h1, List.append_assoc], ?_, k3.trans h3⟩
  rw [k2, h2, List.length_append, BitVec.ofNat_add, BitVec.add_assoc]

/-- What is posted uses up room. -/
theorem Posted.room {s t : State} {a : List NoteBody} {n : Nat} (h : Posted a s t) (hr : s.HasRoom (n + a.length)) :
    t.HasRoom n := by
  have hl := congrArg List.length h.1
  simp only [List.length_map, List.length_append] at hl
  exact ⟨by have := hr.1; omega, h.2.2.trans hr.2⟩

end Sys2Proof.Machine
end

