-- ==== Sys2Proof/Laws/Ops.lean ====
section
/-! SUPPORT. One lemma for each shared operation that says what it can do: composed updates, circular comparison, the Egress
Arbiter, the Segment Buffer Pool, the class queues and the Frame Assembler. -/

namespace Sys2Proof.Machine

/-! ### Updates that meet -/

theorem State.modLane_modLane (s : State) (l : LaneIx) (f h : LaneState → LaneState) :
    (s.modLane l f).modLane l h = s.modLane l fun x => h (f x) := by
  simp [State.modLane]

theorem State.modGroup_modGroup (s : State) (g : GroupIx) (f h : GroupState → GroupState) :
    (s.modGroup g f).modGroup g h = s.modGroup g fun x => h (f x) := by
  simp [State.modGroup]

theorem State.modSlot_modSlot (s : State) (k : SlotIx) (f h : Slot → Slot) :
    (s.modSlot k f).modSlot k h = s.modSlot k fun x => h (f x) := by
  simp [State.modSlot]

/-- Two changes that agree on the lane they meet are the same change. -/
theorem State.modLane_congr {s : State} {l : LaneIx} {f h : LaneState → LaneState} (e : f (s.lane l) = h (s.lane l)) :
    s.modLane l f = s.modLane l h := by
  simp only [State.modLane]
  simp only [State.lane] at e
  rw [e]

theorem State.modGroup_congr {s : State} {g : GroupIx} {f h : GroupState → GroupState}
    (e : f (s.group g) = h (s.group g)) : s.modGroup g f = s.modGroup g h := by
  simp only [State.modGroup]
  simp only [State.group] at e
  rw [e]

theorem State.modSlot_congr {s : State} {k : SlotIx} {f h : Slot → Slot} (e : f (s.slot k) = h (s.slot k)) :
    s.modSlot k f = s.modSlot k h := by
  simp only [State.modSlot]
  simp only [State.slot] at e
  rw [e]

/-- A change that leaves the lane as it was changes nothing. -/
theorem State.modLane_self {s : State} {l : LaneIx} {f : LaneState → LaneState} (e : f (s.lane l) = s.lane l) :
    s.modLane l f = s := by
  rw [State.modLane_congr (h := id) e]
  simp [State.modLane]

theorem State.modGroup_self {s : State} {g : GroupIx} {f : GroupState → GroupState} (e : f (s.group g) = s.group g) :
    s.modGroup g f = s := by
  rw [State.modGroup_congr (h := id) e]
  simp [State.modGroup]

/-- Lanes and groups are separate parts of the state. -/
theorem State.modLane_modGroup (s : State) (l : LaneIx) (g : GroupIx) (f : LaneState → LaneState)
    (h : GroupState → GroupState) : (s.modGroup g h).modLane l f = (s.modLane l f).modGroup g h := rfl

/-- Counters are raised in any order (R171). -/
theorem raiseCounter_comm {k : Nat} (v : Vector Counter k) (i j : Fin k) (m n : Nat) :
    raiseCounter (raiseCounter v i m) j n = raiseCounter (raiseCounter v j n) i m := by
  apply Vector.ext
  intro a ha
  have h := raiseCounter_get (raiseCounter v i m) j ⟨a, ha⟩ n
  have h' := raiseCounter_get (raiseCounter v j n) i ⟨a, ha⟩ m
  simp only at h h'
  rw [h, h', raiseCounter_get, raiseCounter_get]
  have hj := raiseCounter_get v i ⟨a, ha⟩ m
  have hi := raiseCounter_get v j ⟨a, ha⟩ n
  simp only at hi hj
  rw [hi, hj]
  by_cases e1 : (⟨a, ha⟩ : Fin k) = j <;> by_cases e2 : (⟨a, ha⟩ : Fin k) = i
  · subst e1; subst e2; simp [BitVec.add_assoc, BitVec.add_comm (BitVec.ofNat 32 m)]
  · subst e1; simp [e2]
  · subst e2; simp [e1]
  · simp [e1, e2]

/-- A counter raised by 0 stays. -/
@[simp] theorem raiseCounter_zero {k : Nat} (v : Vector Counter k) (i : Fin k) : raiseCounter v i 0 = v := by
  simp [raiseCounter]

/-! ### Circular comparison (R1, R2) -/

theorem atOrAhead_eq_not_behind {w : Nat} (q e : BitVec w) : atOrAhead q e = !behind q e := by
  simp only [atOrAhead, behind, ← decide_not, Nat.not_le]

@[simp] theorem dist_self {w : Nat} (e : BitVec w) : dist e e = 0 := by simp [dist]

theorem dist_eq_zero {w : Nat} (e q : BitVec w) : dist e q = 0 ↔ q = e := by
  constructor
  · intro h
    have : q - e = 0#w := BitVec.eq_of_toNat_eq (by simpa [dist] using h)
    simpa using congrArg (· + e) this
  · rintro rfl
    exact dist_self q

theorem dist_lt {w : Nat} (e q : BitVec w) : dist e q < 2 ^ w := (q - e).isLt

/-- A raised mark is never behind where it was (R2). -/
theorem raiseTo_not_behind {w : Nat} (x q : BitVec (w + 1)) : behind (raiseTo x q) x = false := by
  unfold raiseTo
  split
  · next h =>
    simp only [aheadOf, Bool.and_eq_true, decide_eq_true_eq] at h
    simpa [behind] using h.2
  · simp [behind]

/-! ### The Egress Arbiter (R75, R76) -/

/-- The arbiter changes only what is being sent and the last served group. -/
theorem arbitrate_fields (s : State) :
    arbitrate s = { s with egressBusy := (arbitrate s).egressBusy, lastServed := (arbitrate s).lastServed } := by
  unfold arbitrate
  split
  · rfl
  · split
    · rfl
    · split <;> rfl

/-- All the arbiter can do: nothing, a management frame, or the next group in turn with a frame waiting. -/
theorem arbitrate_cases (s : State) :
    (arbitrate s = s ∧ (s.egressBusy.isSome = true ∨ s.egressPause = true ∨
        (s.mgmtOut = [] ∧ ∀ g ∈ serveOrder s.lastServed, (s.group g).egress = []))) ∨
      (s.egressBusy = none ∧ s.egressPause = false ∧ s.mgmtOut ≠ [] ∧
        arbitrate s = { s with egressBusy := some .management }) ∨
      ∃ g, s.egressBusy = none ∧ s.egressPause = false ∧ s.mgmtOut = [] ∧ (s.group g).egress ≠ [] ∧
        ((serveOrder s.lastServed).find? fun h => !(s.group h).egress.isEmpty) = some g ∧
        arbitrate s = { s with egressBusy := some (.group g), lastServed := g } := by
  by_cases hb : (s.egressBusy.isSome || s.egressPause) = true
  · refine .inl ⟨by simp [arbitrate, hb], ?_⟩
    rcases Bool.or_eq_true _ _ ▸ hb with h | h
    · exact .inl h
    · exact .inr (.inl h)
  · have hb' := hb
    simp only [Bool.or_eq_true, not_or, Bool.not_eq_true, Option.isSome_eq_false_iff,
      Option.isNone_iff_eq_none] at hb'
    by_cases hm : s.mgmtOut = []
    · cases hf : (serveOrder s.lastServed).find? fun g => !(s.group g).egress.isEmpty with
      | none =>
        refine .inl ⟨by simp [arbitrate, hb, hm, hf], .inr (.inr ⟨hm, fun g hg => ?_⟩)⟩
        simpa using List.find?_eq_none.1 hf g hg
      | some g =>
        refine .inr (.inr ⟨g, hb'.1, hb'.2, hm, ?_, rfl, by simp [arbitrate, hb, hm, hf]⟩)
        simpa using List.find?_some hf
    · exact .inr (.inl ⟨hb'.1, hb'.2, hm, by simp [arbitrate, hb, List.isEmpty_eq_false_iff.2 hm]⟩)

/-- A data frame is sent with as many payload bytes as its chain holds less the frame check (R77). -/
@[simp] theorem EgressFrame.sent_payload_length (f : EgressFrame) :
    f.sent.payload.length = chainLength f.chain - 4 := by
  simp only [EgressFrame.sent, chainLength, List.length_take, List.length_flatten]
  omega

@[simp] theorem EgressFrame.sent_stream (f : EgressFrame) : f.sent.stream = f.stream := rfl

/-- A chain that holds a payload and its frame check is sent as that payload (R4, R77). -/
theorem EgressFrame.sent_of_bonded {f : EgressFrame} {payload check : List Byte} (h : f.chain.flatten = payload ++ check)
    (hc : check.length = 4) : f.sent = ⟨f.stream, payload⟩ := by
  have hl : chainLength f.chain = payload.length + 4 := by
    rw [chainLength, ← List.length_flatten, h, List.length_append, hc]
  simp [EgressFrame.sent, h, hl]

theorem State.onPort_of_idle {s : State} (h : s.egressBusy = none) : s.onPort = none := by simp [State.onPort, h]

theorem State.onPort_of_management {s : State} (h : s.egressBusy = some .management) :
    s.onPort = s.mgmtOut.head?.map MgmtFrame.sent := by simp [State.onPort, h]

theorem State.onPort_of_group {s : State} {g : GroupIx} (h : s.egressBusy = some (.group g)) :
    s.onPort = (s.group g).egress.head?.map EgressFrame.sent := by simp [State.onPort, h]

/-- A busy or paused egress starts nothing. -/
theorem arbitrate_of_busy {s : State} (h : s.egressBusy.isSome = true ∨ s.egressPause = true) : arbitrate s = s := by
  rcases h with h | h <;> simp [arbitrate, h]

section
variable (s : State)
@[simp] theorem arbitrate_pending : (arbitrate s).pending = s.pending := (congrArg State.pending (arbitrate_fields s)).trans rfl
@[simp] theorem arbitrate_txInhibit : (arbitrate s).txInhibit = s.txInhibit := (congrArg State.txInhibit (arbitrate_fields s)).trans rfl
@[simp] theorem arbitrate_egressPause : (arbitrate s).egressPause = s.egressPause := (congrArg State.egressPause (arbitrate_fields s)).trans rfl
@[simp] theorem arbitrate_timebase : (arbitrate s).timebase = s.timebase := (congrArg State.timebase (arbitrate_fields s)).trans rfl
@[simp] theorem arbitrate_dev : (arbitrate s).dev = s.dev := (congrArg State.dev (arbitrate_fields s)).trans rfl
@[simp] theorem arbitrate_devCtr : (arbitrate s).devCtr = s.devCtr := (congrArg State.devCtr (arbitrate_fields s)).trans rfl
@[simp] theorem arbitrate_lanes : (arbitrate s).lanes = s.lanes := (congrArg State.lanes (arbitrate_fields s)).trans rfl
@[simp] theorem arbitrate_groups : (arbitrate s).groups = s.groups := (congrArg State.groups (arbitrate_fields s)).trans rfl
@[simp] theorem arbitrate_streams : (arbitrate s).streams = s.streams := (congrArg State.streams (arbitrate_fields s)).trans rfl
@[simp] theorem arbitrate_poolFree : (arbitrate s).poolFree = s.poolFree := (congrArg State.poolFree (arbitrate_fields s)).trans rfl
@[simp] theorem arbitrate_storeFree : (arbitrate s).storeFree = s.storeFree := (congrArg State.storeFree (arbitrate_fields s)).trans rfl
@[simp] theorem arbitrate_peerReport : (arbitrate s).peerReport = s.peerReport := (congrArg State.peerReport (arbitrate_fields s)).trans rfl
@[simp] theorem arbitrate_mgmtOut : (arbitrate s).mgmtOut = s.mgmtOut := (congrArg State.mgmtOut (arbitrate_fields s)).trans rfl
@[simp] theorem arbitrate_requestQueue : (arbitrate s).requestQueue = s.requestQueue := (congrArg State.requestQueue (arbitrate_fields s)).trans rfl
@[simp] theorem arbitrate_engine : (arbitrate s).engine = s.engine := (congrArg State.engine (arbitrate_fields s)).trans rfl
@[simp] theorem arbitrate_slots : (arbitrate s).slots = s.slots := (congrArg State.slots (arbitrate_fields s)).trans rfl
@[simp] theorem arbitrate_notes : (arbitrate s).notes = s.notes := (congrArg State.notes (arbitrate_fields s)).trans rfl
@[simp] theorem arbitrate_lane (l : LaneIx) : (arbitrate s).lane l = s.lane l := by simp only [State.lane, arbitrate_lanes]
@[simp] theorem arbitrate_group (g : GroupIx) : (arbitrate s).group g = s.group g := by
  simp only [State.group, arbitrate_groups]
@[simp] theorem arbitrate_stream (x : StreamIx) : (arbitrate s).stream x = s.stream x := by
  simp only [State.stream, arbitrate_streams]
@[simp] theorem arbitrate_slot (k : SlotIx) : (arbitrate s).slot k = s.slot k := by simp only [State.slot, arbitrate_slots]
end

/-! ### The Segment Buffer Pool (R80, R84, R89) -/

/-- The buffers held after one group's count has changed. -/
theorem poolHeld_modGroup (s : State) (g : GroupIx) (f : GroupState → GroupState) :
    (s.modGroup g f).poolHeld + (s.group g).heldCount = s.poolHeld + (f (s.group g)).heldCount := by
  simp only [State.poolHeld, allGroups, List.map_cons, List.map_nil, List.sum_cons, List.sum_nil, State.group_modGroup]
  match g with
  | 0 => simp; omega
  | 1 => simp; omega
  | 2 => simp; omega
  | 3 => simp; omega

/-- A grant moves one buffer (law L1). -/
theorem grantBuffer_poolWhole {s : State} (g : GroupIx) (k : Grant) (h : s.PoolWhole) (hf : 0 < s.poolFree) :
    (grantBuffer g k s).PoolWhole := by
  have e := poolHeld_modGroup { s with poolFree := s.poolFree - 1, poolLow := min s.poolLow (s.poolFree - 1) } g fun x =>
    { x with heldCount := x.heldCount + 1, armed := true, ctr := raiseCounter x.ctr k.counter.ix 1 }
  have e2 : (grantBuffer g k s).poolHeld = s.poolHeld + 1 := by
    simp only [grantBuffer, State.countGroup, State.modGroup_modGroup]
    exact Nat.add_right_cancel (m := (s.group g).heldCount) (e.trans (by simp only [State.group, State.poolHeld]; omega))
  have e1 : (grantBuffer g k s).poolFree = s.poolFree - 1 := rfl
  unfold State.PoolWhole at *
  omega

/-- A request is granted only while a buffer is free (R84). -/
theorem judgeRequest_free {s : State} {g : GroupIx} {k : Grant} (h : s.judgeRequest g = some k) : 0 < s.poolFree := by
  unfold State.judgeRequest at h
  split at h
  · cases h
  · omega

/-- A release moves buffers back (law L1). -/
theorem releaseBuffers_poolWhole {s : State} (g : GroupIx) (n : Nat) (h : s.PoolWhole) :
    (releaseBuffers g n s).PoolWhole := by
  have e := poolHeld_modGroup { s with poolFree := s.poolFree + min n (s.group g).heldCount } g fun x =>
    { x with
      heldCount := x.heldCount - min n (s.group g).heldCount
      ctr := raiseCounter x.ctr GroupCtr.buffersReturned.ix (min n (s.group g).heldCount) }
  have e2 : (releaseBuffers g n s).poolHeld + min n (s.group g).heldCount = s.poolHeld := by
    simp only [releaseBuffers, State.countGroup, State.modGroup_modGroup]
    simp only [State.group, State.poolHeld] at e ⊢
    omega
  have e1 : (releaseBuffers g n s).poolFree = s.poolFree + min n (s.group g).heldCount := rfl
  unfold State.PoolWhole at *
  omega

/-- What a release makes of the groups. -/
theorem releaseBuffers_group (g h : GroupIx) (n : Nat) (s : State) :
    (releaseBuffers g n s).group h =
      if h = g then
        { s.group g with
          heldCount := (s.group g).heldCount - min n (s.group g).heldCount
          ctr := raiseCounter (s.group g).ctr GroupCtr.buffersReturned.ix (min n (s.group g).heldCount) }
      else s.group h := by
  unfold releaseBuffers
  dsimp only
  rw [State.group_countGroup, State.group_modGroup, State.group_modGroup]
  by_cases e : h = g
  · subst e
    simp only [↓reduceIte]
    rfl
  · simp only [e, ↓reduceIte]
    rfl

/-- A refusal changes the exhaustion flag and posts at most one record (R89). -/
theorem refuseBuffer_notesOnly (g : GroupIx) (s : State) :
    NotesOnly (s.modGroup g fun x => { x with armed := false }) (refuseBuffer g s) := by
  unfold refuseBuffer
  split
  · exact post_notesOnly _ _
  · next h =>
    rw [State.modGroup_self]
    · exact .refl s
    · have : (s.group g).armed = false := by simpa using h
      rw [← this]

/-! ### Class queues and the group-hold outputs (R95 to R97, R100) -/

/-- The judgment of the hold output changes only that output and the count of assertions. -/
theorem judgeHold_cases (g : GroupIx) (s : State) :
    judgeHold g s = s ∨ judgeHold g s = (s.modGroup g fun y => { y with hold := false }) ∨
      judgeHold g s = (s.modGroup g fun y => { y with hold := true }).countGroup g .holdAssertions := by
  unfold judgeHold
  dsimp only
  split <;> split <;> simp

/-- A group other than the one judged stays. -/
theorem judgeHold_other {g h : GroupIx} (s : State) (e : h ≠ g) : (judgeHold g s).group h = s.group h := by
  rcases judgeHold_cases g s with e1 | e1 | e1 <;> rw [e1] <;> simp [e]

/-- An admission takes the bonded length from the store (R97). -/
theorem enqueueTx_storeFree (g : GroupIx) (c : Cls) (x : StreamIx) (payload : List Byte) (s : State) :
    (enqueueTx g c x payload s).storeFree = s.storeFree - (payload ++ be 4 (frameCheck x payload).toNat).length := by
  unfold enqueueTx
  dsimp only
  rcases judgeHold_cases g _ with e | e | e <;> rw [e] <;> rfl

/-! ### The Frame Assembler (R64 to R71) -/

theorem setBuilding_group (g : GroupIx) (b : Option Building) (s : State) (h : GroupIx) :
    (setBuilding g b s).group h = if h = g then { s.group g with building := b } else s.group h := by
  simp [setBuilding]

/-- A loss notice leaves no partial frame and asks for a FIRST (R67). -/
theorem lossNotice_building (g : GroupIx) (s : State) :
    ((lossNotice g s).group g).building = none ∧ ((lossNotice g s).group g).awaitingFirst = true := by
  unfold lossNotice
  split
  · simp [setAwaiting, breakFrame, setBuilding]
  · next h => simp [setAwaiting, h]

/-- A second notice with no delivery between changes nothing (R67). -/
theorem lossNotice_lossNotice (g : GroupIx) (s : State) : lossNotice g (lossNotice g s) = lossNotice g s := by
  obtain ⟨h, k⟩ := lossNotice_building g s
  generalize lossNotice g s = t at *
  unfold lossNotice
  rw [h]
  exact State.modGroup_self (by rw [← k])

/-- After the discard instruction the assembler holds nothing (R71). -/
theorem discardInstruction_group (g : GroupIx) (s : State) :
    let x := (discardInstruction g s).group g
    x.building = none ∧ x.held = none ∧ x.awaitingFirst = true := by
  unfold discardInstruction
  dsimp only
  split <;> split <;> simp_all [setAwaiting, setBuilding, releaseBuffers_group]

end Sys2Proof.Machine
end

