-- ==== Sys2Proof/Laws/Blocks.lean ====
section
/-! SUPPORT. One lemma for each operation of the receive contexts, the Membership Controller and the pending operation table
that changes a state and posts it: what it changes beside the Notification Unit. -/

namespace Sys2Proof.Machine

/-! ### Changes that are posted -/

/-- The receive state changes, and nothing else but by its post (R37). -/
theorem setCtx_notesOnly (g : GroupIx) (new : CtxState) (s : State) :
    NotesOnly (s.modGroup g fun x => { x with ctx := new }) (setCtx g new s) := by
  unfold setCtx
  dsimp only
  split
  · next h =>
    rw [State.modGroup_self]
    · exact .refl s
    · rw [← h]
  · exact post_notesOnly _ _

/-- The transmit state changes, and nothing else but by its post (R136). -/
theorem setTx_notesOnly (g : GroupIx) (new : TxState) (s : State) :
    NotesOnly (s.modGroup g fun x => { x with tx := new }) (setTx g new s) := by
  unfold setTx
  dsimp only
  split
  · next h =>
    rw [State.modGroup_self]
    · exact .refl s
    · rw [← h]
  · exact post_notesOnly _ _

/-- The transmit state the judgment by the ACTIVE count leaves (R136). -/
def judgedTx (tx : TxState) (active minLanes : Nat) : TxState :=
  match tx with
  | .forming => if minLanes ≤ active then .up else .forming
  | .up => if active < minLanes then .forming else .up
  | t => t

/-- The judgment by the ACTIVE count moves a group between FORMING and UP, and posts it (R136). -/
theorem judgeTx_notesOnly (g : GroupIx) (s : State) :
    NotesOnly (s.modGroup g fun x => { x with tx := judgedTx (s.group g).tx (s.activeCount g) (s.group g).minLanes })
      (judgeTx g s) := by
  have self : ∀ t, (s.group g).tx = t → NotesOnly (s.modGroup g fun x => { x with tx := t }) s := by
    intro t h
    rw [State.modGroup_self (by rw [← h])]
    exact .refl s
  unfold judgeTx
  split
  · next h =>
    simp only [h, judgedTx]
    split
    · exact setTx_notesOnly g .up s
    · exact self _ h
  · next h =>
    simp only [h, judgedTx]
    split
    · exact setTx_notesOnly g .forming s
    · exact self _ h
  · next h h' =>
    cases k : (s.group g).tx with
    | forming => exact absurd k h
    | up => exact absurd k h'
    | disabled => exact self _ k
    | disabling => exact self _ k

/-- A judgment of transmit states changes those alone, beside the Notification Unit (R136). -/
theorem judgeTxOf_fields (r : Role) (s : State) :
    (∀ m, (judgeTxOf r s).lane m = s.lane m) ∧ (∀ k, (judgeTxOf r s).slot k = s.slot k) ∧
      ∀ h, ∃ tx, (judgeTxOf r s).group h = { s.group h with tx := tx } := by
  unfold judgeTxOf
  split
  · next g =>
    have n := judgeTx_notesOnly g s
    refine ⟨fun m => n.lane_eq m, fun k => n.slot_eq k, fun h => ?_⟩
    rw [n.group_eq, State.group_modGroup]
    by_cases e : h = g
    · subst e; exact ⟨_, if_pos rfl⟩
    · rw [if_neg e]; exact ⟨_, rfl⟩
  · exact ⟨fun _ => rfl, fun _ => rfl, fun _ => ⟨_, rfl⟩⟩

/-- A change of role changes that lane's role and deficit, and of the groups only transmit states (R126, R111, R136). -/
theorem setRole_lane (l m : LaneIx) (new : Role) (c : RoleCause) (s : State) :
    (setRole l new c s).lane m = if m = l then { s.lane l with role := new, deficit := 0 } else s.lane m := by
  unfold setRole
  dsimp only
  rw [(judgeTxOf_fields _ _).1, (judgeTxOf_fields _ _).1, post_lane, State.lane_modLane]

theorem setRole_group (l : LaneIx) (new : Role) (c : RoleCause) (s : State) (h : GroupIx) :
    ∃ tx, (setRole l new c s).group h = { s.group h with tx := tx } := by
  unfold setRole
  dsimp only
  obtain ⟨t, e⟩ := (judgeTxOf_fields new (judgeTxOf (s.lane l).role (post (.laneRole l (s.lane l).role new c)
    (s.modLane l fun x => { x with role := new, deficit := 0 })))).2.2 h
  obtain ⟨u, e'⟩ := (judgeTxOf_fields (s.lane l).role (post (.laneRole l (s.lane l).role new c)
    (s.modLane l fun x => { x with role := new, deficit := 0 }))).2.2 h
  rw [e, e', post_group]
  exact ⟨t, rfl⟩

theorem setRole_slot (l : LaneIx) (new : Role) (c : RoleCause) (s : State) (k : SlotIx) :
    (setRole l new c s).slot k = s.slot k := by
  unfold setRole
  dsimp only
  rw [(judgeTxOf_fields _ _).2.1, (judgeTxOf_fields _ _).2.1, post_slot]
  rfl

/-- An ended operation's slot is COMPLETE (R161); a slot not IN-FLIGHT is left alone. -/
theorem endSlot_notesOnly {s : State} {k : SlotIx} {op : OpKind} {a e : Time} (o : OpOutcome)
    (h : (s.slot k).body = .inFlight op a e) :
    NotesOnly
      { s.modSlot k fun x => { x with body := .complete op a e o s.timebase } with
        completionOrder := s.completionOrder ++ [k] } (endSlot k o s) := by
  unfold endSlot
  rw [h]
  exact post_notesOnly _ _

theorem endSlot_of_idle {s : State} {k : SlotIx} (o : OpOutcome) (h : ∀ op a e, (s.slot k).body ≠ .inFlight op a e) :
    endSlot k o s = s := by
  unfold endSlot
  split
  · next op a e hb => exact absurd hb (h op a e)
  · rfl

/-- The capture record after an event it takes (R31). -/
theorem captureEvent_notesOnly {s : State} {l : LaneIx} {sev : CaptureState} (syn : Byte) (kind : Option SegKind)
    (h : (s.lane l).capture.state = .empty ∨ ((s.lane l).capture.state = .corrected ∧ sev = .uncorrectable)) :
    NotesOnly (s.modLane l fun x => { x with capture := ⟨sev, syn, s.timebase, kind, 0⟩ })
      (captureEvent l sev syn kind s) := by
  unfold captureEvent
  simp only [h, ↓reduceIte]
  exact post_notesOnly _ _

/-! ### The slot a long operation takes (R160) -/

theorem takeSlot_slot (k j : SlotIx) (op : OpKind) (s : State) :
    (takeSlot k op s).slot j =
      if j = k then ⟨(s.slot k).gen + 1, .inFlight op s.timebase (s.after (ms s.dev.opTimeout))⟩ else s.slot j :=
  State.slot_modSlot s k j fun x => ⟨x.gen + 1, .inFlight op s.timebase (s.after (ms s.dev.opTimeout))⟩

/-- An EMPTY slot is chosen before any COMPLETE one. -/
theorem chooseSlot_cases {s : State} {k : SlotIx} (h : s.chooseSlot = some k) :
    (s.slot k).body = .empty ∨
      ((∀ j, (s.slot j).body ≠ .empty) ∧ s.completionOrder.head? = some k) := by
  unfold State.chooseSlot at h
  split at h
  · next j hj =>
    cases h
    exact .inl (by simpa using List.find?_some hj)
  · next hn =>
    refine .inr ⟨fun j => ?_, h⟩
    have := List.find?_eq_none.1 hn j (by match j with | 0 | 1 | 2 | 3 => decide)
    simpa using this

/-! ### The resolution (R47) -/

/-- All one step of the resolution can do. -/
theorem resolveOnce_cases {g : GroupIx} {s t : State} (h : resolveOnce g s = some t) :
    (s.group g).ctx.live = true ∧ ∃ e, (s.group g).expected = some e ∧
      ((∃ d ∈ (s.group g).store, d.seq = e ∧ (s.group g).held = none ∧ t = deliver g d s) ∨
        ((∀ d ∈ (s.group g).store, d.seq ≠ e) ∧ s.fastSkip g e = true ∧ t = skipFast g e s)) := by
  unfold resolveOnce at h
  split at h
  · cases h
  · next e he =>
    unfold State.waitsAt at he
    split at he
    · next hl =>
      refine ⟨hl, e, he, ?_⟩
      split at h
      · next d hd =>
        split at h
        · next hh =>
          cases h
          exact .inl ⟨d, List.mem_of_find?_eq_some hd, by simpa using List.find?_some hd, by simpa using hh, rfl⟩
        · cases h
      · next hn =>
        split at h
        · next hf =>
          cases h
          exact .inr ⟨fun d hd => by simpa using List.find?_eq_none.1 hn d hd, hf, rfl⟩
        · cases h
    · cases he

/-- What every step of a resolution keeps, the whole of its steps keeps. -/
theorem resolveUpTo_keeps {P : State → Prop} {g : GroupIx} (n : Nat) {s : State} (h : P s)
    (hs : ∀ u t, P u → resolveOnce g u = some t → P t) : P (resolveUpTo n g s) := by
  induction n generalizing s with
  | zero => exact h
  | succ n ih =>
    unfold resolveUpTo
    split
    · exact h
    · next t ht => exact ih (hs s t h ht)

/-- The resolution ends at the hole timer. -/
theorem resolve_keeps {P : State → Prop} {g : GroupIx} {s : State} (h : P s)
    (hs : ∀ u t, P u → resolveOnce g u = some t → P t) (ht : ∀ u, P u → P (setHoleTimer g u)) : P (resolve g s) :=
  ht _ (resolveUpTo_keeps _ h hs)

/-- The hole timer is all that the end of a resolution changes (R48). -/
theorem setHoleTimer_cases (g : GroupIx) (s : State) :
    ∃ timer, setHoleTimer g s = s.modGroup g fun y => { y with hole := timer } := ⟨_, rfl⟩

/-! ### Lists of lanes -/

/-- What the judgment of each lane keeps, the judgment of all lanes in order keeps. -/
theorem foldl_keeps {α : Type} {P : State → Prop} {f : State → α → State} (xs : List α) {s : State} (h : P s)
    (hf : ∀ u x, x ∈ xs → P u → P (f u x)) : P (xs.foldl f s) := by
  induction xs generalizing s with
  | nil => exact h
  | cons x xs ih =>
    exact ih (hf s x List.mem_cons_self h) fun u y hy => hf u y (List.mem_cons_of_mem x hy)

theorem mem_allLanes (l : LaneIx) : l ∈ allLanes := by
  match l with
  | 0 | 1 | 2 | 3 | 4 | 5 | 6 | 7 => decide

theorem mem_allGroups (g : GroupIx) : g ∈ allGroups := by
  match g with
  | 0 | 1 | 2 | 3 => decide

theorem mem_allSlots (k : SlotIx) : k ∈ allSlots := by
  match k with
  | 0 | 1 | 2 | 3 => decide

/-! ### The entry commands (R150, log 8) -/

/-- An entry the engine admits is run, and its answer left in `lastResult`. -/
theorem entryRow_of_admits {o : Origin} {code : Byte} {clears : Bool} {r : Req} {s : State} (h : s.Admits o code clears)
    (hr : r.largest ≤ 1012) :
    entryRow o code clears (some r) s = { (r.run s).part with lastResult := some ⟨code, (r.run s).result, (r.run s).data⟩ } := by
  obtain ⟨h1, h2, h3⟩ := h
  have hroom : hasRoom 8 0 r.largest = true := by
    unfold hasRoom Config.mgmtFrameMax
    exact decide_eq_true (by omega)
  simp [entryRow, State.executes, judgeEntry, h1, h2, h3, hroom]

/-- No entry needs more room than a frame of one entry has. -/
theorem Req.largest_le (r : Req) : r.largest ≤ 1012 := by cases r <;> simp [Req.largest]

end Sys2Proof.Machine
end

