-- ==== Sys2Proof/Laws/Exec.lean ====
section
/-! SUPPORT. What `exec` is for each command, and what `step` is. -/

namespace Sys2Proof.Machine

/-! ### The events -/

section
variable (s : State)
theorem exec_powerOnReset : exec .powerOnReset s = .next { resetPart .powerOn s with resetAsserted := true } := rfl
theorem exec_transmitInhibitAssert : exec .transmitInhibitAssert s = .next { s with txInhibit := true } := rfl
theorem exec_transmitInhibitRelease : exec .transmitInhibitRelease s = .next { s with txInhibit := false } := rfl
theorem exec_carrierLoss (lane : LaneIx) (midSegment : Bool) :
    exec (.carrierLoss lane midSegment) s = .next (carrierGoes lane midSegment s) := rfl
theorem exec_carrierReturn (lane : LaneIx) :
    exec (.carrierReturn lane) s = .next (s.modLane lane fun x => { x with cdPresent := true }) := rfl
theorem exec_segmentTaken (lane : LaneIx) (bytes : List Byte) :
    exec (.segmentTaken lane bytes) s = .next (lineSegment lane bytes s) := rfl
theorem exec_intervalExpiry (lane : LaneIx) : exec (.intervalExpiry lane) s = .next (intervalExpires lane s) := rfl
theorem exec_markerTimerExpiry (lane : LaneIx) : exec (.markerTimerExpiry lane) s = .next (markerExpires lane s) := rfl
theorem exec_holeTimerExpiry (group : GroupIx) : exec (.holeTimerExpiry group) s = .next (holeExpires group s) := rfl
theorem exec_skewHoldExpiry (lane : LaneIx) : exec (.skewHoldExpiry lane) s = .next (skewHoldExpires lane s) := rfl
theorem exec_operationTimeout (slot : SlotIx) : exec (.operationTimeout slot) s = .next (operationExpires slot s) := rfl
theorem exec_retryExpiry : exec .retryExpiry s = .next (retryExpires s) := rfl
theorem exec_ingressFrameTaken (stream : StreamIx) (errorMark straddlesReset : Bool) (payload : List Byte) :
    exec (.ingressFrameTaken stream errorMark straddlesReset payload) s =
      .next (takeIngress stream errorMark straddlesReset payload s) := rfl
theorem exec_egressPauseAssert : exec .egressPauseAssert s = .next { s with egressPause := true } := rfl
theorem exec_egressPauseRelease :
    exec .egressPauseRelease s = .next (arbitrate { s with egressPause := false }) := rfl
theorem exec_egressTransmissionEnd : exec .egressTransmissionEnd s = .next (egressEnds s) := rfl
theorem exec_heldFrameJoin (group : GroupIx) : exec (.heldFrameJoin group) s = .next (joinHeld group s) := rfl
theorem exec_segmentPlacement (group : GroupIx) : exec (.segmentPlacement group) s = .next (placeSegment group s) := rfl
theorem exec_segmentTransmitStart (lane : LaneIx) :
    exec (.segmentTransmitStart lane) s = .next (startTransmission lane s) := rfl
theorem exec_segmentTransmitEnd (lane : LaneIx) :
    exec (.segmentTransmitEnd lane) s = .next (endTransmission lane s) := rfl
theorem exec_engineTakeFrame : exec .engineTakeFrame s = .next (engineTakes s) := rfl
theorem exec_responseReoffer : exec .responseReoffer s = .next (reoffer s) := rfl
theorem exec_deviceResetEffect :
    exec .deviceResetEffect s = .next (if s.resetResponseInFlight then endReset .requested s else s) := rfl
theorem exec_notificationOffer : exec .notificationOffer s = .next (offerNotes s) := rfl
theorem exec_resetInputRelease :
    exec .resetInputRelease s = .next (if s.resetAsserted then endReset .powerOn s else s) := rfl

/-! ### The entry commands (log 8) -/

theorem exec_echo (origin : Origin) (params : List Byte) :
    exec (.echo origin params) s = .next (entryRow origin 0x01 false (some (.echo params)) s) := rfl
theorem exec_readEntry (origin : Origin) (table index : Byte) :
    exec (.readEntry origin table index) s = .next (entryRow origin 0x02 false (some (.readEntry table index)) s) := rfl
theorem exec_readCounters (origin : Origin) (set index clear : Byte) :
    exec (.readCounters origin set index clear) s =
      .next (entryRow origin 0x04 (decide (clear ≠ 0)) (some (.readCounters set index clear)) s) := rfl
theorem exec_captureRead (origin : Origin) (lane : Byte) :
    exec (.captureRead origin lane) s = .next (entryRow origin 0x05 false (some (.captureRead lane)) s) := rfl
theorem exec_captureRelease (origin : Origin) (lane : Byte) :
    exec (.captureRelease origin lane) s = .next (entryRow origin 0x06 false (some (.captureRelease lane)) s) := rfl
theorem exec_writeEntry (origin : Origin) (table index : Byte) (items : List Byte) :
    exec (.writeEntry origin table index items) s =
      .next (entryRow origin 0x03 false (writeReq table index items) s) := rfl
theorem exec_groupEnable (origin : Origin) (group : Byte) :
    exec (.groupEnable origin group) s = .next (entryRow origin 0x07 false (some (.groupEnable group)) s) := rfl
theorem exec_groupDisable (origin : Origin) (group : Byte) :
    exec (.groupDisable origin group) s = .next (entryRow origin 0x08 false (some (.groupDisable group)) s) := rfl
theorem exec_groupResync (origin : Origin) (group : Byte) :
    exec (.groupResync origin group) s = .next (entryRow origin 0x09 false (some (.groupResync group)) s) := rfl
theorem exec_laneAdd (origin : Origin) (group lane : Byte) :
    exec (.laneAdd origin group lane) s = .next (entryRow origin 0x0A false (some (.laneAdd group lane)) s) := rfl
theorem exec_laneRemove (origin : Origin) (lane : Byte) :
    exec (.laneRemove origin lane) s = .next (entryRow origin 0x0B false (some (.laneRemove lane)) s) := rfl
theorem exec_laneService (origin : Origin) (lane direction : Byte) :
    exec (.laneService origin lane direction) s =
      .next (entryRow origin 0x0C false (some (.laneService lane direction)) s) := rfl
theorem exec_laneDiag (origin : Origin) (lane mode : Byte) :
    exec (.laneDiag origin lane mode) s = .next (entryRow origin 0x0D false (some (.laneDiag lane mode)) s) := rfl
theorem exec_opQuery (origin : Origin) (tag : BitVec 16) :
    exec (.opQuery origin tag) s = .next (entryRow origin 0x0E false (some (.opQuery tag)) s) := rfl
theorem exec_notifyAck (origin : Origin) (n : BitVec 32) :
    exec (.notifyAck origin n) s = .next (entryRow origin 0x0F false (some (.notifyAck n)) s) := rfl
theorem exec_deviceReset (origin : Origin) (tag : BitVec 16) :
    exec (.deviceReset origin tag) s =
      .next (if s.executes && accessAllows origin s.dev.remoteAccess 0x10 false then
        answerReset origin tag (entryRow origin 0x10 false (some .deviceReset) s)
      else entryRow origin 0x10 false (some .deviceReset) s) := rfl
end

/-! ### A step -/

/-- The events of the part's own are ready when it takes them (log 2). -/
theorem ownEvent_ready {s : State} {c : Instr} (h : s.ownEvent = some c) : s.resetAsserted = false ∧ s.ready c = true := by
  unfold State.ownEvent at h
  split at h
  · cases h
  · next hr => exact ⟨by simpa using hr, List.find?_some h⟩

/-- All a step can do: a waiting command, an event of the part's own, or a tick. -/
theorem step_cases (s : State) :
    (∃ c rest, s.pending = c :: rest ∧ step s = exec c { s with pending := rest }) ∨
      (s.pending = [] ∧ ∃ c, s.ownEvent = some c ∧ step s = exec c s) ∨
        (s.pending = [] ∧ s.ownEvent = none ∧ step s = .next (tick s)) := by
  unfold step
  split
  · next c rest h => exact .inl ⟨c, rest, h, rfl⟩
  · next h =>
    split
    · next c hc => exact .inr (.inl ⟨h, c, hc, rfl⟩)
    · next hn => exact .inr (.inr ⟨h, hn, rfl⟩)

/-- What every command keeps, whatever the queue and the timebase, every step keeps. -/
theorem step_keeps {P : State → Prop} (hq : ∀ s q, P s → P { s with pending := q }) (ht : ∀ s, P s → P (tick s))
    (he : ∀ c s t, P s → exec c s = .next t → P t) {s t : State} (h : P s) (hs : step s = .next t) : P t := by
  rcases step_cases s with ⟨c, rest, -, e⟩ | ⟨-, c, -, e⟩ | ⟨-, -, e⟩
  · exact he c _ t (hq s rest h) (e ▸ hs)
  · exact he c s t h (e ▸ hs)
  · rw [e] at hs
    cases hs
    exact ht s h

end Sys2Proof.Machine
end

