-- ==== Sys2Proof/WellFormed.lean ====
section
/-! DEFINITION. When a command is one that can be sent: the two variable-length parameters fit the one-byte parameter
length of 13.3. Every other operand is in range by its type, or its range is judged by the part itself (R150). -/

namespace Sys2Proof

/-- Well-formedness of a command (13.3): ECHO takes 0 to 255 parameter bytes; WRITE-ENTRY takes 4 to 255, two of
which are the table and the index. -/
def Instr.wellFormed : Instr → Bool
  | .echo _ params => decide (params.length ≤ 255)
  | .writeEntry _ _ _ items => decide (2 ≤ items.length) && decide (items.length ≤ 253)
  | .powerOnReset => true
  | .transmitInhibitAssert => true
  | .transmitInhibitRelease => true
  | .carrierLoss _ _ => true
  | .carrierReturn _ => true
  | .segmentTaken _ _ => true
  | .intervalExpiry _ => true
  | .markerTimerExpiry _ => true
  | .holeTimerExpiry _ => true
  | .skewHoldExpiry _ => true
  | .operationTimeout _ => true
  | .retryExpiry => true
  | .ingressFrameTaken _ _ _ _ => true
  | .egressPauseAssert => true
  | .egressPauseRelease => true
  | .egressTransmissionEnd => true
  | .heldFrameJoin _ => true
  | .segmentPlacement _ => true
  | .segmentTransmitStart _ => true
  | .segmentTransmitEnd _ => true
  | .engineTakeFrame => true
  | .responseReoffer => true
  | .readEntry _ _ _ => true
  | .readCounters _ _ _ _ => true
  | .captureRead _ _ => true
  | .captureRelease _ _ => true
  | .groupEnable _ _ => true
  | .groupDisable _ _ => true
  | .groupResync _ _ => true
  | .laneAdd _ _ _ => true
  | .laneRemove _ _ => true
  | .laneService _ _ _ => true
  | .laneDiag _ _ _ => true
  | .opQuery _ _ => true
  | .notifyAck _ _ => true
  | .deviceReset _ _ => true
  | .deviceResetEffect => true
  | .notificationOffer => true
  | .resetInputRelease => true

end Sys2Proof
end

