-- ==== Sys2Proof/Tests/Slice0.lean ====
section
/-! SUPPORT. Tests: ill-formed commands, bytes written out from chapter 13, examples of the manual, and for each statement
with hypotheses a state and operands that meet them. -/

namespace Sys2Proof.Tests

/- The kernel runs the tests one after another. -/
set_option Elab.async false

open Sys2Proof.Machine

/-! ### Well-formedness -/

theorem test_wf_echo_too_long : (Instr.echo .localSide (List.replicate 256 0)).wellFormed = false := by decide +kernel
theorem test_wf_write_no_item : (Instr.writeEntry .localSide 1 0 [0x01]).wellFormed = false := by decide +kernel
theorem test_wf_write_too_long : (Instr.writeEntry .localSide 1 0 (List.replicate 254 0)).wellFormed = false := by decide +kernel
theorem test_wf_echo_longest : (Instr.echo .localSide (List.replicate 255 0)).wellFormed = true := by decide +kernel
theorem test_decode_no_word : decodeTableWord 16 0x1234 = none := by decide

/-! ### Bytes (13.1 to 13.5); the checks were divided out by hand -/

/-- The three check functions on the nine digits. -/
theorem test_checks :
    headerCheck [0x31, 0x32, 0x33, 0x34, 0x35, 0x36, 0x37, 0x38, 0x39] = 0xF4 ∧
      bodyCheck [0x31, 0x32, 0x33, 0x34, 0x35, 0x36, 0x37, 0x38, 0x39] = 0x29B1 := by decide +kernel

/-- 13.1: DATA, group 2, FIRST, stream 9, sequence 400, two bytes. -/
theorem test_data_bytes : (DataSeg.mk 2 true false 9 400 [0xAB, 0xCD]).bytes =
    [0x5A, 0x09, 0x01, 0x90, 0x02, 0x05, 0xAB, 0xCD] := by decide +kernel

/-- 13.2: lane 5, ACTIVE in group 3, count 16, next sequence 65,535. -/
theorem test_marker_bytes : markerBytes ⟨5, .active 3, 16, 0xFF, 0x21, 0x1234⟩ 65535 =
    [0x6C, 0x02, 0xFF, 0xFF, 0x0A, 0xDC, 0x53, 0x02, 0x10, 0xFF, 0x21, 0x12, 0x34, 0x00, 0xB7, 0x4F] := by decide +kernel

/-- 13.2: the same lane with role OFF names NONE and sends group and sequence 0 in the header. -/
theorem test_marker_off_bytes : markerBytes ⟨5, .off, 16, 0xFF, 0x21, 0x1234⟩ 65535 =
    [0x60, 0x00, 0x00, 0x00, 0x0A, 0x9A, 0x5F, 0x00, 0x10, 0xFF, 0x21, 0x12, 0x34, 0x00, 0xC6, 0x1B] := by decide +kernel

/-- R14: the example of test sequence 65,500. -/
theorem test_test_segment : (testBytes 65500).take 7 = [0x70, 0x00, 0xFF, 0xDC, 0x40, 0x34, 220] ∧
    byteAt (testBytes 65500) (6 + 35) = 255 ∧ byteAt (testBytes 65500) (6 + 63) = 27 := by decide +kernel

/-- 13.5: LANE-STATE of lane 6, ALIGNED to LOST, MARKER-MISS. -/
theorem test_record_bytes : (Note.mk 258 (.laneState 6 .aligned .lost .markerMiss) 1000 false).bytes =
    [0, 0, 1, 2, 2, 0, 6, 0, 0, 3, 0xE8, 2, 3, 4, 0, 0] := by decide

/-- R7: six zero bytes pass the header check and fail the content check. -/
theorem test_zero_header : judgeHeader [0, 0, 0, 0, 0, 0, 0] = .uncorrectable 0 := by decide +kernel

/-- R187: the reserved bits of header byte 1 are not judged. -/
theorem test_reserved_bits : judgeHeader [0x5A, 0xC9, 0x01, 0x90, 0x01, headerCheck [0x5A, 0xC9, 0x01, 0x90, 0x01], 7] =
    .good ⟨1, some .data, 2, true, false, 9, 400, 1⟩ := by decide +kernel

/-! ### States for the tests -/

/-- The state after a command. -/
def after (c : Instr) (s : State) : State :=
  match exec c s with
  | .next t => t
  | _ => s

/-- The part out of reset with nothing queued, waiting or in flight. -/
def calm : State := State.held

/-- A lane that receives and sends: in service, with running timers. -/
def inService (l : LaneIx) (rx : RxState) (s : State) : State :=
  s.modLane l fun x => { x with inService := true, rx := rx, intervalTimer := some 1000, markerTimer := some 1000 }

/-- Lane `l` with association and role. -/
def tied (l : LaneIx) (role : Role) (a : Assoc) (s : State) : State :=
  s.modLane l fun x => { x with role := role, assoc := a }

/-- Group 1 UP in both directions, expecting `e`, with min lanes 1. -/
def up (e : Seq) (s : State) : State :=
  s.modGroup 1 fun x => { x with tx := .up, ctx := .up, expected := some e, highest := some (e - 1) }

/-- A segment of group 1 and stream 9 with one byte. -/
def seg (q : Seq) : DataSeg := ⟨1, true, true, 9, q, [7]⟩

/-- Lanes 0 and 3 MEMBER of group 1, which expects 400. -/
def receiving : State :=
  tied 3 .off (.member 1 399 0) (inService 3 .aligned (tied 0 .off (.member 1 399 0) (inService 0 .aligned (up 400 calm))))

/-- `receiving` with segment 402 stored and the hole at 400 timed. -/
def waiting : State :=
  { receiving.modGroup 1 fun x => { x with store := [seg 402], hole := some ⟨2000, 400⟩, heldCount := 1 } with
    poolFree := 2047 }

/-- Lane 2 sends for group 1. -/
def sending : State := tied 2 (.active 1) .none (inService 2 .search (up 400 calm))

/-- A LANE-ADD of lane 2 to group 1 and a GROUP-DISABLE of group 2, in which lane 3 still drains, are in flight. -/
def operating : State :=
  let s := (inService 0 .aligned (up 400 calm)).modLane 2 fun x => { x with role := .probation 1, op := some ⟨.add, 0, 1, 1⟩ }
  let s := (s.modLane 3 fun x => { x with role := .draining 2, queue := [seg 400] }).modGroup 2 fun x =>
    { x with tx := .disabling, ctx := .up, expected := some 0, disable := some ⟨1, 1, 8, false⟩ }
  (s.modSlot 0 fun _ => ⟨1, .inFlight (.laneAdd 2) 0 500000⟩).modSlot 1 fun _ => ⟨1, .inFlight (.groupDisable 2) 0 500000⟩

/-! ### Examples of the manual -/

/-- R42, R45, R41: segment 401 waits for 400; its own mark and the highest sequence rise. -/
theorem test_arrival_waits : ((after (.segmentTaken 0 (seg 401).bytes) receiving).group 1).store = [seg 401] := by
  decide +kernel
theorem test_marks_raised : ((after (.segmentTaken 0 (seg 401).bytes) receiving).lane 0).assoc = .member 1 401 0 := by
  decide +kernel

/-- R50: when lane 3 has passed 400 too, 400 is skipped fast and 401 delivered. -/
theorem test_fast_skip : ((after (.segmentTaken 3 (seg 402).bytes)
    (after (.segmentTaken 0 (seg 401).bytes) receiving)).group 1).expected = some 403 := by decide +kernel

/-- R49: at the expiry the expected sequence moves to 402, which is delivered. -/
theorem test_hole_expiry : ((after (.holeTimerExpiry 1) waiting).group 1).expected = some 403 ∧
    (after (.holeTimerExpiry 1) waiting).groupCount 1 .skippedByTimer = 2 := by decide +kernel

/-- R110: the example's first placements of lanes 1, 2 and 5 with weights 2, 1 and 1. -/
theorem test_round_robin :
    let s := tied 5 (.active 1) .none (tied 2 (.active 1) .none (tied 1 (.active 1) .none (up 400 calm)))
    let s := (s.modLane 1 fun x => { x with weight := 2 }).modGroup 1 fun x =>
      { x with segSize := 192, normal := [⟨7, List.replicate 1504 1⟩] }
    let t := after (.segmentPlacement 1) (after (.segmentPlacement 1) s)
    ((t.lane 1).deficit, (t.lane 2).deficit, (t.lane 5).deficit) = (1, 0, 1) ∧ (t.group 1).rrPos = 3 := by decide +kernel

/-- R116, R117: at debt 7 an expiry counts starvation; an urgent marker leaves the debt at 6. -/
theorem test_debt : let s := (sending.modLane 2 fun x => { x with debt := 7 })
    ((after (.markerTimerExpiry 2) s).laneCount 2 .markerStarvation = 1) ∧
      ((after (.segmentTransmitStart 2) s).lane 2).debt = 6 := by decide +kernel

/-- R23: the restore count reached in SEARCH makes the lane ALIGNED. -/
theorem test_restored : ((after (.intervalExpiry 6) ((inService 6 .search calm).modLane 6 fun x =>
    { x with good := 3, interval := ⟨false, true, none, 0⟩ })).lane 6).rx = .aligned := by decide +kernel

/-- R4, R77: the port carries the payload and the stream, without the four bytes of the frame check. -/
theorem test_sent : EgressFrame.sent ⟨9, [[1, 2, 3], [4, 5, 6]]⟩ = ⟨9, [1, 2]⟩ := by decide

/-- R184: a LOOP-REMOTE lane returns the bytes of the segment it takes. -/
theorem test_loop_remote : ((after (.segmentTaken 7 (seg 400).bytes) ((inService 7 .search calm).modLane 7 fun x =>
    { x with diag := .loopRemote })).lane 7).returnQueue = [(seg 400).bytes] := by decide +kernel

/-- R36, R55, R56: a third strike beyond the skew limit suspends the lane. -/
theorem test_suspended : ((after (.segmentTaken 3 (markerBytes ⟨3, .active 1, 0, 0, 0, 0⟩ 436)) (tied 3 .off (.member 1 399 2)
    (receiving.modGroup 1 fun x => { x with highest := some 500 }))).lane 3).assoc = .suspended 1 := by decide +kernel

/-- R142: a report without lane 3 completes the disable of group 2, with loss. -/
theorem test_disable_completes : ((after (.segmentTaken 0 (markerBytes ⟨0, .off, 0, 0, 0, 0⟩ 0)) operating).slot 1).body =
    .complete (.groupDisable 2) 0 500000 .doneWithLoss 0 := by decide +kernel

/-- R160: the first operation after a reset has generation 1. -/
theorem test_first_tag : (after (.laneAdd .localSide 1 2) (inService 2 .search (up 400 calm))).lastResult =
    some ⟨0x0A, .accepted, [0x00, 0x01]⟩ := by decide +kernel

/-- R151: DEVICE-RESET is DENIED to REMOTE origin under FULL. -/
theorem test_reset_denied : (after (.deviceReset .remoteSide 7)
    { calm with dev := { calm.dev with remoteAccess := .full } }).lastResult = some ⟨0x10, .denied, []⟩ := by
  decide +kernel

/-- R100: with hold level 8 the eighth frame asserts the output. -/
theorem test_hold : ((judgeHold 1 ((up 0 calm).modGroup 1 fun x =>
    { x with holdLevel := 8, high := List.replicate 8 ⟨0, []⟩ })).group 1).hold = true := by decide +kernel

/-- R176: a post at a full queue is counted. -/
theorem test_post_lost : (post (.overflow 0) { calm with notes := List.replicate 32 ⟨1, .overflow 0, 0, true⟩ }).tally = 1 := by
  decide +kernel

/-- R173, R180: a power-on reset of the reset part gives the reset part. -/
theorem test_power_on : after .resetInputRelease (after .powerOnReset State.reset) = State.reset := by decide +kernel

/-- R84: with one buffer free that another group's reservation claims, a group without reservation is refused. -/
theorem test_reserved_buffer :
    ({ (up 0 calm).modGroup 0 fun x => { x with tx := .up, reservation := 1 } with poolFree := 1 } : State).judgeRequest 1 =
      none := by decide +kernel

/-! ### States that meet the statements' hypotheses -/

theorem held_lane (l : LaneIx) : State.held.lane l = LaneState.initial := by simp [State.lane, State.held]
theorem held_group (g : GroupIx) : State.held.group g = GroupState.initial := by simp [State.group, State.held]
theorem held_slot (k : SlotIx) : State.held.slot k = ⟨0, .empty⟩ := by simp [State.slot, State.held]

/-- A lawful part takes its step. -/
theorem witness_step : ∃ t, step State.held = .next t := ⟨_, rfl⟩

theorem witness_StepTakesFirstCommand : ({ calm with pending := [.retryExpiry, .retryExpiry] } : State).pending =
    .retryExpiry :: [.retryExpiry] := rfl

theorem witness_StepWithoutCommands :
    (calm.pending = [] ∧ calm.resetAsserted = false ∧ ∀ c ∈ ownEvents, calm.ready c = false) ∧
    ({ calm with resetAsserted := true } : State).resetAsserted = true ∧
    ({ calm with requestQueue := [⟨.localSide, []⟩] } : State).ownEvent = some .engineTakeFrame := by decide +kernel

theorem witness_PoolAndStoreLawsKept : State.held.PoolWhole ∧ State.held.StoreWhole := by
  unfold State.PoolWhole State.StoreWhole; decide +kernel



theorem witness_NotificationLawKept : State.held.NotesLawful := ⟨by decide, trivial, List.Pairwise.nil⟩

theorem witness_SettingsStayInRange : State.held.SettingsInRange := by
  unfold State.SettingsInRange DevSettings.InRange GroupState.InRange StreamState.InRange StreamState.Fixed
  decide +kernel

theorem witness_CapacitiesKept : State.held.SettingsInRange ∧ State.held.Bounded :=
  ⟨witness_SettingsStayInRange, by unfold State.Bounded LaneState.Bounded GroupState.Bounded; decide +kernel⟩

theorem witness_OneGroupKept : receiving.OneGroup ∧ ∃ t, step receiving = .next t := by
  refine ⟨?_, _, rfl⟩
  intro l g h
  revert l g h
  decide +kernel

theorem witness_LanesStayAttached : State.held.LanesAttached := by
  unfold State.LanesAttached LaneState.Attached; decide +kernel

theorem witness_WindowLawKept : State.held.StoresLawful := by
  intro g
  rw [held_group]
  exact ⟨fun _ => rfl, fun _ => ⟨rfl, rfl, rfl, rfl⟩, fun h => by cases h⟩

theorem witness_GroupHoldLawKept : State.held.HoldsLawful := by
  unfold State.HoldsLawful GroupState.HoldLawful; decide +kernel

theorem witness_OperationLawKept : State.held.OpsLawful := by
  have hr : ∀ l, (State.held.lane l).role = .off := fun l => by rw [held_lane]; rfl
  have ho : ∀ l, (State.held.lane l).op = none := fun l => by rw [held_lane]; rfl
  have hd : ∀ g, (State.held.group g).disable = none := fun g => by rw [held_group]; rfl
  have hb : ∀ k, (State.held.slot k).body = .empty := fun k => by rw [held_slot]
  refine ⟨?_, ?_, ?_, ?_, ?_, ?_, ?_, ?_, ?_, ?_, List.nodup_nil, ?_, ?_⟩
  all_goals try simp only [hr, ho, hd, hb, State.RoleLawful, held_lane, held_group]
  all_goals simp [State.held, LaneState.initial, GroupState.initial, Role.group?]

theorem operating_lawful : operating.OpsLawful := by
  have ho : ∀ l, (operating.lane l).op = if l = 2 then some ⟨.add, 0, 1, 1⟩ else none := by decide
  have hr : ∀ l, (operating.lane l).role = if l = 2 then .probation 1 else if l = 3 then .draining 2 else .off := by decide
  have hq : ∀ l, (operating.lane l).queue = if l = 3 then [seg 400] else [] := by decide
  have hd : ∀ g, (operating.group g).disable = if g = 2 then some ⟨1, 1, 8, false⟩ else none := by decide
  have ht : ∀ g, (operating.group g).tx = if g = 2 then .disabling else if g = 1 then .up else .disabled := by decide
  have hb : ∀ k, operating.slot k = if k = 0 then ⟨1, .inFlight (.laneAdd 2) 0 500000⟩
      else if k = 1 then ⟨1, .inFlight (.groupDisable 2) 0 500000⟩ else ⟨0, .empty⟩ := by decide
  have hc : operating.completionOrder = [] := rfl
  have hs : ∀ l, inSet (8 : LaneSet) l = true → l = 3 := by decide
  refine ⟨?_, ?_, ?_, ?_, ?_, ?_, ?_, ?_, ?_, ?_, List.nodup_nil, ?_, ?_⟩
  all_goals simp only [ho, hr, hq, hd, ht, hb, hc, State.RoleLawful, State.holdsOp]
  all_goals intro i
  all_goals fin_cases i
  all_goals simp [Role.group?, LaneOpKind.on]
  · rintro d l rfl h
    simp [hs l h]
  all_goals decide

theorem witness_InhibitedLanesBeginNothing : ({ sending with txInhibit := true } : State).txInhibit = true ∧
    ∃ t, exec (.segmentTransmitStart 2) { sending with txInhibit := true } = .next t := ⟨rfl, _, rfl⟩

theorem witness_PausedEgressStartsNothing : ({ calm with egressPause := true } : State).egressPause = true ∧
    ∃ t, exec .notificationOffer { calm with egressPause := true } = .next t := ⟨rfl, _, rfl⟩

theorem witness_SettingsStayUntilWritten : (∃ t, exec (.groupEnable .localSide 3) calm = .next t) ∧
    ∃ t, exec (.laneDiag .localSide 3 1) calm = .next t := ⟨⟨_, rfl⟩, _, rfl⟩

theorem witness_CaptureLawKept :
    let s := (inService 7 .search calm).modLane 7 fun x => { x with capture := ⟨.uncorrectable, 5, 9, none, 255⟩ }
    (s.lane 7).capture.state = .uncorrectable ∧ ∃ t, exec (.segmentTaken 7 []) s = .next t := ⟨by decide, _, rfl⟩

theorem witness_PassedMarksOnlyRise : (receiving.lane 0).assoc = .member 1 399 0 ∧
    ((after (.segmentTaken 0 (seg 401).bytes) receiving).lane 0).assoc = .member 1 401 0 := by decide +kernel

/-- Payloads of 1 and of 192 bytes. -/
theorem witness_SegmentsReadBack : (1 ≤ (seg 0).payload.length ∧ (seg 0).payload.length ≤ 192) ∧
    (DataSeg.mk 0 true true 1 0 (List.replicate 192 1)).payload.length = 192 := by decide +kernel

/-- A data segment, a marker and a test segment; the first and the last header bit. -/
theorem witness_SingleBitErrorsCorrected :
    judgeHeader (seg 400).bytes = .good ⟨1, some .data, 1, true, true, 9, 400, 1⟩ ∧
    judgeHeader (markerBytes ⟨5, .off, 16, 0xFF, 0x21, 0x1234⟩ 9) = .good ⟨1, some .marker, 0, false, false, 0, 0, 10⟩ ∧
    judgeHeader (testBytes 65500) = .good ⟨1, some .test, 0, false, false, 0, 65500, 64⟩ ∧ (0 < 48 ∧ 47 < 48) := by
  decide +kernel

theorem witness_RequestEntriesReadBack : ∀ e ∈ [((1 : Byte), List.replicate 255 (0 : Byte)), (2, [])], e.2.length ≤ 255 := by
  decide +kernel

/-- One state for each clause; the sequence lies at the expected one, at the window, and behind. -/
theorem witness_ArrivalsJudged :
    ((receiving.lane 0).rx = .aligned ∧ (receiving.lane 0).diag = .none ∧ (receiving.lane 0).cdPresent = true) ∧
    (receiving.group 0).ctx = .disabled ∧
    ((receiving.group 1).ctx ≠ .disabled ∧ (calm.lane 0).assoc.memberOf 1 = false) ∧
    (((receiving.modGroup 1 fun x => { x with ctx := .resync }).group 1).ctx = .resync ∧
      (receiving.lane 0).assoc.memberOf 1 = true) ∧
    (receiving.group 1).ctx.live = true ∧ (receiving.group 1).expected = some 400 ∧
    (receiving.lane 0).assoc = .member 1 399 0 ∧ dist (400 : Seq) 400 = 0 ∧ dist (400 : Seq) 656 = (receiving.group 1).window ∧
    dist (400 : Seq) 33168 = 32768 := by decide

/-- Lanes that take nothing, and that take a good, a corrected and an uncorrectable segment and a marker body error, below the
error limit and at it. -/
theorem witness_FaultySegmentsTaken :
    let s := inService 7 .aligned calm
    let limit := s.modLane 7 fun x => { x with interval := { x.interval with errorCount := 15 } }
    ((calm.lane 7).rx = .down ∧ (s.lane 7).rx = .aligned ∧ (s.lane 7).cdPresent = true ∧ (s.lane 7).diag ≠ .loopLocal) ∧
    judgeHeader (seg 400).bytes = .good ⟨1, some .data, 1, true, true, 9, 400, 1⟩ ∧
    judgeHeader (flipHeaderBit (seg 400).bytes 47) = .corrected 0x89 ⟨1, some .data, 1, true, true, 9, 400, 1⟩ ∧
    judgeHeader [] = .uncorrectable 0 ∧ readMarker 5 [] = none ∧ (s.lane 7).capture.state = .empty ∧
    (s.lane 7).assoc.isMember = false ∧ ¬s.dev.errorLimit ≤ min ((s.lane 7).interval.errorCount + 1) 255 ∧
    limit.dev.errorLimit = min ((limit.lane 7).interval.errorCount + 1) 255 := by decide +kernel

theorem witness_MarkerJudged :
    let s := inService 7 .lost calm
    (s.lane 7).diag = .none ∧ (s.lane 7).cdPresent = true ∧ (s.lane 7).rx ≠ .down ∧ (s.lane 7).assoc.isMember = false ∧
      (s.lane 7).rx ≠ .aligned ∧ ((inService 7 .aligned calm).lane 7).rx = .aligned := by decide

/-- A lane in TEST, one in LOOP-REMOTE with a return queue one below its capacity and at it, and one not ALIGNED. -/
theorem witness_DiagnosticSegmentsTaken :
    let s := fun (d : Diag) (n : Nat) =>
      (inService 7 .search calm).modLane 7 fun x => { x with diag := d, returnQueue := List.replicate n [1] }
    (∀ d, d ≠ .loopLocal → ((s d 0).lane 7).rx ≠ .down ∧ ((s d 0).lane 7).cdPresent = true ∧ ((s d 0).lane 7).diag = d) ∧
    ((s .loopRemote 7).lane 7).returnQueue.length = 7 ∧ ((s .loopRemote 8).lane 7).returnQueue.length = 8 ∧
    (testPattern 65535).length = 64 ∧ (List.replicate 64 (0 : Byte)).length = 64 ∧
    ((s .none 0).lane 7).rx ≠ .aligned ∧ calm.dev.stationToken = 0 := by
  refine ⟨?_, ?_⟩
  · intro d h; cases d <;> first | exact absurd rfl h | decide
  · decide

/-- The timer runs; a marker missed at the limit and below it; a good interval at the restore count and below it. -/
theorem witness_IntervalJudged :
    let s := (inService 0 .aligned calm).modLane 0 fun x => { x with miss := 2 }
    ((s.lane 0).rx ≠ .down ∧ (s.lane 0).intervalTimer = some 1000 ∧ (s.lane 0).assoc.isMember = false ∧
      ¬(s.lane 0).miss + 1 < s.dev.missLimit) ∧
    ((inService 0 .aligned calm).lane 0).miss + 1 < calm.dev.missLimit ∧
    (calm.lane 0).good + 3 < calm.dev.restoreCount ∧ ¬(calm.lane 0).good + 4 < calm.dev.restoreCount := by decide

theorem witness_CarrierInputFollowed : (receiving.lane 3).cdPresent = true ∧ (receiving.lane 3).rx = .aligned ∧
    (receiving.lane 3).assoc = .member 1 399 0 ∧ ((inService 4 .aligned calm).lane 4).assoc.isMember = false := by decide

theorem witness_HoleTimerExpires : (waiting.group 1).hole = some ⟨2000, 400⟩ ∧ (waiting.group 1).ctx.live = true ∧
    (waiting.group 1).expected = some 400 ∧ (waiting.group 1).store = [seg 402] ∧ (waiting.group 0).hole = none := by
  decide

/-- The expected segment present, and missing with every passed mark at it or beyond, with one behind, and with no member. -/
theorem witness_ResolutionReachesItsEnd :
    let s := receiving.modGroup 1 fun x => { x with store := [seg 400] }
    let u := tied 0 .off (.member 1 400 0) (tied 3 .off (.member 1 33167 0) receiving)
    ((receiving.group 1).ctx.live = true ∧ (receiving.group 1).expected = some 400 ∧ (receiving.group 0).ctx.live = false) ∧
    (seg 400 ∈ (s.group 1).store ∧ (∀ d' ∈ (s.group 1).store, d'.seq = 400 → d' = seg 400) ∧ (s.group 1).held = none) ∧
    ((u.group 1).store = [] ∧ u.isMember 1 0 = true ∧ Machine.dist (400 : Seq) 400 < 32768 ∧
      Machine.dist (400 : Seq) 33167 < 32768 ∧ ∀ l, u.isMember 1 l = true → l = 0 ∨ l = 3) ∧
    ((receiving.lane 0).assoc = .member 1 399 0 ∧ 32768 ≤ Machine.dist (400 : Seq) 399) ∧
    (∀ l, (up 400 calm).isMember 1 l = false) ∧ (waiting.group 1).store.length ≤ 1024 := by decide

theorem witness_HoleTimerSet : ((resolve 1 waiting).group 1).ctx.live = true ∧
    ((resolve 1 waiting).group 1).expected = some 400 ∧ ((resolve 0 waiting).group 0).ctx.live = false := by decide +kernel

theorem witness_GroupResyncTaken : waiting.Admits .localSide 0x09 false ∧ (1 : Byte).toNat = (1 : GroupIx).val ∧
    (waiting.group 1).ctx.live = true ∧ (waiting.group 1).store.length = (waiting.group 1).heldCount ∧
    (calm.group 1).ctx = .disabled := by unfold State.Admits; decide

/-- A frame of 4099 bytes takes one byte more and not two. -/
theorem witness_JoiningSegmentChecked :
    let p : Building := ⟨9, List.replicate 67 [7] ++ List.replicate 21 (List.replicate 192 7)⟩
    let s := receiving.modGroup 1 fun x => { x with building := some p, awaitingFirst := false }
    ({ seg 400 with first := false } : DataSeg).first = false ∧ (s.group 1).awaitingFirst = false ∧
      (s.group 1).building = some p ∧ (p.chain.map List.length).sum + 1 = 4100 := by decide +kernel

theorem witness_CutFramesAreRebuilt :
    let s := receiving.modStream 9 fun x => { x with valid := true }
    (9 : StreamIx) ≠ 0 ∧ (s.stream 9).valid = true ∧ (s.group 1).building = none ∧ (s.group 1).egress.length < 64 ∧
      16 ≤ (List.replicate 16 (0 : Byte)).length ∧ (List.replicate 4096 (0 : Byte)).length ≤ 4096 := by decide +kernel

theorem witness_EgressTransmissionEnds :
    let f : EgressFrame := ⟨9, [[1, 2, 3, 4, 5]]⟩
    let s := { receiving.modGroup 1 fun x => { x with egress := [f], heldCount := 1, held := some f } with
      egressBusy := some (.group 1) }
    (State.reset.egressBusy = some .management ∧ State.reset.mgmtOut.length = 1 ∧
      ∀ x ∈ State.reset.mgmtOut, x.carriesReset = false) ∧
    (s.egressBusy = some (.group 1) ∧ (s.group 1).egress = [f] ∧ f.chain.length ≤ (s.group 1).heldCount) ∧
    ((s.group 1).held = some f ∧ (s.group 1).egress.length < 64) ∧ (receiving.group 1).held = none := by decide

theorem witness_ArbiterChooses :
    let s := receiving.modGroup 3 fun x => { x with egress := [⟨9, []⟩] }
    s.egressBusy = none ∧ s.mgmtOut = [] ∧ (s.group 3).egress ≠ [] ∧
      (∀ h, (s.group h).egress ≠ [] → ((3 : GroupIx) - s.lastServed - 1).val ≤ (h - s.lastServed - 1).val) ∧
      ∀ g, (calm.group g).egress = [] := by decide

/-- The local intake; the intake from the bond with the request queue one below its capacity and at it; and the hand-over of
a stream-0 frame of 8 bytes in one buffer. -/
theorem witness_ManagementFramesTaken :
    let frame : List Byte := [1, 1, 0, 0, 5, 1, 0, 0]
    let s := fun (n : Nat) => { up 400 calm with
      requestQueue := List.replicate n ⟨.remoteSide, [1]⟩, dev := { calm.dev with mgmtGroup := some 1 } }
    calm.resetAsserted = false ∧ byteAt frame 0 = 1 ∧ (s 7).requestQueue.length < 8 ∧ ¬(s 8).requestQueue.length < 8 ∧
    ((s 8).dev.mgmtGroup = some 1 ∧ ((s 8).group 1).tx = .up ∧ ¬(s 8).storeFree < 12) ∧
    [frame ++ be 4 (frameCheck 0 frame).toNat].flatten = frame ++ be 4 (frameCheck 0 frame).toNat ∧
    (calm.stream 0).valid = true := by decide +kernel

/-- A frame of 65 bytes at segment size 64: the first segment, and the last, of one byte. -/
theorem witness_SegmentsPlaced :
    let f : TxFrame := ⟨9, List.replicate 65 1⟩
    let s := sending.modGroup 1 fun x => { x with segSize := 64, normal := [f] }
    let t := s.modGroup 1 fun x => { x with cursor := some ⟨.normal, 64⟩ }
    (s.canPlace 1 = true ∧ (s.group 1).normal = [f] ∧ (s.group 1).cursor = none ∧ (s.group 1).high = [] ∧
      s.eligible 1 2 = true ∧ 0 < (s.lane 2).weight ∧ (∀ m, s.eligible 1 m = true → m = 2)) ∧
    (t.canPlace 1 = true ∧ (t.group 1).cursor = some ⟨.normal, 64⟩ ∧ 64 < f.bonded.length) ∧
    calm.canPlace 1 = false := by decide +kernel

theorem witness_LaneTimersExpire :
    let s := (inService 0 .search calm).modLane 0 fun x => { x with skewHold := some 5 }
    (s.lane 0).markerTimer = some 1000 ∧ (s.lane 0).skewHold = some 5 ∧ (calm.lane 0).markerTimer = none ∧
      (calm.lane 0).skewHold = none := by decide

/-- A lane that drains outside a disable set, and in one with a report that completes the disable and one that does not; a
return queue; and a looped segment of each kind. -/
theorem witness_TransmissionsBeginAndEnd :
    let s := sending.modLane 2 fun x => { x with queue := [seg 400], role := .draining 1 }
    let d := fun (accepted : BitVec 8) => { (s.modGroup 1 fun x => { x with disable := some ⟨3, 1, 4, true⟩ }).modSlot 3 fun _ =>
      ⟨1, .inFlight (.groupDisable 1) 1 2⟩ with peerReport := some ⟨0, accepted, 0⟩ }
    let role := fun n => if n = 2 then .off else ((d 0).lane n).role
    let u := sending.modLane 2 fun x => { x with diag := .loopRemote, returnQueue := [[1]], flight := some ⟨[1], true⟩ }
    let v := sending.modLane 2 fun x => { x with diag := .loopLocal, flight := some ⟨testBytes 9, true⟩ }
    ((s.lane 2).queue = [seg 400] ∧ (s.lane 2).diag = .none ∧ (s.lane 2).role = .draining 1 ∧ s.inDisableSet 2 = false) ∧
    (((d 0).group 1).disable = some ⟨3, 1, 4, true⟩ ∧ inSet 4 2 = true ∧
      (∀ h, ((d 0).group h).disable ≠ none → h = 1) ∧ ((d 0).slot 3).body.isInFlight = true ∧
      (⟨3, 1, 4, true⟩ : DisableRec).completes role 0 = true ∧ (⟨3, 1, 4, true⟩ : DisableRec).completes role 4 = false) ∧
    ((u.lane 2).returnQueue = [[1]] ∧ (u.lane 2).flight = some ⟨[1], true⟩ ∧ (u.lane 2).diag ≠ .loopLocal) ∧
    ((v.lane 2).flight = some ⟨testBytes 9, true⟩ ∧ (v.lane 2).diag = .loopLocal ∧ (v.lane 2).rx ≠ .down) := by
  decide +kernel

/-- A lawful state with an operation and a disable in flight; reports that end the operation and that do not, that complete
the disable, with loss, and that do not. -/
theorem witness_ReportJudgesEveryRole :
    let m := fun (accepted : BitVec 8) => (⟨0, .off, 0, 0, accepted, 0⟩ : MarkerBody)
    ((operating.lane 0).rx = .aligned ∧ (operating.lane 0).diag = .none ∧ (operating.lane 0).cdPresent = true ∧
      operating.dev.stationToken = 0) ∧
    ((operating.lane 2).op = some ⟨.add, 0, 1, 1⟩ ∧ operating.slot 0 = ⟨1, .inFlight (.laneAdd 2) 0 500000⟩ ∧
      reportEnding (.probation 1) .add true false false = some .done ∧
      reportEnding (.probation 1) .add false false false = none) ∧
    ((operating.group 2).disable = some ⟨1, 1, 8, false⟩ ∧ operating.slot 1 = ⟨1, .inFlight (.groupDisable 2) 0 500000⟩ ∧
      operating.reportCompletes (m 0) 2 = true ∧ operating.reportDrops (m 0) ⟨1, 1, 8, false⟩ = true ∧
      operating.reportCompletes (m 8) 2 = false) := by decide

theorem witness_ReportJudgesEveryRole_lawful : operating.OpsLawful := operating_lawful

/-- A MEMBER, a SUSPENDED with its hold running, a lane that is admitted and one that is not; a report that makes a lane NONE;
a marker at the skew limit and beyond it, below the strike limit and at it; and each departure. -/
theorem witness_MarkerJudgesAssociation :
    let held := (tied 3 .off (.suspended 1) receiving).modLane 3 fun x => { x with skewHold := some 9 }
    let alone := tied 3 .off .none receiving
    let skew := receiving.modGroup 1 fun x => { x with highest := some 500 }
    ((receiving.lane 3).rx = .aligned ∧ (receiving.lane 3).diag = .none ∧ (receiving.lane 3).cdPresent = true ∧
      receiving.dev.stationToken = 0 ∧ (receiving.lane 3).assoc.memberOf 1 = true) ∧
    ((held.lane 3).assoc = .suspended 1 ∧ (held.lane 3).skewHold ≠ none) ∧
    ((alone.lane 3).role = .off ∧ (alone.group 1).ctx ≠ .disabled ∧ (alone.group 0).ctx = .disabled ∧
      alone.reportCompletes ⟨3, .active 1, 0, 0, 0, 0⟩ 1 = false) ∧
    operating.reportCompletes ⟨0, .off, 0, 0, 0, 0⟩ 2 = true ∧
    ((skew.group 1).ctx.live = true ∧ Machine.dist ((437 : Seq) - 1) 500 = (skew.group 1).skewLimit ∧
      Machine.dist ((436 : Seq) - 1) 500 = (skew.group 1).skewLimit + 1 ∧ 1 + 1 < (skew.group 1).strikeLimit ∧
      2 + 1 = (skew.group 1).strikeLimit) ∧
    ((calm.group 1).ctx.live = false ∧ (up 400 calm).memberCount 1 = 0 ∧ receiving.memberCount 1 ≠ 0) := by decide

theorem witness_GroupEnabled : calm.Admits .localSide 0x07 false ∧ (3 : Byte).toNat = (3 : GroupIx).val ∧
    (calm.group 3).ctx = .disabled := by unfold State.Admits; decide

/-- A LANE-ADD that is accepted, and with no slot; a LANE-REMOVE of an ACTIVE, of a WITHDRAWN and of a PROBATION lane, and with
no slot; and lanes in a disable set and being removed. -/
theorem witness_LaneOperationsJudged :
    let s := inService 4 .search (up 0 calm)
    let full := fun (s : State) => { s with slots := Vector.replicate 4 ⟨1, .inFlight (.laneAdd 7) 1 2⟩ }
    let withdrawn := tied 2 (.withdrawn 1) .none (up 0 calm)
    let removing := sending.modLane 2 fun x => { x with op := some ⟨.remove, 0, 1, 1⟩ }
    (s.Admits .localSide 0x0A false ∧ s.Admits .localSide 0x0B false ∧ (4 : Byte).toNat = (4 : LaneIx).val ∧
      8 ≤ (8 : Byte).toNat ∧ 4 ≤ (4 : Byte).toNat) ∧
    (s.chooseSlot = some 0 ∧ (full s).chooseSlot = none ∧ (s.lane 4).op = none ∧ s.inDisableSet 4 = false ∧
      (s.group 1).tx = .up ∧ (s.lane 4).inService = true ∧ (s.lane 4).diag = .none ∧ (s.lane 4).role = .off ∧
      (s.lane 4).assoc.group? = none) ∧
    (sending.chooseSlot = some 0 ∧ (full sending).chooseSlot = none ∧ (sending.lane 2).op = none ∧
      sending.inDisableSet 2 = false ∧ (sending.lane 2).role = .active 1 ∧ sending.removing 2 = false) ∧
    ((withdrawn.lane 2).role = .withdrawn 1 ∧ withdrawn.chooseSlot = some 0 ∧ (withdrawn.lane 2).op = none) ∧
    ((operating.lane 2).role = .probation 1 ∧ (operating.lane 2).op = some ⟨.add, 0, 1, 1⟩ ∧
      operating.slot 0 = ⟨1, .inFlight (.laneAdd 2) 0 500000⟩ ∧ operating.inDisableSet 2 = false ∧
      operating.removing 2 = false) ∧
    operating.inDisableSet 3 = true ∧ removing.removing 2 = true := by unfold State.Admits; decide

/-- Groups with lanes and without, one whose add is aborted, one already in DISABLING, and no slot. -/
theorem witness_GroupDisableJudged :
    (sending.Admits .localSide 0x08 false ∧ operating.Admits .localSide 0x08 false ∧ (1 : Byte).toNat = (1 : GroupIx).val ∧
      4 ≤ (4 : Byte).toNat) ∧
    ((sending.group 1).tx = .up ∧ sending.chooseSlot = some 0 ∧ (sending.slot 0).body = .empty ∧ sending.disableSet 1 ≠ 0 ∧
      (∀ l, sending.opOn 1 l = false)) ∧
    ((up 0 calm).disableSet 1 = 0 ∧ ((up 0 calm).group 1).tx = .up) ∧
    ((operating.group 1).tx = .up ∧ operating.opOn 1 2 = true ∧ operating.chooseSlot = some 2 ∧
      (operating.slot 2).body = .empty ∧ (operating.lane 2).op = some ⟨.add, 0, 1, 1⟩ ∧
      operating.slot 0 = ⟨1, .inFlight (.laneAdd 2) 0 500000⟩) ∧
    ((operating.group 2).tx ≠ .forming ∧ (operating.group 2).tx ≠ .up) ∧
    ({ sending with slots := Vector.replicate 4 ⟨1, .inFlight (.laneAdd 7) 1 2⟩ } : State).chooseSlot = none := by
  unfold State.Admits; decide

theorem witness_OperationsTimeOut :
    let s := fun (op : OpKind) (role : Role) (p : Option LaneOp) =>
      ((sending.modLane 2 fun x => { x with role := role, op := p }).modSlot 3 fun _ => ⟨4095, .inFlight op 1 2⟩)
    let a := s (.laneAdd 2) (.probation 1) (some ⟨.add, 3, 4095, 1⟩)
    let r := s (.laneRemove 2) .off (some ⟨.remove, 3, 4095, 1⟩)
    let q := s (.laneRemove 2) (.draining 1) (some ⟨.remove, 3, 4095, 1⟩)
    let g := (s (.groupDisable 1) (.draining 1) none).modGroup 1 fun x => { x with disable := some ⟨3, 4095, 4, false⟩ }
    ((a.slot 3).gen = 4095 ∧ (a.slot 3).body = .inFlight (.laneAdd 2) 1 2 ∧
      (a.lane 2).op = some ⟨.add, 3, 4095, 1⟩ ∧ (a.lane 2).role = .probation 1) ∧
    ((r.slot 3).body = .inFlight (.laneRemove 2) 1 2 ∧ (r.lane 2).op = some ⟨.remove, 3, 4095, 1⟩ ∧
      (r.lane 2).role = .off ∧ (q.lane 2).role = .draining 1) ∧
    ((g.slot 3).body = .inFlight (.groupDisable 1) 1 2 ∧ (g.group 1).disable = some ⟨3, 4095, 4, false⟩ ∧
      inSet 4 2 = true) ∧ (calm.slot 3).body = .empty := by decide

theorem witness_RemoteAccessJudged :
    let r : FrameRun := ⟨calm, [], false, false⟩
    r.stopped = false ∧ r.carriesReset = false ∧ accessAllows .remoteSide r.part.dev.remoteAccess 0x01 true = false ∧
      accessAllows .localSide r.part.dev.remoteAccess 0x10 true = true := by decide

/-- A malformed frame with 17 entries, one of one ECHO, and one of two; entries that the form refuses, that the response has
room for, up to its last byte, and that it has none for. -/
theorem witness_EngineTakesFrames :
    let f : List Byte := [1, 1, 0x80, 0, 5, 1, 0, 0] ++ entryBytes [(0x01, [9])] ++ []
    let s := { calm with requestQueue := [⟨.localSide, f⟩] }
    let r := fun (n : Nat) => (⟨calm, List.replicate n 0, false, false⟩ : FrameRun)
    (s.engine = .idle ∧ s.requestQueue = [⟨.localSide, f⟩] ∧ s.mgmtOut.length < 8 ∧
      16 < (byteAt [1, 1, 0, 0, 0, 17] 5).toNat ∧ parseEntries 1 ([1, 1, 0, 0, 0, 1, 0, 0].drop 8) = none) ∧
    parseEntries 2 (entryBytes [(0x01, [9]), (0x06, [0])]) = some [(0x01, [9]), (0x06, [0])] ∧
    ((r 0).stopped = false ∧ (r 0).carriesReset = false ∧
      accessAllows .localSide (r 0).part.dev.remoteAccess 0x06 true = true) ∧
    parseReq 0x06 [] = none ∧ (parseReq 0x06 [0]).isSome = true ∧
    8 + (r 757).built.length + 4 + 255 + 4 * 0 = 1024 ∧ 1024 < 8 + (r 758).built.length + 4 + 255 + 4 * 0 := by
  decide +kernel

theorem witness_ResponsesReoffered :
    ({ calm with engine := .waiting ⟨.remoteSide, [2], false⟩ } : State).engine = .waiting ⟨.remoteSide, [2], false⟩ := rfl

theorem witness_ReadingRequestsAnswered : calm.Admits .localSide 0x01 false ∧ calm.Admits .localSide 0x04 true ∧
    (7 : Byte).toNat = (7 : LaneIx).val ∧ 8 ≤ (8 : Byte).toNat := by unfold State.Admits; decide

theorem witness_SettingsWritten : calm.Admits .localSide 0x03 false ∧ (3 : Byte).toNat = (3 : GroupIx).val ∧
    (63 : Byte).toNat = (63 : StreamIx).val := by unfold State.Admits; decide

theorem witness_LaneServiceTaken : calm.Admits .localSide 0x0C false ∧ (calm.lane 7).inService = false ∧
    (calm.lane 7).rx = .down ∧ ((inService 7 .aligned calm).lane 7).inService = true ∧
    (inService 7 .aligned calm).inDisableSet 7 = false := by unfold State.Admits; decide

theorem witness_DiagnosticModeSet : calm.Admits .localSide 0x0D false ∧ (3 : Byte).toNat = Diag.test.code := by
  unfold State.Admits; decide

/-- Two records wait; 1 is old, 2 the newest, 3 beyond; with and without lost posts. -/
theorem witness_RecordsAcknowledged :
    let s : State := { calm with notes := [⟨1, .overflow 0, 0, true⟩, ⟨2, .overflow 0, 0, false⟩], nextNote := 3 }
    (s.Admits .localSide 0x0F false ∧ s.NotesLawful ∧ s.tally = 0 ∧ ({ s with tally := 7 } : State).NotesLawful) ∧
    (Machine.dist s.newestNote 1 = 4294967295 ∧ Machine.dist s.newestNote 2 = 0 ∧ Machine.dist s.newestNote 3 = 1) ∧
    (s.notes.filter fun r => decide (1 ≤ Machine.dist 1 r.seq ∧ Machine.dist 1 r.seq < 2147483648)).length = 1 := by
  simp only [State.Admits, State.NotesLawful, consecutive]; decide +kernel

/-- A resend that pends; nine unsent records of which eight make a frame, behind a sent one; a full output queue; and the retry
timer running and stopped. -/
theorem witness_NotificationFramesOffered :
    let note := fun (sent : Bool) => (⟨1, .overflow 0, 0, sent⟩ : Note)
    let s := { calm with notes := [note true] ++ List.replicate 9 (note false) }
    let first := [note true] ++ List.replicate 8 (note false)
    let u := { s with retry := some 200000, resendPending := true }
    (s.mgmtOut.length < 8 ∧ s.resendPending = false ∧ s.notes = first ++ [note false] ∧
      (first.filter fun r => !r.sent).length = 8 ∧ s.retry = none) ∧
    (u.resendPending = true ∧ (u.notes.filter fun r => r.sent).take 8 ≠ [] ∧ u.retry = some 200000) ∧
    8 ≤ ({ calm with mgmtOut := List.replicate 8 ⟨[], false⟩ } : State).mgmtOut.length ∧ calm.notes = [] := by decide

theorem witness_DeviceResetExecuted : calm.engine = .idle ∧ calm.resetAsserted = false := ⟨rfl, rfl⟩

theorem witness_ResetsTakeEffect :
    ({ calm with egressBusy := some .management, mgmtOut := [⟨[], true⟩] } : State).resetResponseInFlight = true := rfl

theorem witness_ReceiveContextsAfterReset : ∃ t, AfterReset receiving t := ⟨_, .inl rfl⟩

end Sys2Proof.Tests
end

section
/-! The hole timer (R48) and the receive contexts after a reset (R63). -/

namespace Sys2Proof.Machine

/-! ### What a resolution leaves of the clock and the hole timers

The hole timer is set at the end of a resolution alone, so no delivery and no skip on the way there may move it, nor the
timebase a new expiry counts from. -/

/-- The timebase and every group's hole timer. -/
def State.holeClock (s : State) : Time × (GroupIx → Option HoleTimer) := (s.timebase, fun g => (s.group g).hole)

theorem State.holeClock_eq_iff {s t : State} :
    t.holeClock = s.holeClock ↔ t.timebase = s.timebase ∧ ∀ g, (t.group g).hole = (s.group g).hole := by
  simp [State.holeClock, funext_iff]

theorem State.modGroup_holeClock (s : State) (g : GroupIx) {f : GroupState → GroupState}
    (hf : ∀ x, (f x).hole = x.hole) : (s.modGroup g f).holeClock = s.holeClock := by
  refine State.holeClock_eq_iff.2 ⟨rfl, fun h => ?_⟩
  by_cases e : h = g
  · simp [e, hf]
  · simp [e]

@[simp] theorem State.countGroup_holeClock (s : State) (g : GroupIx) (c : GroupCtr) (n : Nat) :
    (s.countGroup g c n).holeClock = s.holeClock := s.modGroup_holeClock g fun _ => rfl

@[simp] theorem State.countStream_holeClock (s : State) (x : StreamIx) (c : StreamCtr) (n : Nat) :
    (s.countStream x c n).holeClock = s.holeClock := rfl

@[simp] theorem State.countDev_holeClock (s : State) (c : DevCtr) (n : Nat) :
    (s.countDev c n).holeClock = s.holeClock := rfl

/-! #### Pool, local egress and class queues -/

@[simp] theorem releaseBuffers_holeClock (g : GroupIx) (n : Nat) (s : State) :
    (releaseBuffers g n s).holeClock = s.holeClock :=
  (State.countGroup_holeClock _ g _ _).trans (State.modGroup_holeClock _ g fun _ => rfl)

@[simp] theorem arbitrate_holeClock (s : State) : (arbitrate s).holeClock = s.holeClock := by
  simp [State.holeClock_eq_iff]

@[simp] theorem mgmtJoin_holeClock (f : MgmtFrame) (s : State) : (mgmtJoin f s).holeClock = s.holeClock :=
  arbitrate_holeClock _

@[simp] theorem egressJoin_holeClock (g : GroupIx) (f : EgressFrame) (s : State) :
    (egressJoin g f s).holeClock = s.holeClock := by
  simp [egressJoin, State.modGroup_holeClock]

@[simp] theorem judgeHold_holeClock (g : GroupIx) (s : State) : (judgeHold g s).holeClock = s.holeClock := by
  rcases judgeHold_cases g s with e | e | e <;> rw [e] <;> simp [State.modGroup_holeClock]

@[simp] theorem enqueueTx_holeClock (g : GroupIx) (c : Cls) (x : StreamIx) (payload : List Byte) (s : State) :
    (enqueueTx g c x payload s).holeClock = s.holeClock := by
  simp only [enqueueTx, judgeHold_holeClock, State.countGroup_holeClock]
  exact State.modGroup_holeClock _ g fun _ => by cases c <;> rfl

@[simp] theorem admitFrame_holeClock (g : GroupIx) (c : Cls) (x : StreamIx) (payload : List Byte) (s : State) :
    (admitFrame g c x payload s).holeClock = s.holeClock := by
  simp [admitFrame]

/-! #### A frame that the assembler hands on (R69, R145, R146) -/

@[simp] theorem remoteRequest_holeClock (frame : List Byte) (s : State) :
    (remoteRequest frame s).holeClock = s.holeClock := by
  unfold remoteRequest
  dsimp only
  split
  · rfl
  · split <;> simp

@[simp] theorem relayUp_holeClock (frame : List Byte) (s : State) :
    (bondIntake.relayUp frame s).holeClock = s.holeClock := by
  unfold bondIntake.relayUp
  split <;> simp

@[simp] theorem bondIntake_holeClock (frame : List Byte) (s : State) : (bondIntake frame s).holeClock = s.holeClock := by
  unfold bondIntake
  split
  · rfl
  · split <;> simp

@[simp] theorem handOnManagement_holeClock (g : GroupIx) (n : Nat) (frame : List Byte) (s : State) :
    (handOnManagement g n frame s).holeClock = s.holeClock := by
  unfold handOnManagement
  dsimp only
  split <;> simp

@[simp] theorem handOnData_holeClock (g : GroupIx) (f : EgressFrame) (s : State) :
    (handOnData g f s).holeClock = s.holeClock := by
  unfold handOnData
  split <;> simp [State.modGroup_holeClock]

/-! #### The Frame Assembler (R65 to R68) -/

@[simp] theorem judgeFrame_holeClock (g : GroupIx) (p : Building) (s : State) :
    (judgeFrame g p s).holeClock = s.holeClock := by
  unfold judgeFrame
  dsimp only
  split_ifs <;> simp

@[simp] theorem setBuilding_holeClock (g : GroupIx) (b : Option Building) (s : State) :
    (setBuilding g b s).holeClock = s.holeClock := s.modGroup_holeClock g fun _ => rfl

@[simp] theorem setAwaiting_holeClock (g : GroupIx) (b : Bool) (s : State) :
    (setAwaiting g b s).holeClock = s.holeClock := s.modGroup_holeClock g fun _ => rfl

@[simp] theorem extendFrame_holeClock (g : GroupIx) (p : Building) (last : Bool) (s : State) :
    (extendFrame g p last s).holeClock = s.holeClock := by
  cases last <;> simp [extendFrame]

@[simp] theorem breakFrame_holeClock (g : GroupIx) (p : Building) (extra : Nat) (s : State) :
    (breakFrame g p extra s).holeClock = s.holeClock := by
  simp [breakFrame]

@[simp] theorem assembleFirst_holeClock (g : GroupIx) (d : DataSeg) (s : State) :
    (assembleFirst g d s).holeClock = s.holeClock := by
  cases h : (s.group g).building <;> simp [assembleFirst, h]

@[simp] theorem assembleRest_holeClock (g : GroupIx) (d : DataSeg) (s : State) :
    (assembleRest g d s).holeClock = s.holeClock := by
  unfold assembleRest
  split
  · simp
  · split
    · simp
    · split <;> simp

@[simp] theorem assemble_holeClock (g : GroupIx) (d : DataSeg) (s : State) :
    (assemble g d s).holeClock = s.holeClock := by
  unfold assemble
  split <;> simp

@[simp] theorem lossNotice_holeClock (g : GroupIx) (s : State) : (lossNotice g s).holeClock = s.holeClock := by
  cases h : (s.group g).building <;> simp [lossNotice, h]

/-! #### The steps of a resolution (R45, R47, R50) -/

@[simp] theorem deliver_holeClock (g : GroupIx) (d : DataSeg) (s : State) :
    (deliver g d s).holeClock = s.holeClock := by
  simp [deliver, State.modGroup_holeClock]

@[simp] theorem skipFast_holeClock (g : GroupIx) (e : Seq) (s : State) :
    (skipFast g e s).holeClock = s.holeClock := by
  simp [skipFast, State.modGroup_holeClock]

theorem resolveOnce_holeClock {g : GroupIx} {s t : State} (h : resolveOnce g s = some t) :
    t.holeClock = s.holeClock := by
  obtain ⟨-, e, -, ⟨d, -, -, -, rfl⟩ | ⟨-, -, rfl⟩⟩ := resolveOnce_cases h
  · exact deliver_holeClock g d s
  · exact skipFast_holeClock g e s

theorem resolveUpTo_holeClock (n : Nat) (g : GroupIx) (s : State) : (resolveUpTo n g s).holeClock = s.holeClock :=
  resolveUpTo_keeps (P := fun t => t.holeClock = s.holeClock) n rfl fun _ _ hu ht => (resolveOnce_holeClock ht).trans hu

/-! ### The timer the end of a resolution sets (R48) -/

theorem State.waitsAt_of_not_live {s : State} {g : GroupIx} (h : (s.group g).ctx.live = false) : s.waitsAt g = none := by
  simp [State.waitsAt, h]

theorem State.waitsAt_of_live {s : State} {g : GroupIx} (h : (s.group g).ctx.live = true) :
    s.waitsAt g = (s.group g).expected := by
  simp [State.waitsAt, h]

/-- The hole timer alone changes in the context. -/
theorem setHoleTimer_group (g : GroupIx) (s : State) :
    (setHoleTimer g s).group g = { s.group g with hole := ((setHoleTimer g s).group g).hole } := by
  obtain ⟨timer, e⟩ := setHoleTimer_cases g s
  simp [e]

theorem setHoleTimer_ctx (g : GroupIx) (s : State) : ((setHoleTimer g s).group g).ctx = (s.group g).ctx := by
  rw [setHoleTimer_group]

theorem setHoleTimer_expected (g : GroupIx) (s : State) :
    ((setHoleTimer g s).group g).expected = (s.group g).expected := by
  rw [setHoleTimer_group]

theorem setHoleTimer_store (g : GroupIx) (s : State) : ((setHoleTimer g s).group g).store = (s.group g).store := by
  rw [setHoleTimer_group]

theorem setHoleTimer_holeTime (g : GroupIx) (s : State) :
    ((setHoleTimer g s).group g).holeTime = (s.group g).holeTime := by
  rw [setHoleTimer_group]

section
variable {g : GroupIx} {s : State} {e : Seq}

theorem setHoleTimer_hole_of_not_waiting (h : s.waitsAt g = none) : ((setHoleTimer g s).group g).hole = none := by
  simp [setHoleTimer, h]

theorem setHoleTimer_hole_of_no_hole (h : s.waitsAt g = some e)
    (hs : stored (s.group g).store e = true ∨ (s.group g).store = []) : ((setHoleTimer g s).group g).hole = none := by
  simp [setHoleTimer, h, hs]

/-- With a hole the timer runs on where it was started at this expected sequence, and is started afresh otherwise. -/
theorem setHoleTimer_hole_of_hole (h : s.waitsAt g = some e)
    (hs : ¬(stored (s.group g).store e = true ∨ (s.group g).store = [])) :
    ((setHoleTimer g s).group g).hole =
      if (s.group g).hole.any (fun r => decide (r.startedAt = e)) then (s.group g).hole
      else some ⟨s.after (s.group g).holeTime, e⟩ := by
  cases hh : (s.group g).hole with
  | none => simp [setHoleTimer, h, hs, hh]
  | some r => by_cases hr : r.startedAt = e <;> simp [setHoleTimer, h, hs, hh, hr]
end

/-! ### RESYNC and DISABLED (R58, R60) -/

theorem clearSequences_hole (g : GroupIx) (s : State) : ((clearSequences g s).group g).hole = none := by
  simp [clearSequences]

theorem setCtx_hole (g : GroupIx) (new : CtxState) (s : State) : ((setCtx g new s).group g).hole = (s.group g).hole := by
  simp [(setCtx_notesOnly g new s).group_eq]

theorem enterResync_hole (g : GroupIx) (s : State) : ((enterResync g s).group g).hole = none :=
  (setCtx_hole g .resync _).trans (clearSequences_hole g _)

theorem enterDisabled_hole (g : GroupIx) (s : State) : ((enterDisabled g s).group g).hole = none :=
  (setCtx_hole g .disabled _).trans (clearSequences_hole g _)

/-- A resolution is the setting of the timer in a state whose clock and timer stand as before it. -/
theorem resolve_eq_setHoleTimer (g : GroupIx) (s : State) :
    ∃ u, resolve g s = setHoleTimer g u ∧ u.timebase = s.timebase ∧ (u.group g).hole = (s.group g).hole := by
  obtain ⟨htime, hhole⟩ :=
    State.holeClock_eq_iff.1 (resolveUpTo_holeClock (65536 + (s.group g).store.length) g s)
  exact ⟨_, rfl, htime, hhole g⟩

/-- Settles O31: no step of a resolution moves a hole timer or the timebase, so its end judges the timer as it stood
before. -/
theorem holeTimerSet : Obligations.HoleTimerSet := by
  unfold Obligations.HoleTimerSet
  intro s g
  obtain ⟨u, hu, htime, hhole⟩ := resolve_eq_setHoleTimer g s
  simp only [hu, setHoleTimer_ctx, setHoleTimer_expected, setHoleTimer_store, setHoleTimer_holeTime]
  refine ⟨fun hl => ?_, fun e hl he => ?_, enterResync_hole g s, enterDisabled_hole g s⟩
  · exact setHoleTimer_hole_of_not_waiting (State.waitsAt_of_not_live hl)
  · have hw : u.waitsAt g = some e := (State.waitsAt_of_live hl).trans he
    split
    · next hs => exact setHoleTimer_hole_of_no_hole hw hs
    · next hs =>
      rw [setHoleTimer_hole_of_hole hw hs, hhole, State.after, htime]
      cases (s.group g).hole with
      | none => simp
      | some r => simp

/-! ### The part after a reset (R63, R173, R180) -/

theorem egressEnds_of_resetResponse {s : State} (h : s.resetResponseInFlight = true) :
    egressEnds s = endReset .requested s := by
  have hb : s.egressBusy = some .management := by
    unfold State.resetResponseInFlight at h
    split at h
    · assumption
    · cases h
  simp [egressEnds, hb, h]

/-- A reset makes the part hold its reset values; where it also ends, RESET-DONE is posted. -/
theorem afterReset_cases {s t : State} (h : AfterReset s t) :
    ∃ cause, t = { resetPart cause s with resetAsserted := true } ∨ t = endReset cause s := by
  rcases h with h | ⟨ha, h⟩ | ⟨hr, h | h⟩
  · exact ⟨.powerOn, .inl (Host.Outcome.next.inj h).symm⟩
  · rw [exec_resetInputRelease, if_pos ha] at h
    exact ⟨.powerOn, .inr (Host.Outcome.next.inj h).symm⟩
  · rw [exec_deviceResetEffect, if_pos hr] at h
    exact ⟨.requested, .inr (Host.Outcome.next.inj h).symm⟩
  · rw [exec_egressTransmissionEnd, egressEnds_of_resetResponse hr] at h
    exact ⟨.requested, .inr (Host.Outcome.next.inj h).symm⟩

theorem resetPart_group (cause : ResetCause) (s : State) (g : GroupIx) :
    (resetPart cause s).group g = GroupState.initial := by
  simp [resetPart, State.group, State.held]

theorem resetPart_lane (cause : ResetCause) (s : State) (l : LaneIx) :
    (resetPart cause s).lane l = { LaneState.initial with cdPresent := (s.lane l).cdPresent } := by
  simp [resetPart, State.lane]

theorem endReset_group (cause : ResetCause) (s : State) (g : GroupIx) :
    (endReset cause s).group g = GroupState.initial :=
  (post_group _ _ g).trans (resetPart_group cause s g)

theorem endReset_lane (cause : ResetCause) (s : State) (l : LaneIx) :
    (endReset cause s).lane l = { LaneState.initial with cdPresent := (s.lane l).cdPresent } :=
  (post_lane _ _ l).trans (resetPart_lane cause s l)

/-- The queue a reset empties holds the RESET-DONE of its end alone. -/
theorem endReset_notes (cause : ResetCause) (s : State) :
    (endReset cause s).notes.map Note.body = [.resetDone cause] := by
  have hroom : ({ resetPart cause s with resetAsserted := false } : State).HasRoom 1 :=
    ⟨by simp [resetPart, State.held, Config.noteQueueMax], rfl⟩
  exact (post_posted (.resetDone cause) hroom).1

section
variable {s t : State}

theorem afterReset_group (h : AfterReset s t) (g : GroupIx) : t.group g = GroupState.initial := by
  obtain ⟨cause, rfl | rfl⟩ := afterReset_cases h
  · exact resetPart_group cause s g
  · exact endReset_group cause s g

theorem afterReset_lane (h : AfterReset s t) (l : LaneIx) :
    t.lane l = { LaneState.initial with cdPresent := (s.lane l).cdPresent } := by
  obtain ⟨cause, rfl | rfl⟩ := afterReset_cases h
  · exact resetPart_lane cause s l
  · exact endReset_lane cause s l

theorem afterReset_notes (h : AfterReset s t) : ∀ r ∈ t.notes, ∃ cause, r.body = .resetDone cause := by
  obtain ⟨cause, rfl | rfl⟩ := afterReset_cases h
  · exact fun r hr => absurd hr List.not_mem_nil
  · intro r hr
    have hb : r.body ∈ (endReset cause s).notes.map Note.body := List.mem_map_of_mem hr
    rw [endReset_notes] at hb
    exact ⟨cause, List.mem_singleton.1 hb⟩
end

/-- No counter of a group has risen at reset (R63). -/
theorem GroupState.initial_ctr (c : GroupCtr) : GroupState.initial.ctr[c.ix] = 0 := by
  simp [GroupState.initial]

/-- Settles O60: a reset gives every group and every lane its initial values, and RESET-DONE is its one record. -/
theorem receiveContextsAfterReset : Obligations.ReceiveContextsAfterReset := by
  unfold Obligations.ReceiveContextsAfterReset
  intro s t h
  refine ⟨fun g => ?_, afterReset_notes h⟩
  have hlane : ∀ l, (t.lane l).assoc = .none ∧ t.isMember g l = false := fun l => by
    simp [State.isMember, afterReset_lane h l, LaneState.initial, Assoc.memberOf]
  have hcount : ∀ c : GroupCtr, t.groupCount g c = 0 := fun c => by
    rw [State.groupCount, afterReset_group h g, GroupState.initial_ctr]
  rw [afterReset_group h g]
  exact ⟨rfl, rfl, rfl, rfl, rfl, hlane, hcount, rfl, rfl, rfl, rfl, rfl, rfl, rfl, rfl, rfl⟩

end Sys2Proof.Machine
end

section
/-! A segment that joins a partial frame (R66). -/

namespace Sys2Proof.Machine

/-! ### Buffers that go back (R72) -/

/-- A release changes the free count, and in its group the buffers held and the counters. -/
theorem releaseBuffers_eq (g : GroupIx) (n : Nat) (s : State) :
    releaseBuffers g n s =
      ({ s with poolFree := s.poolFree + min n (s.group g).heldCount } : State).modGroup g fun x =>
        { x with
          heldCount := x.heldCount - min n (s.group g).heldCount
          ctr := raiseCounter x.ctr GroupCtr.buffersReturned.ix (min n (s.group g).heldCount) } := by
  simp only [releaseBuffers, State.countGroup, State.modGroup_modGroup]

/-- The pool's free count is no part of a group. -/
theorem State.modGroup_setPoolFree (s : State) (g : GroupIx) (f : GroupState → GroupState) (n : Nat) :
    ({ s.modGroup g f with poolFree := n } : State) = ({ s with poolFree := n } : State).modGroup g f := rfl

/-! ### The broken frame (R66) -/

/-- The assembler's fields, the buffers held and the counters of a group are separate, so the partial frame may leave and
awaiting first be set before the buffers go back. -/
theorem setAwaiting_breakFrame (g : GroupIx) (p : Building) (extra : Nat) (s : State) :
    setAwaiting g true (breakFrame g p extra s) =
      (releaseBuffers g (p.chain.length + extra)
        (s.modGroup g fun x => { x with building := none, awaitingFirst := true })).countGroup g .brokenFrame := by
  simp only [setAwaiting, breakFrame, setBuilding, releaseBuffers_eq, State.countGroup, State.modGroup_poolFree,
    State.modGroup_setPoolFree, State.modGroup_modGroup, State.group_modGroup, ↓reduceIte]

/-! ### The check of a joining segment (R66) -/

/-- A segment without FIRST that finds a partial frame breaks it or extends it. -/
theorem assemble_joining {s : State} {g : GroupIx} {d : DataSeg} {p : Building} (hd : d.first = false)
    (ha : (s.group g).awaitingFirst = false) (hp : (s.group g).building = some p) :
    assemble g d s =
      if d.stream ≠ p.stream ∨ Config.bondedMax < chainLength p.chain + d.payload.length then
        setAwaiting g true (breakFrame g p 1 s)
      else extendFrame g ⟨p.stream, p.chain ++ [d.payload]⟩ d.last s := by
  simp only [assemble, assembleRest, hd, ha, hp, Bool.false_eq_true, ↓reduceIte]

/-- Settles O33, by the branches of R66: the segment breaks the partial frame, or joins it and completes it or not. -/
theorem joiningSegmentChecked : Obligations.JoiningSegmentChecked := by
  unfold Obligations.JoiningSegmentChecked
  intro s g d p hd ha hp
  rw [assemble_joining hd ha hp, Config.bondedMax, chainLength]
  split
  · exact setAwaiting_breakFrame g p 1 s
  · cases d.last <;> rfl

end Sys2Proof.Machine
end

section
/-! The step (log 1, log 2), the lane timers (R116, R134), the hole timer's expiry (R49) and the arbiter's choice (R75, R76). -/

namespace Sys2Proof.Machine

/- The kernel checks the theorems one after another. -/
set_option Elab.async false

/-! ### A step -/

/-- Settles O1: `step` matches on the queue of waiting commands. -/
theorem stepTakesFirstCommand : Obligations.StepTakesFirstCommand := by
  unfold Obligations.StepTakesFirstCommand
  intro s c rest h
  simp [step, h]

theorem State.ownEvent_of_reset {s : State} (h : s.resetAsserted = true) : s.ownEvent = none := by
  simp [State.ownEvent, h]

theorem State.ownEvent_of_none_ready {s : State} (h : ∀ c ∈ ownEvents, s.ready c = false) : s.ownEvent = none := by
  simpa [State.ownEvent] using fun _ => h

/-- Settles O2, by the three things an idle step can do. -/
theorem stepWithoutCommands : Obligations.StepWithoutCommands := by
  unfold Obligations.StepWithoutCommands
  intro s hp
  refine ⟨fun hr => ?_, fun c _ hc => ⟨(ownEvent_ready hc).2, ?_⟩, fun hr hn => ?_⟩
  · simp [step, hp, State.ownEvent_of_reset hr, tick, hr]
  · simp [step, hp, hc]
  · simp [step, hp, State.ownEvent_of_none_ready hn, tick, hr]

/-! ### The timers of a lane -/

theorem markerExpires_of_running {s : State} {l : LaneIx} {e : Time} (h : (s.lane l).markerTimer = some e) :
    markerExpires l s =
      let u := (s.passTo e).modLane l fun x =>
        { x with markerTimer := some (e + BitVec.ofNat 32 s.dev.markerInterval) }
      if 7 ≤ (s.lane l).debt then u.countLane l .markerStarvation
      else u.modLane l fun x => { x with debt := x.debt + 1 } := by
  unfold markerExpires startMarkerTimer
  rw [h]
  dsimp only
  by_cases hd : (s.lane l).debt < 7
  · rw [if_pos hd, if_neg (by omega), State.modLane_modLane, State.modLane_modLane]
    rfl
  · rw [if_neg hd, if_pos (by omega), State.countLane, State.countLane, State.modLane_modLane, State.modLane_modLane]
    rfl

/-- Settles O40, by whether each of the two timers runs. -/
theorem laneTimersExpire : Obligations.LaneTimersExpire := by
  unfold Obligations.LaneTimersExpire
  intro s l
  refine ⟨fun h => ?_, fun e h => ?_, fun h => ?_, fun e h => ?_⟩
  · simp [exec_markerTimerExpiry, markerExpires, h]
  · rw [exec_markerTimerExpiry, markerExpires_of_running h]
  · simp [exec_skewHoldExpiry, skewHoldExpires, h]
  · simp [exec_skewHoldExpiry, skewHoldExpires, h]

/-! ### The hole timer's expiry -/

/-- Counters of a group are raised in any order (R171). -/
theorem State.countGroup_comm (s : State) (g : GroupIx) (c d : GroupCtr) (m n : Nat) :
    (s.countGroup g c m).countGroup g d n = (s.countGroup g d n).countGroup g c m := by
  simp only [State.countGroup, State.modGroup_modGroup]
  exact State.modGroup_congr (by simp only [raiseCounter_comm _ c.ix])

/-- Settles O29: the expiry counts the skip and gives one loss notice before the resolution. -/
theorem holeTimerExpires : Obligations.HoleTimerExpires := by
  unfold Obligations.HoleTimerExpires
  intro s g
  refine ⟨fun h => by simp [exec_holeTimerExpiry, holeExpires, h], fun h e d rest hh hl he hs => ?_⟩
  have hw : ((s.passTo h.expiry).modGroup g fun x => { x with hole := none }).waitsAt g = some e := by
    simp [State.waitsAt, hl, he]
  have hst : (((s.passTo h.expiry).modGroup g fun x => { x with hole := none }).group g).store = d :: rest := by
    simp [hs]
  rw [exec_holeTimerExpiry, holeExpires, hh]
  simp only [hw, hst]
  rw [State.countGroup_comm, State.modGroup_modGroup]

/-! ### The arbiter's choice -/

/-- The place of a group in the order the arbiter looks at them (R75). -/
theorem serveOrder_getElem? (k g : GroupIx) : (serveOrder k)[(g - k - 1).val]? = some g := by
  revert k g
  decide

theorem serveOrder_place (k : GroupIx) (j : Fin 4) (h : GroupIx) (e : (serveOrder k)[j.val]? = some h) :
    (h - k - 1).val = j.val := by
  revert k j h
  decide

/-- The group found is the first in turn that meets the condition. -/
theorem serveOrder_find {p : GroupIx → Bool} {k g : GroupIx} (hg : p g = true)
    (hmin : ∀ h, p h = true → (g - k - 1).val ≤ (h - k - 1).val) : (serveOrder k).find? p = some g := by
  have hlt : (g - k - 1).val < (serveOrder k).length := (g - k - 1).isLt
  have hplace : (serveOrder k)[(g - k - 1).val] = g :=
    Option.some.inj ((List.getElem?_eq_getElem hlt).symm.trans (serveOrder_getElem? k g))
  refine List.find?_eq_some_iff_getElem.2 ⟨hg, _, hlt, hplace, fun j hj => ?_⟩
  have hj4 : j < 4 := hj.trans (g - k - 1).isLt
  have hat : ((serveOrder k)[j] - k - 1).val = j := serveOrder_place k ⟨j, hj4⟩ _ (List.getElem?_eq_getElem (hj.trans hlt))
  by_contra hp
  have hle := hmin _ (by simpa using hp)
  exact absurd (hle.trans_eq hat) (Nat.not_le.2 hj)

section
variable {s : State} (hidle : s.egressBusy = none) (hrun : s.egressPause = false)
include hidle hrun

theorem arbitrate_of_mgmtOut (h : s.mgmtOut ≠ []) : arbitrate s = { s with egressBusy := some .management } := by
  simp [arbitrate, hidle, hrun, h]

theorem arbitrate_of_find {g : GroupIx} (hm : s.mgmtOut = [])
    (h : (serveOrder s.lastServed).find? (fun g => !(s.group g).egress.isEmpty) = some g) :
    arbitrate s = { s with egressBusy := some (.group g), lastServed := g } := by
  simp [arbitrate, hidle, hrun, hm, h]

theorem arbitrate_of_empty (hm : s.mgmtOut = []) (h : ∀ g, (s.group g).egress = []) : arbitrate s = s := by
  have : (serveOrder s.lastServed).find? (fun g => !(s.group g).egress.isEmpty) = none := by simp [h]
  simp only [arbitrate, hidle, hrun, hm, this]
  rfl
end

/-- Settles O36: the arbiter takes the first of its cases that applies at the boundary. -/
theorem arbiterChooses : Obligations.ArbiterChooses := by
  unfold Obligations.ArbiterChooses
  intro s
  dsimp only
  rw [exec_egressPauseRelease]
  split
  · next hb => exact congrArg _ (arbitrate_of_busy (.inl (Option.isSome_iff_ne_none.2 hb)))
  · next hb =>
    have hidle : s.egressBusy = none := by simpa using hb
    split
    · next hm => exact congrArg _ (arbitrate_of_mgmtOut hidle rfl hm)
    · next hm =>
      have hempty : s.mgmtOut = [] := by simpa using hm
      refine ⟨fun hn => congrArg _ (arbitrate_of_empty hidle rfl hempty hn), fun g hg hmin => ?_⟩
      have hfind : (serveOrder s.lastServed).find? (fun g => !(s.group g).egress.isEmpty) = some g :=
        serveOrder_find (by simpa using hg) fun h hh => hmin h (by simpa using hh)
      exact congrArg _ (arbitrate_of_find (s := { s with egressPause := false }) hidle rfl hempty hfind)

end Sys2Proof.Machine
end

section
/-! What the Notification Unit keeps: law L10, its capacities, and the records that join its queue; and updates of the rest of
the part, before or after which the unit may act alike. -/

namespace Sys2Proof.Machine

/- The kernel checks the theorems one after another. -/
set_option Elab.async false

/-! ### Law L10 under the unit's operations (R175) -/

theorem consecutive_append {next : BitVec 32} {notes : List Note} (h : consecutive next notes) (b : NoteBody) (u : Time)
    (sent : Bool) : consecutive (next + 1) (notes ++ [⟨next, b, u, sent⟩]) := by
  induction notes with
  | nil => exact ⟨by simp, trivial⟩
  | cons r rest ih =>
    obtain ⟨hr, hrest⟩ := h
    refine ⟨?_, ih hrest⟩
    have hl : (rest ++ [Note.mk next b u sent]).length + 1 = rest.length + 1 + 1 := by simp
    change r.seq = next + 1 - BitVec.ofNat 32 ((rest ++ [Note.mk next b u sent]).length + 1)
    rw [hr, hl, BitVec.ofNat_add (rest.length + 1) 1]
    bv_omega

/-- The newest records of consecutive ones are consecutive too. -/
theorem consecutive_of_suffix {next : BitVec 32} {notes kept : List Note} (h : consecutive next notes)
    (hk : kept <:+ notes) : consecutive next kept := by
  induction notes with
  | nil => rwa [List.suffix_nil.1 hk]
  | cons r rest ih =>
    rcases List.suffix_cons_iff.1 hk with rfl | hk
    · exact h
    · exact ih h.2 hk

theorem consecutive_of_seqs {next : BitVec 32} {a b : List Note} (h : consecutive next a)
    (e : b.map Note.seq = a.map Note.seq) : consecutive next b := by
  induction a generalizing b with
  | nil => cases b with
    | nil => exact h
    | cons => cases e
  | cons r rest ih => cases b with
    | nil => cases e
    | cons x more =>
      simp only [List.map_cons, List.cons.injEq] at e
      obtain ⟨hr, hrest⟩ := h
      have hl : more.length = rest.length := by simpa using congrArg List.length e.2
      exact ⟨by rw [e.1, hr, hl], ih hrest e.2⟩

theorem markSent_seqs (n : Nat) (notes : List Note) : (markSent n notes).map Note.seq = notes.map Note.seq := by
  induction n, notes using markSent.induct with
  | case1 notes => simp [markSent]
  | case2 n => simp [markSent]
  | case3 n r rest hr ih => simp [markSent, hr, ih]
  | case4 n r rest hr ih => simp [markSent, hr, ih]

theorem markSent_length (n : Nat) (notes : List Note) : (markSent n notes).length = notes.length := by
  simpa using congrArg List.length (markSent_seqs n notes)

/-- The sent records stand before the unsent ones. -/
def SentFirst (notes : List Note) : Prop := notes.Pairwise fun a b => b.sent = true → a.sent = true

theorem SentFirst.markSent {notes : List Note} (n : Nat) (h : SentFirst notes) : SentFirst (markSent n notes) := by
  induction n, notes using markSent.induct with
  | case1 notes => simpa [Machine.markSent] using h
  | case2 n => simpa [Machine.markSent] using h
  | case3 n r rest hr ih =>
    rw [Machine.markSent, if_pos hr]
    exact List.Pairwise.cons (fun _ _ _ => hr) (ih (List.Pairwise.of_cons h))
  | case4 n r rest hr ih =>
    rw [Machine.markSent, if_neg hr]
    exact List.Pairwise.cons (fun _ _ _ => rfl) (ih (List.Pairwise.of_cons h))

theorem SentFirst.append {notes : List Note} (h : SentFirst notes) (r : Note) (hr : r.sent = false) :
    SentFirst (notes ++ [r]) :=
  List.pairwise_append.2 ⟨h, List.pairwise_singleton _ _, fun a _ b hb hs => by simp_all⟩

/-! ### What the unit keeps -/

/-- The capacities of the notification queue, the tally and the management output queue (R74, R175, R176). -/
def State.UnitBounded (s : State) : Prop :=
  s.mgmtOut.length ≤ Config.mgmtOutMax ∧ s.notes.length ≤ Config.noteQueueMax ∧ s.tally ≤ 4294967295

/-- `t` is `s` but for what the Notification Unit does, which keeps law L10 and its capacities. -/
structure Noted (s t : State) : Prop where
  notesOnly : NotesOnly s t
  lawful : s.NotesLawful → t.NotesLawful
  bounded : s.UnitBounded → t.UnitBounded

theorem Noted.refl (s : State) : Noted s s := ⟨.refl s, id, id⟩

theorem Noted.trans {s t u : State} (h : Noted s t) (k : Noted t u) : Noted s u :=
  ⟨h.notesOnly.trans k.notesOnly, k.lawful ∘ h.lawful, k.bounded ∘ h.bounded⟩

theorem State.noteRoom_iff (s : State) : s.noteRoom = true ↔ s.notes.length < 32 := decide_eq_true_iff

theorem State.mgmtRoom_iff (s : State) : s.mgmtRoom = true ↔ s.mgmtOut.length < 8 := decide_eq_true_iff

theorem queueNote_noted {s : State} (b : NoteBody) (h : s.noteRoom = true) : Noted s (queueNote b s) := by
  have hlen : s.notes.length < 32 := s.noteRoom_iff.1 h
  have hl : (queueNote b s).notes.length ≤ Config.noteQueueMax := by
    simp only [queueNote, State.countDev_notes, List.length_append, List.length_singleton, Config.noteQueueMax]
    omega
  refine ⟨queueNote_notesOnly b s, fun ⟨_, hc, hp⟩ => ⟨hl, consecutive_append hc b _ _, SentFirst.append hp _ rfl⟩, ?_⟩
  exact fun ⟨hm, _, ht⟩ => ⟨hm, hl, ht⟩

theorem loseNote_noted (s : State) : Noted s (loseNote s) :=
  ⟨loseNote_notesOnly s, id, fun ⟨hm, hn, _⟩ => ⟨hm, hn, Nat.min_le_right _ _⟩⟩

theorem queueOverflow_noted {s : State} (h : s.noteRoom = true) : Noted s (queueOverflow s) :=
  (queueNote_noted _ h).trans ⟨.of_unit rfl, id, fun ⟨hm, hn, _⟩ => ⟨hm, hn, Nat.zero_le _⟩⟩

theorem startRetry_noted (s : State) : Noted s (startRetry s) := ⟨startRetry_notesOnly s, id, id⟩

/-- A frame of the unit's own joins the management output queue where it has room. -/
theorem mgmtJoin_noted {s : State} (bytes : List Byte) (h : s.mgmtRoom = true) : Noted s (mgmtJoin ⟨bytes, false⟩ s) := by
  have hlen : s.mgmtOut.length < 8 := s.mgmtRoom_iff.1 h
  obtain ⟨busy, e, -⟩ := mgmtJoin_cases ⟨bytes, false⟩ s
  refine ⟨mgmtJoin_notesOnly bytes s, e ▸ id, e ▸ fun ⟨_, hn, ht⟩ => ⟨?_, hn, ht⟩⟩
  simp only [List.length_append, List.length_singleton, Config.mgmtOutMax]
  omega

/-- A counter of R181 rises. -/
theorem countDev_noted (s : State) (c : DevCtr) (n : Nat) (hc : 15 ≤ c.ix.val) : Noted s (s.countDev c n) :=
  ⟨countDev_notesOnly s c n hc, id, id⟩

theorem takeFirstSend_noted {s : State} (h : s.mgmtRoom = true) : Noted s (takeFirstSend s) := by
  have hmark : Noted s { s with notes := markSent Config.notesPerFrame s.notes } :=
    ⟨.of_unit rfl,
      fun ⟨hl, hc, hp⟩ => ⟨(markSent_length _ _).trans_le hl, consecutive_of_seqs hc (markSent_seqs _ _), SentFirst.markSent _ hp⟩,
      fun ⟨hm, hn, ht⟩ => ⟨hm, (markSent_length _ _).trans_le hn, ht⟩⟩
  have hjoin := (hmark.trans (countDev_noted _ .notificationFramesQueued 1 (by decide))).trans
    (mgmtJoin_noted (notificationFrame s.unsentNotes) h)
  unfold takeFirstSend
  dsimp only
  split
  · exact hjoin.trans (startRetry_noted _)
  · exact hjoin

theorem takeResend_noted {s : State} (h : s.mgmtRoom = true) : Noted s (takeResend s) :=
  have hclear : Noted s { s with resendPending := false } := ⟨.of_unit rfl, id, id⟩
  (((hclear.trans (countDev_noted _ .resendFramesQueued 1 (by decide))).trans
    (countDev_noted _ .recordsResent _ (by decide))).trans (mgmtJoin_noted _ h)).trans (startRetry_noted _)

/-- All an offer can do (R177, R178). -/
theorem offerOnce_cases {s t : State} (h : offerOnce s = some t) :
    s.mgmtRoom = true ∧ (t = takeResend s ∨ t = takeFirstSend s) := by
  unfold offerOnce at h
  split at h
  · cases h
  · next hr =>
    refine ⟨by simpa using hr, ?_⟩
    split at h
    · exact .inl (Option.some.inj h).symm
    · split at h
      · exact .inr (Option.some.inj h).symm
      · cases h

theorem offerUpTo_noted (n : Nat) (s : State) : Noted s (offerUpTo n s) := by
  induction n generalizing s with
  | zero => exact .refl s
  | succ n ih =>
    unfold offerUpTo
    split
    · exact .refl s
    · next h =>
      obtain ⟨hr, rfl | rfl⟩ := offerOnce_cases h
      · exact (takeResend_noted hr).trans (ih _)
      · exact (takeFirstSend_noted hr).trans (ih _)

theorem offerNotes_noted (s : State) : Noted s (offerNotes s) := offerUpTo_noted _ s

theorem post_noted (b : NoteBody) (s : State) : Noted s (post b s) := by
  unfold post
  split
  · exact loseNote_noted s
  · next hr =>
    have hroom : s.noteRoom = true := by simpa using hr
    split
    · exact (queueNote_noted b hroom).trans (offerNotes_noted _)
    · refine (queueOverflow_noted hroom).trans ?_
      dsimp only
      split
      · next h => exact (queueNote_noted b h).trans (offerNotes_noted _)
      · exact (loseNote_noted _).trans (offerNotes_noted _)

/-- NOTIFY-ACK keeps law L10: it removes records at the old end alone, and room was freed where an OVERFLOW joins. -/
theorem acknowledge_noted (n : BitVec 32) (s : State) : Noted s (acknowledge n s) := by
  by_cases hb : s.notes.length ≤ Config.noteQueueMax
  swap
  · exact ⟨acknowledge_notesOnly n s, fun h => absurd h.1 hb, fun h => absurd h.2.1 hb⟩
  unfold acknowledge
  extract_lets kept removed s1 s2
  have hsuf : kept <:+ s.notes := List.dropWhile_suffix _
  have h1 : Noted s s1 :=
    Noted.trans (t := { s with notes := kept })
      ⟨.of_unit rfl,
        fun ⟨hl, hc, hp⟩ => ⟨hsuf.length_le.trans hl, consecutive_of_suffix hc hsuf, hp.sublist hsuf.sublist⟩,
        fun ⟨hm, hn, ht⟩ => ⟨hm, hsuf.length_le.trans hn, ht⟩⟩
      (countDev_noted _ .recordsAcknowledged _ (by decide))
  have h2 : Noted s s2 ∧ s2.notes = kept := by
    unfold s2
    split
    · exact ⟨h1.trans ⟨.of_unit rfl, id, id⟩, rfl⟩
    · split
      · exact ⟨h1.trans (startRetry_noted _), rfl⟩
      · exact ⟨h1, rfl⟩
  split
  · next hc =>
    have hroom : s2.noteRoom = true := by
      rw [s2.noteRoom_iff, h2.2]
      simp only [Bool.and_eq_true, decide_eq_true_eq, removed, Config.noteQueueMax] at hc hb
      omega
    exact (h2.1.trans (queueOverflow_noted hroom)).trans (offerNotes_noted _)
  · exact h2.1

/-! ### Records that join the queue -/

/-- `t` is `s` but for what the Notification Unit makes of the posts `bodies`, one after another. -/
structure Emits (bodies : List NoteBody) (s t : State) : Prop where
  noted : Noted s t
  posted : s.HasRoom bodies.length → Posted bodies s t

theorem Emits.refl (s : State) : Emits [] s s := ⟨.refl s, fun _ => ⟨(List.append_nil _).symm, by simp, rfl⟩⟩

theorem Emits.of_eq {s t : State} (h : s = t) : Emits [] s t := h ▸ .refl s

theorem Emits.trans {s t u : State} {a b : List NoteBody} (h : Emits a s t) (k : Emits b t u) : Emits (a ++ b) s u := by
  refine ⟨h.noted.trans k.noted, fun hr => ?_⟩
  rw [List.length_append] at hr
  have ha := h.posted ⟨by have := hr.1; omega, hr.2⟩
  exact ha.trans (k.posted (ha.room ⟨by have := hr.1; omega, hr.2⟩))

theorem post_emits (b : NoteBody) (s : State) : Emits [b] s (post b s) := ⟨post_noted b s, post_posted b⟩

theorem Emits.notesOnly {s t : State} {a : List NoteBody} (h : Emits a s t) : NotesOnly s t := h.noted.notesOnly

/-! ### Updates of the rest of the part -/

/-- `s` with the fields of `v` that the Notification Unit may change. -/
def State.withUnitOf (s v : State) : State :=
  { s with
    notes := v.notes
    nextNote := v.nextNote
    tally := v.tally
    retry := v.retry
    resendPending := v.resendPending
    mgmtOut := v.mgmtOut
    egressBusy := v.egressBusy
    devCtr := v.devCtr }

/-- An update that neither reads nor changes what the Notification Unit may change. -/
structure NoteBlind (U : State → State) : Prop where
  comm : ∀ s v, U (s.withUnitOf v) = (U s).withUnitOf v
  pause : ∀ s, (U s).egressPause = s.egressPause

theorem NoteBlind.comp {U V : State → State} (hU : NoteBlind U) (hV : NoteBlind V) : NoteBlind fun s => U (V s) :=
  ⟨fun s v => by rw [hV.comm, hU.comm], fun s => by rw [hU.pause, hV.pause]⟩

theorem NoteBlind.self {U : State → State} (hU : NoteBlind U) (s : State) : U s = (U s).withUnitOf s := hU.comm s s

theorem NoteBlind.id : NoteBlind fun s => s := ⟨fun _ _ => rfl, fun _ => rfl⟩

theorem NoteBlind.ite {U V : State → State} {c : State → Prop} [DecidablePred c] (hU : NoteBlind U) (hV : NoteBlind V)
    (hc : ∀ s v, c (s.withUnitOf v) ↔ c s) : NoteBlind fun s => if c s then U s else V s := by
  refine ⟨fun s v => ?_, fun s => ?_⟩
  · by_cases h : c s
    · simp [h, hc, hU.comm]
    · simp [h, hc, hV.comm]
  · split
    · exact hU.pause s
    · exact hV.pause s

theorem NoteBlind.modLane (l : LaneIx) (f : LaneState → LaneState) : NoteBlind fun s => s.modLane l f :=
  ⟨fun _ _ => rfl, fun _ => rfl⟩

theorem NoteBlind.modGroup (g : GroupIx) (f : GroupState → GroupState) : NoteBlind fun s => s.modGroup g f :=
  ⟨fun _ _ => rfl, fun _ => rfl⟩

section
variable {U : State → State} (hU : NoteBlind U) {s t : State}
include hU

theorem NotesOnly.map (h : NotesOnly s t) : NotesOnly (U s) (U t) := by
  obtain ⟨e, hc, hm, hb⟩ := h
  have et : U t = (U s).withUnitOf t := (congrArg U e).trans (hU.comm s t)
  have es := hU.self s
  refine ⟨?_, ?_, ?_, ?_⟩
  · rw [et]; rfl
  · rw [et, es]; exact hc
  · rw [et, es]; exact hm
  · have hp : (U s).egressPause = s.egressPause := hU.pause s
    rw [hp, et, es]
    exact hb

theorem Noted.map (h : Noted s t) : Noted (U s) (U t) := by
  have et : U t = (U s).withUnitOf t := (congrArg U h.notesOnly.1).trans (hU.comm s t)
  have es := hU.self s
  refine ⟨h.notesOnly.map hU, ?_, ?_⟩
  · rw [et, es]; exact h.lawful
  · rw [et, es]; exact h.bounded

theorem Emits.map {a : List NoteBody} (h : Emits a s t) : Emits a (U s) (U t) := by
  have et : U t = (U s).withUnitOf t := (congrArg U h.notesOnly.1).trans (hU.comm s t)
  have es := hU.self s
  refine ⟨h.noted.map hU, ?_⟩
  rw [et, es]
  exact h.posted
end

end Sys2Proof.Machine
end

section
/-! Each operation that changes the part and posts, as one update of the part and the records it posts. -/

namespace Sys2Proof.Machine

/- The kernel checks the theorems one after another. -/
set_option Elab.async false

/-! ### More updates the Notification Unit does not see -/

/-- An update of the lanes by what stands in them. -/
theorem NoteBlind.withLanes (f : Vector LaneState 8 → Vector LaneState 8) :
    NoteBlind fun s => { s with lanes := f s.lanes } := ⟨fun _ _ => rfl, fun _ => rfl⟩

theorem NoteBlind.discardStore (g : GroupIx) (c : GroupCtr) : NoteBlind (Machine.discardStore g c) :=
  ⟨fun _ _ => rfl, fun _ => rfl⟩

theorem NoteBlind.clearSequences (g : GroupIx) : NoteBlind (Machine.clearSequences g) := .modGroup g _

/-- The part of the discard instruction that takes the partial frame (R71). -/
def discardBuilding (g : GroupIx) (s : State) : State :=
  match (s.group g).building with
  | some p => (setBuilding g none (Machine.releaseBuffers g p.chain.length s)).countGroup g .assemblyDiscard
  | none => s

/-- The part of the discard instruction that takes the held frame (R71). -/
def discardHeld (g : GroupIx) (s : State) : State :=
  match (s.group g).held with
  | some f =>
    ((Machine.releaseBuffers g f.chain.length s).modGroup g fun x => { x with held := none }).countGroup g .assemblyDiscard
  | none => s

theorem discardBuilding_held (g : GroupIx) (s : State) : ((discardBuilding g s).group g).held = (s.group g).held := by
  unfold discardBuilding
  split
  · simp [setBuilding, releaseBuffers_group]
  · rfl

theorem discardInstruction_eq (g : GroupIx) (s : State) :
    discardInstruction g s = setAwaiting g true (discardHeld g (discardBuilding g s)) := by
  have hheld := discardBuilding_held g s
  unfold discardInstruction
  conv_rhs => unfold discardHeld
  rw [hheld]
  rfl

theorem NoteBlind.discardBuilding (g : GroupIx) : NoteBlind (Machine.discardBuilding g) := by
  refine ⟨fun s v => ?_, fun s => ?_⟩ <;> unfold Machine.discardBuilding
  · rw [show (s.withUnitOf v).group g = s.group g from rfl]
    cases (s.group g).building <;> rfl
  · split <;> rfl

theorem NoteBlind.discardHeld (g : GroupIx) : NoteBlind (Machine.discardHeld g) := by
  refine ⟨fun s v => ?_, fun s => ?_⟩ <;> unfold Machine.discardHeld
  · rw [show (s.withUnitOf v).group g = s.group g from rfl]
    cases (s.group g).held <;> rfl
  · split <;> rfl

theorem NoteBlind.discardInstruction (g : GroupIx) : NoteBlind (Machine.discardInstruction g) := by
  rw [show Machine.discardInstruction g = _ from funext (discardInstruction_eq g)]
  exact (NoteBlind.modGroup g _).comp ((NoteBlind.discardHeld g).comp (.discardBuilding g))

/-! ### States of a group (R37, R136) -/

theorem setCtx_emits (g : GroupIx) (new : CtxState) (s : State) :
    Emits (if (s.group g).ctx = new then [] else [.groupRx g (s.group g).ctx new])
      (s.modGroup g fun x => { x with ctx := new }) (setCtx g new s) := by
  unfold setCtx
  dsimp only
  split
  · next h => exact .of_eq (State.modGroup_self (by rw [← h]))
  · exact post_emits _ _

theorem setTx_emits (g : GroupIx) (new : TxState) (s : State) :
    Emits (if (s.group g).tx = new then [] else [.groupTx g (s.group g).tx new])
      (s.modGroup g fun x => { x with tx := new }) (setTx g new s) := by
  unfold setTx
  dsimp only
  split
  · next h => exact .of_eq (State.modGroup_self (by rw [← h]))
  · exact post_emits _ _

/-- The update a judgment by the ACTIVE count makes (R136). -/
def State.txJudged (s : State) (g : GroupIx) : State :=
  s.modGroup g fun x => { x with tx := judgedTx x.tx (s.activeCount g) x.minLanes }

theorem judgeTx_noted (g : GroupIx) (s : State) : Noted (s.txJudged g) (judgeTx g s) := by
  have self : judgedTx (s.group g).tx (s.activeCount g) (s.group g).minLanes = (s.group g).tx → s.txJudged g = s :=
    fun h => State.modGroup_self (by rw [h])
  have set : ∀ t, judgedTx (s.group g).tx (s.activeCount g) (s.group g).minLanes = t →
      Noted (s.txJudged g) (setTx g t s) := fun t h => by
    rw [State.txJudged, State.modGroup_congr (h := fun x => { x with tx := t }) (by rw [h])]
    exact (setTx_emits g t s).noted
  unfold judgeTx
  split
  · next h =>
    split
    · next hc => exact set _ (by simp [h, judgedTx, hc])
    · next hc => rw [self (by simp [h, judgedTx, hc])]; exact .refl s
  · next h =>
    split
    · next hc => exact set _ (by simp [h, judgedTx, hc])
    · next hc => rw [self (by simp [h, judgedTx, hc])]; exact .refl s
  · next h h' =>
    rw [self (by unfold judgedTx; split <;> simp_all)]
    exact .refl s

/-! ### Roles (R126) -/

/-- A role that is not ACTIVE. -/
def Role.isActive : Role → Bool
  | .active _ => true
  | _ => false

theorem judgeTxOf_of_not_active {r : Role} (h : r.isActive = false) (s : State) : judgeTxOf r s = s := by
  cases r with
  | active g => cases h
  | off => rfl
  | probation g => rfl
  | withdrawn g => rfl
  | draining g => rfl

/-- A change between roles other than ACTIVE judges no group. -/
theorem setRole_emits {l : LaneIx} {new : Role} (c : RoleCause) {s : State} (ho : (s.lane l).role.isActive = false)
    (hn : new.isActive = false) :
    Emits [.laneRole l (s.lane l).role new c] (s.modLane l fun x => { x with role := new, deficit := 0 })
      (setRole l new c s) := by
  unfold setRole
  dsimp only
  rw [judgeTxOf_of_not_active ho, judgeTxOf_of_not_active hn]
  exact post_emits _ _

/-! ### Operations (R161) -/

/-- The slot of an operation in flight becomes COMPLETE; another stays. -/
def slotEnds (k : SlotIx) (o : OpOutcome) (s : State) : State :=
  match (s.slot k).body with
  | .inFlight op a e =>
    { s.modSlot k fun x => { x with body := .complete op a e o s.timebase } with
      completionOrder := s.completionOrder ++ [k] }
  | _ => s

/-- The OP-DONE record of an ending. -/
def Slot.endRecords (x : Slot) (k : SlotIx) (o : OpOutcome) : List NoteBody :=
  match x.body with
  | .inFlight op _ _ => [.opDone k x.gen op o]
  | _ => []

theorem endSlot_emits (k : SlotIx) (o : OpOutcome) (s : State) :
    Emits ((s.slot k).endRecords k o) (slotEnds k o s) (endSlot k o s) := by
  unfold endSlot slotEnds Slot.endRecords
  cases (s.slot k).body with
  | empty => exact .refl s
  | complete op a e o t => exact .refl s
  | inFlight op a e => exact post_emits _ _

theorem slotEnds_egressPause (k : SlotIx) (o : OpOutcome) (s : State) : (slotEnds k o s).egressPause = s.egressPause := by
  unfold slotEnds
  split <;> rfl

theorem NoteBlind.slotEnds (k : SlotIx) (o : OpOutcome) : NoteBlind (Machine.slotEnds k o) := by
  refine ⟨fun s v => ?_, slotEnds_egressPause k o⟩
  have hk : (s.withUnitOf v).slot k = s.slot k := rfl
  unfold Machine.slotEnds
  rw [hk]
  cases (s.slot k).body <;> rfl

/-- The operation on a lane, if any, ends. -/
def laneOpEnds (l : LaneIx) (o : OpOutcome) (s : State) : State :=
  match (s.lane l).op with
  | none => s
  | some p => slotEnds p.slot o (s.modLane l fun x => { x with op := none })

/-- The OP-DONE record of the ending of a lane's operation. -/
def State.laneOpRecords (s : State) (l : LaneIx) (o : OpOutcome) : List NoteBody :=
  match (s.lane l).op with
  | none => []
  | some p => (s.slot p.slot).endRecords p.slot o

theorem endLaneOp_emits (l : LaneIx) (o : OpOutcome) (s : State) :
    Emits (s.laneOpRecords l o) (laneOpEnds l o s) (endLaneOp l o s) := by
  unfold endLaneOp laneOpEnds State.laneOpRecords
  cases (s.lane l).op with
  | none => exact .refl s
  | some p => exact endSlot_emits p.slot o (s.modLane l fun x => { x with op := none })

theorem laneOpEnds_egressPause (l : LaneIx) (o : OpOutcome) (s : State) : (laneOpEnds l o s).egressPause = s.egressPause := by
  unfold laneOpEnds
  split
  · rfl
  · exact slotEnds_egressPause _ _ _

theorem NoteBlind.laneOpEnds (l : LaneIx) (o : OpOutcome) : NoteBlind (Machine.laneOpEnds l o) := by
  refine ⟨fun s v => ?_, laneOpEnds_egressPause l o⟩
  have hk : (s.withUnitOf v).lane l = s.lane l := rfl
  unfold Machine.laneOpEnds
  rw [hk]
  cases (s.lane l).op with
  | none => rfl
  | some p => exact (NoteBlind.slotEnds p.slot o).comm (s.modLane l fun x => { x with op := none }) v

/-! ### Lanes in order -/

/-- Lane after lane is changed and posts; a lane's change reads that lane alone. -/
theorem foldl_emits {f : State → LaneIx → State} {upd : LaneIx → LaneState → LaneState}
    {rec : LaneIx → LaneState → List NoteBody}
    (h : ∀ s l, Emits (rec l (s.lane l)) (s.modLane l (upd l)) (f s l)) {ls : List LaneIx} (hn : ls.Nodup) (s : State) :
    Emits (ls.flatMap fun l => rec l (s.lane l)) (ls.foldl (fun s l => s.modLane l (upd l)) s) (ls.foldl f s) := by
  have blind : ∀ ls : List LaneIx, NoteBlind fun s => ls.foldl (fun s l => s.modLane l (upd l)) s := by
    intro ls
    induction ls with
    | nil => exact .id
    | cons l ls ih => exact ih.comp (.modLane l (upd l))
  induction ls generalizing s with
  | nil => exact .refl s
  | cons l ls ih =>
    have hl : l ∉ ls := (List.nodup_cons.1 hn).1
    have hrest := ih (List.nodup_cons.1 hn).2 (f s l)
    have hsame : (ls.flatMap fun m => rec m ((f s l).lane m)) = ls.flatMap fun m => rec m (s.lane m) := by
      rw [List.flatMap_def, List.flatMap_def]
      refine congrArg List.flatten (List.map_congr_left fun m hm => ?_)
      have hml : m ≠ l := fun e => hl (e ▸ hm)
      rw [(h s l).notesOnly.lane_eq, State.lane_modLane, if_neg hml]
    rw [hsame] at hrest
    exact ((h s l).map (blind ls)).trans hrest

theorem allLanes_nodup : allLanes.Nodup := by decide

/-- All lanes changed in order are all lanes changed. -/
theorem foldl_modLane (upd : LaneIx → LaneState → LaneState) (s : State) :
    allLanes.foldl (fun s l => s.modLane l (upd l)) s =
      { s with lanes := Vector.ofFn fun l : Fin 8 => upd l s.lanes[l] } := by
  simp only [allLanes, List.foldl_cons, List.foldl_nil, State.modLane]
  congr 1
  ext i hi
  interval_cases i <;> simp

theorem foldl_modLane_lane (upd : LaneIx → LaneState → LaneState) (s : State) (l : LaneIx) :
    (allLanes.foldl (fun s l => s.modLane l (upd l)) s).lane l = upd l (s.lane l) := by
  rw [foldl_modLane]
  simp [State.lane]

/-! ### The disabling of a group (R60, R142) -/

/-- A lane after its association to `g` is dropped. -/
def LaneState.dropped (g : GroupIx) (x : LaneState) : LaneState :=
  if x.assoc.group? = some g then { x with assoc := .none, skewHold := none } else x

/-- Every association to `g` is dropped. -/
def State.dropped (s : State) (g : GroupIx) : State := { s with lanes := s.lanes.map (LaneState.dropped g) }

@[simp] theorem State.lane_dropped (s : State) (g : GroupIx) (l : LaneIx) :
    (s.dropped g).lane l = (s.lane l).dropped g := by
  simp [State.dropped, State.lane]

theorem dropAssocs_emits (g : GroupIx) (s : State) :
    Emits (allLanes.flatMap fun l => if (s.lane l).assoc.group? = some g then [.receiveSet l (s.lane l).assoc .none g .left] else [])
      (s.dropped g) (dropAssocs g s) := by
  have step : ∀ (s : State) (l : LaneIx),
      Emits (if (s.lane l).assoc.group? = some g then [.receiveSet l (s.lane l).assoc .none g .left] else [])
        (s.modLane l (LaneState.dropped g))
        (if (s.lane l).assoc.group? = some g then
          post (.receiveSet l (s.lane l).assoc .none g .left)
            (s.modLane l fun x => { x with assoc := .none, skewHold := none })
        else s) := fun s l => by
    split
    · next h =>
      rw [State.modLane_congr (h := fun x => { x with assoc := .none, skewHold := none }) (by simp [LaneState.dropped, h])]
      exact post_emits _ _
    · next h => exact .of_eq (State.modLane_self (by simp [LaneState.dropped, h]))
  have all := foldl_emits (rec := fun l x => if x.assoc.group? = some g then [.receiveSet l x.assoc .none g .left] else [])
    step allLanes_nodup s
  have hmap : allLanes.foldl (fun s l => s.modLane l (LaneState.dropped g)) s = s.dropped g := by
    rw [foldl_modLane, State.dropped]
    congr 1
    ext i hi
    simp
  rw [hmap] at all
  exact all

/-- The context's store and the assembler's frames are discarded, counted with `c` (R58, R60, R71). -/
def contextDiscards (g : GroupIx) (c : GroupCtr) (s : State) : State := discardInstruction g (discardStore g c s)

theorem NoteBlind.contextDiscards (g : GroupIx) (c : GroupCtr) : NoteBlind (Machine.contextDiscards g c) :=
  (NoteBlind.discardInstruction g).comp (.discardStore g c)

/-- The context without sequences, in state `c` (R58, R60). -/
def GroupState.cleared (c : CtxState) (x : GroupState) : GroupState :=
  { x with expected := none, highest := none, hole := none, ctx := c }

end Sys2Proof.Machine
end

section
/-! The elementary moves of the part. Every command but a reset and the input pins is a chain of such moves; each move says
what it may change and under which condition, so that a law of the part is checked on moves alone. -/

namespace Sys2Proof.Machine

/- The kernel checks the theorems one after another. -/
set_option Elab.async false

/-- What a move may touch beside the common ones: roles, queues and operations; passed marks; receive states; settings; the
admin state; the diagnostic mode; the release of a capture record. -/
inductive Aspect | common | ops | mark | rx | settings | admin | mode | release
  deriving DecidableEq

/-! ### Lanes -/

/-- The fields of a lane whose values agree with no other field change within their capacities. -/
structure LaneFree (s : State) (x x' : LaneState) : Prop where
  rest : x' = { x with
    cdPresent := x'.cdPresent, reason := x'.reason, searchReason := x'.searchReason, intervalTimer := x'.intervalTimer
    interval := x'.interval, good := x'.good, miss := x'.miss, lastCount := x'.lastCount, capture := x'.capture
    skewHold := x'.skewHold, mismatch := x'.mismatch, deficit := x'.deficit, debt := x'.debt
    markerTimer := x'.markerTimer, markerCount := x'.markerCount, returnQueue := x'.returnQueue, testSeq := x'.testSeq
    test := x'.test, ctr := x'.ctr } := by rfl
  intervalTimer : x'.intervalTimer = x.intervalTimer ∨
    (x'.intervalTimer.isSome = true ∧ (x.intervalTimer.isSome = true ∨ x.inService = true)) := by exact .inl rfl
  markerTimer : x'.markerTimer = x.markerTimer ∨
    (x'.markerTimer.isSome = true ∧ (x.markerTimer.isSome = true ∨ x.inService = true)) := by exact .inl rfl
  errors : x'.interval.errorCount ≤ x.interval.errorCount ∨ x'.interval.errorCount ≤ 255 := by exact .inl le_rfl
  good : x'.good ≤ x.good ∨ x'.good < s.dev.restoreCount := by exact .inl le_rfl
  miss : x'.miss ≤ x.miss ∨ x'.miss < s.dev.missLimit := by exact .inl le_rfl
  returns : x'.returnQueue.length ≤ x.returnQueue.length ∨ x'.returnQueue.length ≤ Config.returnQueueMax := by
    exact .inl le_rfl
  deficit : x'.deficit ≤ x.deficit ∨ (x.deficit = 0 ∧ x'.deficit ≤ x.weight) := by exact .inl le_rfl
  debt : x'.debt ≤ x.debt ∨ (x'.debt ≤ 7 ∧ x.markerTimer.isSome = true) := by exact .inl le_rfl
  suppressed : x'.capture.suppressed ≤ x.capture.suppressed ∨ x'.capture.suppressed ≤ 255 := by exact .inl le_rfl
  captured : x.capture.state = .uncorrectable →
    x'.capture.state = .uncorrectable ∧ x'.capture.syndrome = x.capture.syndrome ∧ x'.capture.time = x.capture.time ∧
      x'.capture.kind = x.capture.kind := by exact fun h => ⟨h, rfl, rfl, rfl⟩

/-- The association stays, or a MEMBER lane is SUSPENDED in its group. -/
def Assoc.StaysOrSuspends (a a' : Assoc) : Prop := a' = a ∨ ∃ g m k, a = .member g m k ∧ a' = .suspended g

/-- All a move can do to one lane of `s`, by what it touches. -/
inductive LaneMove (s : State) (x : LaneState) : Aspect → LaneState → Prop
  | free {x' : LaneState} (h : LaneFree s x x') : LaneMove s x .common x'
  | flight (f : Option Flight) (h : f = none ∨ s.txInhibit = false) : LaneMove s x .common { x with flight := f }
  | leave (a : Assoc) (hold : Option Time) (h : a = .none ∨ ∃ g m k, x.assoc = .member g m k ∧ a = .suspended g) :
      LaneMove s x .common { x with assoc := a, skewHold := hold }
  | strikes (k : Nat) (h : k = 0 ∨ ∃ g, k < (s.group g).strikeLimit) :
      LaneMove s x .common { x with assoc := x.assoc.withStrikes k }
  | raise (q : Seq) : LaneMove s x .mark { x with assoc := x.assoc.withMark fun m => raiseTo m q }
  | join (g : GroupIx) (q : Seq) (hrx : x.rx = .aligned) (hdiag : x.diag = .none)
      (hrole : ∀ h, x.role.group? = some h → h = g) : LaneMove s x .mark { x with assoc := .member g q 0 }
  | rx (new : RxState) (r : Reason) (a : Assoc) (hold : x.rx ≠ .down ∨ x.inService = true) (hnew : new ≠ .down)
      (ha : x.assoc.StaysOrSuspends a) (hm : a.isMember = true → x.rx = .aligned → new = .aligned) :
      LaneMove s x .rx { x with rx := new, reason := r, assoc := a }
  | role (r : Role)
      (hg : ∀ g, r.group? = some g → x.role.group? = some g ∨ ∀ h, x.assoc.group? = some h → g = h)
      (hr : r ≠ .off → x.role ≠ .off ∨ (x.inService = true ∧ x.diag = .none)) :
      LaneMove s x .ops { x with role := r, deficit := 0 }
  | op (o : Option LaneOp) : LaneMove s x .ops { x with op := o }
  | queue (q : List DataSeg) (h : q = [] ∨ s.txInhibit = false)
      (hl : q.length ≤ x.queue.length ∨ q.length ≤ Config.laneQueueMax) : LaneMove s x .ops { x with queue := q }
  | weight (w : Nat) (h : 1 ≤ w ∧ w ≤ 8) : LaneMove s x .settings { x with weight := w }
  | admin {x' : LaneState} (h : x' = { x with
        inService := x'.inService, intervalTimer := x'.intervalTimer, markerTimer := x'.markerTimer, debt := x'.debt
        rx := x'.rx, reason := x'.reason, assoc := x'.assoc })
      (hd : x'.debt ≤ x.debt) (ha : x.assoc.StaysOrSuspends x'.assoc) : LaneMove s x .admin x'
  | mode (m : Diag) (hr : x.role = .off) (ha : x.assoc = .none) : LaneMove s x .mode { x with diag := m }
  | release : LaneMove s x .release { x with capture := .released }

/-! ### Groups -/

/-- The fields of a group that no law ties to another change within their capacities. -/
structure GroupFree (x x' : GroupState) : Prop where
  rest : x' = { x with
    nextSeq := x'.nextSeq, rrPos := x'.rrPos, cursor := x'.cursor, highest := x'.highest, hole := x'.hole
    building := x'.building, awaitingFirst := x'.awaitingFirst, held := x'.held, egress := x'.egress
    armed := x'.armed, ctr := x'.ctr } := by rfl
  highest : x.highest = none → x'.highest = none := by exact id
  hole : x'.hole = x.hole ∨ x'.hole = none ∨ x.ctx.live = true := by exact .inl rfl
  egress : x'.egress.length ≤ x.egress.length ∨ x'.egress.length ≤ Config.egressQueueMax := by exact .inl le_rfl

/-- A frame joins a class queue (R96). -/
def GroupState.push (x : GroupState) (c : Cls) (f : TxFrame) : GroupState :=
  match c with
  | .high => { x with high := x.high ++ [f] }
  | .normal => { x with normal := x.normal ++ [f] }

/-- The frame at the head of a class queue leaves it, and is cut no more (R108). -/
def GroupState.pop (x : GroupState) (c : Cls) : GroupState :=
  match c with
  | .high => { x with high := x.high.tail, cursor := none }
  | .normal => { x with normal := x.normal.tail, cursor := none }

/-- The hold output after its judgment (R100). -/
def GroupState.judgedHold (x : GroupState) : Bool :=
  if x.hold then !decide (x.high.length + 4 ≤ x.holdLevel ∧ x.normal.length + 4 ≤ x.holdLevel)
  else decide (x.holdLevel ≤ x.high.length ∨ x.holdLevel ≤ x.normal.length)

/-- The group once its queues are discarded for the disable `d` (R99, R141). -/
def GroupState.disabling (x : GroupState) (d : DisableRec) : GroupState :=
  { x with tx := .disabling, disable := some d, high := [], normal := [], cursor := none }

/-- The group when its disable has completed (R60, R142). -/
def GroupState.disabled (x : GroupState) : GroupState :=
  { x with tx := .disabled, ctx := .disabled, disable := none, store := [], expected := none, highest := none, hole := none }

/-- All a move can do to one group, by what it touches. -/
inductive GroupMove (x : GroupState) : Aspect → GroupState → Prop
  | free {x' : GroupState} (h : GroupFree x x') : GroupMove x .common x'
  | buffers (n : Nat) (b : Bool) : GroupMove x .common { x with heldCount := n, armed := b }
  | expect (e e' : Seq) (store : List DataSeg) (hl : x.ctx.live = true) (he : x.expected = some e)
      (hw : windowed e x.window x.store → windowed e' x.window store) :
      GroupMove x .common { x with expected := some e', store := store }
  | emptyStore : GroupMove x .common { x with store := [] }
  | flip (c : CtxState) (h : x.ctx.live = true) (hc : c.live = true) : GroupMove x .common { x with ctx := c }
  | begin (c : CtxState) (e h : Seq) (hx : x.ctx = .resync) (hc : c.live = true) :
      GroupMove x .common { x with ctx := c, expected := some e, highest := some h }
  | resync (h : x.ctx.live = true) : GroupMove x .common { x with
      ctx := .resync, store := [], expected := none, highest := none, hole := none }
  | txFlip (t : TxState) (h : x.tx.cutting = true) (ht : t.cutting = true) : GroupMove x .common { x with tx := t }
  | push (c : Cls) (f : TxFrame) (ctr : Vector Counter 38) (ht : x.tx = .up)
      (hl : (x.classQueue c).length < Config.classQueueMax) :
      GroupMove x .common { x.push c f with hold := (x.push c f).judgedHold, ctr := ctr }
  | pop (c : Cls) (ctr : Vector Counter 38) (ht : x.tx.cutting = true) :
      GroupMove x .common { x.pop c with hold := (x.pop c).judgedHold, ctr := ctr }
  | enable (h : x.tx = .disabled) : GroupMove x .ops { x with tx := .forming, ctx := .resync, nextSeq := 0, rrPos := 0 }
  | disabling (d : DisableRec) (ctr : Vector Counter 38) (h : x.tx.cutting = true) :
      GroupMove x .ops { x.disabling d with hold := (x.disabling d).judgedHold, ctr := ctr }
  | disabled (h : x.disable.isSome = true) : GroupMove x .ops x.disabled
  | loss (d d' : DisableRec) (h : x.disable = some d) : GroupMove x .ops { x with disable := some d' }
  | settings {x' : GroupState} (h : x' = { x with
        segSize := x'.segSize, window := x'.window, holeTime := x'.holeTime, skewLimit := x'.skewLimit
        strikeLimit := x'.strikeLimit, skewHold := x'.skewHold, minLanes := x'.minLanes, reservation := x'.reservation
        holdLevel := x'.holdLevel }) (ht : x.tx = .disabled) (hr : x.InRange → x'.InRange)
      (hh : 8 ≤ x.holdLevel ∧ x.holdLevel ≤ 32 → 8 ≤ x'.holdLevel ∧ x'.holdLevel ≤ 32) : GroupMove x .settings x'

/-! ### The part -/

/-- All a move can do, by what it touches. Buffers and bonded bytes only move between the pool, the store and a group (R80,
R97). -/
inductive Move (s : State) : Aspect → State → Prop
  | plain {t : State} (h : t = { s with
      freeUse := t.freeUse, lastResult := t.lastResult, timebase := t.timebase, devCtr := t.devCtr
      poolLow := t.poolLow, storeLow := t.storeLow, peerReport := t.peerReport, engine := t.engine }) : Move s .common t
  | egress (b : Option EgressSource) (g : GroupIx)
      (h : s.egressPause = true → b = s.egressBusy ∨ b = none) :
      Move s .common { s with egressBusy := b, lastServed := g }
  | mgmtOut (q : List MgmtFrame) (h : q.length ≤ s.mgmtOut.length ∨ q.length ≤ Config.mgmtOutMax) :
      Move s .common { s with mgmtOut := q }
  | requests (q : List RequestFrame) (h : q.length ≤ s.requestQueue.length ∨ q.length ≤ Config.requestQueueMax) :
      Move s .common { s with requestQueue := q }
  | noted {t : State} (h : Noted s t) : Move s .common t
  | lane {k : Aspect} (l : LaneIx) (f : LaneState → LaneState) (h : LaneMove s (s.lane l) k (f (s.lane l))) :
      Move s k (s.modLane l f)
  | group {k : Aspect} (g : GroupIx) (f : GroupState → GroupState) (pool store : Nat)
      (h : GroupMove (s.group g) k (f (s.group g)))
      (hp : pool + (f (s.group g)).heldCount = s.poolFree + (s.group g).heldCount)
      (hs : store + (f (s.group g)).storeBytes = s.storeFree + (s.group g).storeBytes) :
      Move s k (({ s with poolFree := pool, storeFree := store } : State).modGroup g f)
  | streamCounters (x : StreamIx) (f : StreamState → StreamState)
      (h : f (s.stream x) = { s.stream x with ctr := (f (s.stream x)).ctr }) : Move s .common (s.modStream x f)
  | streamSettings (x : StreamIx) (f : StreamState → StreamState) (hx : x ≠ 0)
      (h : (s.stream x).InRange → (f (s.stream x)).InRange) : Move s .settings (s.modStream x f)
  | devSettings (d : DevSettings) (h : s.dev.InRange → d.InRange) : Move s .settings { s with dev := d }
  | slots (v : Vector Slot 4) (ks : List SlotIx) : Move s .ops { s with slots := v, completionOrder := ks }

/-- A chain of moves that touch at most `as` beside the common ones. -/
def Moves (as : List Aspect) : State → State → Prop :=
  Relation.ReflTransGen fun s t => ∃ k, (k = .common ∨ k ∈ as) ∧ Move s k t

theorem Moves.refl {as : List Aspect} (s : State) : Moves as s s := Relation.ReflTransGen.refl

theorem Moves.trans {as : List Aspect} {s t u : State} (h : Moves as s t) (k : Moves as t u) : Moves as s u :=
  Relation.ReflTransGen.trans h k

theorem Moves.mono {as bs : List Aspect} {s t : State} (h : Moves as s t) (hs : ∀ k ∈ as, k ∈ bs) : Moves bs s t :=
  Relation.ReflTransGen.mono (fun _ _ ⟨k, hk, hm⟩ => ⟨k, hk.imp_right (hs k), hm⟩) _ _ h

/-- A common chain is a chain of every kind. -/
theorem Moves.weaken {as : List Aspect} {s t : State} (h : Moves [] s t) : Moves as s t :=
  h.mono fun _ hk => absurd hk List.not_mem_nil

theorem Move.moves {as : List Aspect} {s t : State} {k : Aspect} (h : Move s k t) (hk : k ∈ as) : Moves as s t :=
  .single ⟨k, .inr hk, h⟩

theorem Move.common {as : List Aspect} {s t : State} (h : Move s .common t) : Moves as s t :=
  .single ⟨_, .inl rfl, h⟩

/-- What every move of a chain keeps, the chain keeps. -/
theorem Moves.keeps {as : List Aspect} {P : State → Prop} {s t : State} (h : Moves as s t)
    (hm : ∀ u v k, (k = .common ∨ k ∈ as) → Move u k v → P u → P v) (hs : P s) : P t := by
  induction h with
  | refl => exact hs
  | tail _ hk ih =>
    obtain ⟨k, hk, hmove⟩ := hk
    exact hm _ _ k hk hmove ih

end Sys2Proof.Machine
end

section
/-! The operations of the part as chains of moves: egress, notifications, pool, class queues, the Frame Assembler and the
receive contexts. -/

namespace Sys2Proof.Machine

/- The kernel checks the theorems one after another. -/
set_option Elab.async false

/-! ### Single moves -/

section
variable {as : List Aspect}

theorem Noted.moves {s t : State} (h : Noted s t) : Moves as s t := (Move.noted h).common

theorem Emits.moves {s t : State} {b : List NoteBody} (h : Emits b s t) : Moves as s t := h.noted.moves

theorem LaneMove.moves {s : State} {l : LaneIx} {f : LaneState → LaneState} {k : Aspect}
    (h : LaneMove s (s.lane l) k (f (s.lane l))) (hk : k ∈ as) : Moves as s (s.modLane l f) := (Move.lane l f h).moves hk

theorem LaneMove.common {s : State} {l : LaneIx} {f : LaneState → LaneState}
    (h : LaneMove s (s.lane l) .common (f (s.lane l))) : Moves as s (s.modLane l f) := (Move.lane l f h).common

theorem LaneFree.moves {s : State} {l : LaneIx} {f : LaneState → LaneState} (h : LaneFree s (s.lane l) (f (s.lane l))) :
    Moves as s (s.modLane l f) := (LaneMove.free h).common

/-- A move of one group that takes no buffer and no byte. -/
theorem GroupMove.common {s : State} {g : GroupIx} {f : GroupState → GroupState}
    (h : GroupMove (s.group g) .common (f (s.group g)))
    (hp : (f (s.group g)).heldCount = (s.group g).heldCount := by rfl)
    (hs : (f (s.group g)).storeBytes = (s.group g).storeBytes := by rfl) : Moves as s (s.modGroup g f) :=
  (Move.group g f s.poolFree s.storeFree h (by rw [hp]) (by rw [hs])).common

theorem GroupMove.moves {s : State} {g : GroupIx} {f : GroupState → GroupState} {k : Aspect}
    (h : GroupMove (s.group g) k (f (s.group g))) (hk : k ∈ as)
    (hp : (f (s.group g)).heldCount = (s.group g).heldCount := by rfl)
    (hs : (f (s.group g)).storeBytes = (s.group g).storeBytes := by rfl) : Moves as s (s.modGroup g f) :=
  (Move.group g f s.poolFree s.storeFree h (by rw [hp]) (by rw [hs])).moves hk

theorem countLane_moves (l : LaneIx) (c : LaneCtr) (n : Nat) (s : State) : Moves as s (s.countLane l c n) :=
  LaneFree.moves {}

theorem countGroup_moves (g : GroupIx) (c : GroupCtr) (n : Nat) (s : State) : Moves as s (s.countGroup g c n) :=
  GroupMove.common (.free {})

theorem countStream_moves (x : StreamIx) (c : StreamCtr) (n : Nat) (s : State) : Moves as s (s.countStream x c n) :=
  (Move.streamCounters x _ rfl).common

theorem countDev_moves (c : DevCtr) (n : Nat) (s : State) : Moves as s (s.countDev c n) := (Move.plain rfl).common

theorem passTo_moves (e : Time) (s : State) : Moves as s (s.passTo e) := (Move.plain rfl).common

end

/-! ### Local egress (R74, R75) -/

theorem arbitrate_moves {as : List Aspect} (s : State) : Moves as s (arbitrate s) := by
  rw [arbitrate_fields]
  refine (Move.egress _ _ fun hp => .inl ?_).common
  rw [arbitrate_of_busy (.inr hp)]

theorem mgmtJoin_moves {as : List Aspect} (f : MgmtFrame) {s : State} (h : s.mgmtRoom = true) :
    Moves as s (mgmtJoin f s) := by
  refine (Move.mgmtOut _ (.inr ?_)).common.trans (arbitrate_moves _)
  have := s.mgmtRoom_iff.1 h
  simp only [List.length_append, List.length_singleton, Config.mgmtOutMax]
  omega

theorem egressJoin_moves {as : List Aspect} {g : GroupIx} (f : EgressFrame) {s : State}
    (h : (s.group g).egress.length < Config.egressQueueMax) : Moves as s (egressJoin g f s) := by
  have hjoin : Moves as s (s.modGroup g fun x => { x with egress := x.egress ++ [f] }) :=
    GroupMove.common (.free { egress := .inr (by rw [List.length_append]; exact h) })
  exact (hjoin.trans (countGroup_moves ..)).trans (arbitrate_moves _)

/-! ### The Notification Unit -/

section
variable {as : List Aspect}

theorem post_moves (b : NoteBody) (s : State) : Moves as s (post b s) := (post_noted b s).moves

theorem offerNotes_moves (s : State) : Moves as s (offerNotes s) := (offerNotes_noted s).moves

theorem retryExpires_moves (s : State) : Moves as s (retryExpires s) := by
  unfold retryExpires
  split
  · exact .refl s
  · next e _ =>
    have hstop : Noted (s.passTo e) { s.passTo e with retry := none, resendPending := true } := ⟨.of_unit rfl, id, id⟩
    exact (passTo_moves e s).trans
      ((hstop.trans (countDev_noted _ .retryExpiries 1 (by decide))).trans (offerNotes_noted _)).moves

/-! ### The Segment Buffer Pool -/

theorem releaseBuffers_moves (g : GroupIx) (n : Nat) (s : State) : Moves as s (releaseBuffers g n s) := by
  have hback : Moves as s (({ s with poolFree := s.poolFree + min n (s.group g).heldCount } : State).modGroup g fun x =>
      { x with heldCount := x.heldCount - min n (s.group g).heldCount }) := by
    refine (Move.group g (fun x => { x with heldCount := x.heldCount - min n (s.group g).heldCount }) _ _
      (.buffers _ _) ?_ rfl).common
    dsimp only
    omega
  exact hback.trans (countGroup_moves ..)

theorem grantBuffer_moves (g : GroupIx) (k : Grant) {s : State} (h : 0 < s.poolFree) :
    Moves as s (grantBuffer g k s) := by
  have hlow : Moves as s { s with poolLow := min s.poolLow (s.poolFree - 1) } := (Move.plain rfl).common
  have htake : Moves as { s with poolLow := min s.poolLow (s.poolFree - 1) }
      (({ s with poolFree := s.poolFree - 1, poolLow := min s.poolLow (s.poolFree - 1) } : State).modGroup g fun x =>
        { x with heldCount := x.heldCount + 1, armed := true }) := by
    refine (Move.group (s := { s with poolLow := min s.poolLow (s.poolFree - 1) }) g
      (fun x => { x with heldCount := x.heldCount + 1, armed := true }) (s.poolFree - 1) s.storeFree
      (.buffers _ _) ?_ rfl).common
    change s.poolFree - 1 + ((s.group g).heldCount + 1) = s.poolFree + (s.group g).heldCount
    omega
  exact (hlow.trans htake).trans (countGroup_moves ..)

theorem refuseBuffer_moves (g : GroupIx) (s : State) : Moves as s (refuseBuffer g s) := by
  unfold refuseBuffer
  split
  · exact Moves.trans (GroupMove.common (.free {})) (post_moves _ _)
  · exact .refl s

/-! ### Class queues and store (R95 to R97, R100) -/

/-- The judgment of the hold output as one update. -/
theorem judgeHold_eq (g : GroupIx) (s : State) :
    ∃ ctr, judgeHold g s = s.modGroup g fun x => { x with hold := (s.group g).judgedHold, ctr := ctr } := by
  have self : (s.group g).judgedHold = (s.group g).hold →
      s.modGroup g (fun x => { x with hold := (s.group g).judgedHold, ctr := (s.group g).ctr }) = s :=
    fun h => State.modGroup_self (by rw [h])
  unfold judgeHold
  dsimp only
  split_ifs with h1 h2 h3
  · exact ⟨(s.group g).ctr, State.modGroup_congr (by simp [GroupState.judgedHold, h1, h2])⟩
  · exact ⟨_, (self (by simp [GroupState.judgedHold, h1, h2])).symm⟩
  · exact ⟨_, (State.modGroup_modGroup ..).trans (State.modGroup_congr (by simp [GroupState.judgedHold, h1, h3]; rfl))⟩
  · exact ⟨_, (self (by simp [GroupState.judgedHold, h1, h3])).symm⟩

theorem GroupState.storeBytes_push (x : GroupState) (c : Cls) (f : TxFrame) :
    (x.push c f).storeBytes = x.storeBytes + f.bonded.length := by
  cases c <;> simp [GroupState.push, GroupState.storeBytes] <;> omega

theorem GroupState.storeBytes_pop {x : GroupState} {c : Cls} {f : TxFrame} {rest : List TxFrame}
    (h : x.classQueue c = f :: rest) : (x.pop c).storeBytes + f.bonded.length = x.storeBytes := by
  cases c <;> simp only [GroupState.classQueue] at h <;> simp [GroupState.pop, GroupState.storeBytes, h] <;> omega

theorem bonded_length (x : StreamIx) (payload : List Byte) :
    (payload ++ be 4 (frameCheck x payload).toNat).length = payload.length + 4 := by simp [be]

theorem enqueueTx_moves {g : GroupIx} {c : Cls} (x : StreamIx) {payload : List Byte} {s : State}
    (ht : (s.group g).tx = .up) (hl : ((s.group g).classQueue c).length < Config.classQueueMax)
    (hr : s.storeRoom payload.length = true) : Moves as s (enqueueTx g c x payload s) := by
  have hroom : payload.length + 4 ≤ s.storeFree := of_decide_eq_true hr
  unfold enqueueTx
  extract_lets f s1 s2
  have hlow : Moves as s { s with storeLow := min s.storeLow (s.storeFree - f.bonded.length) } := (Move.plain rfl).common
  obtain ⟨ctr, e⟩ := judgeHold_eq g ((s2.countGroup g .framesAdmitted).countGroup g .bytesAdmitted payload.length)
  have hs2 : s2 = s1.modGroup g fun x => x.push c f := by cases c <;> rfl
  have hx : (((s2.countGroup g .framesAdmitted).countGroup g .bytesAdmitted payload.length).group g).judgedHold =
      ((s.group g).push c f).judgedHold := by
    rw [hs2]
    simp only [State.group_countGroup, State.group_modGroup, ↓reduceIte]
    rfl
  rw [e, hx, hs2]
  simp only [State.countGroup, State.modGroup_modGroup]
  refine hlow.trans (Move.group (s := { s with storeLow := min s.storeLow (s.storeFree - f.bonded.length) }) g
    (fun x => { x.push c f with hold := ((s.group g).push c f).judgedHold, ctr := ctr })
    s.poolFree (s.storeFree - f.bonded.length) (.push c f ctr ht hl) ?_ ?_).common
  · change s.poolFree + ((s.group g).push c f).heldCount = _
    cases c <;> rfl
  · have hb : ((s.group g).push c f).storeBytes = _ := GroupState.storeBytes_push _ c f
    have hf : f.bonded.length = payload.length + 4 := bonded_length x payload
    change s.storeFree - f.bonded.length + ((s.group g).push c f).storeBytes = s.storeFree + (s.group g).storeBytes
    omega

theorem admitFrame_moves {g : GroupIx} {c : Cls} (x : StreamIx) {payload : List Byte} {s : State}
    (ht : (s.group g).tx = .up) (hl : ((s.group g).classQueue c).length < Config.classQueueMax)
    (hr : s.storeRoom payload.length = true) : Moves as s (admitFrame g c x payload s) :=
  ((countStream_moves ..).trans (countStream_moves ..)).trans (enqueueTx_moves x ht hl hr)

/-- What the management group's HIGH queue has when it takes an offer (R104). -/
theorem judgeOffer_taken {s : State} {n : Nat} {g : GroupIx} (h : s.judgeOffer n = .taken g) :
    s.dev.mgmtGroup = some g ∧ (s.group g).tx = .up ∧ ((s.group g).classQueue .high).length < Config.classQueueMax ∧
      s.storeRoom n = true := by
  unfold State.judgeOffer at h
  split at h
  · cases h
  · next k hk =>
    split at h
    · cases h
    · next ht =>
      split at h
      · cases h
      · next hq =>
        cases h
        simp only [not_or, Nat.not_le, Bool.not_eq_true', Bool.not_eq_false] at hq
        exact ⟨hk, by simpa using ht, hq.1, hq.2⟩

/-- A frame the HIGH queue of the management group takes, in a state that differs in counters alone. -/
theorem admitTaken_moves {g : GroupIx} {payload : List Byte} {s u : State} (h : s.judgeOffer payload.length = .taken g)
    (hg : u.group g = s.group g) (hs : u.storeFree = s.storeFree) : Moves as u (admitFrame g .high 0 payload u) := by
  obtain ⟨-, ht, hl, hr⟩ := judgeOffer_taken h
  exact admitFrame_moves 0 (hg ▸ ht) (hg ▸ hl) (by rw [State.storeRoom, hs]; exact hr)

/-! ### The intakes of management frames (R101 to R103, R145, R146) -/

theorem requestQueue_moves (o : Origin) (frame : List Byte) {s : State} (h : s.requestQueue.length < Config.requestQueueMax) :
    Moves as s { s with requestQueue := s.requestQueue ++ [⟨o, frame⟩] } :=
  (Move.requests _ (.inr (by rw [List.length_append]; exact h))).common

theorem remoteRequest_moves (frame : List Byte) (s : State) : Moves as s (remoteRequest frame s) := by
  unfold remoteRequest
  split
  · next h => exact (requestQueue_moves _ _ h).trans (countDev_moves ..)
  · refine (countDev_moves .remoteRefused 1 s).trans ?_
    dsimp only
    split
    · next h => exact admitTaken_moves h rfl rfl
    · exact .refl _

theorem bondIntake_moves (frame : List Byte) (s : State) : Moves as s (bondIntake frame s) := by
  have up : Moves as s (bondIntake.relayUp frame s) := by
    unfold bondIntake.relayUp
    split
    · next h => exact (countDev_moves ..).trans (mgmtJoin_moves _ h)
    · exact countDev_moves ..
  unfold bondIntake
  split
  · exact countDev_moves ..
  · split
    · exact remoteRequest_moves frame s
    · exact up
    · exact up
    · exact countDev_moves ..

theorem localRequest_moves (frame : List Byte) (s : State) : Moves as s (localRequest frame s) := by
  unfold localRequest
  split
  · next h => exact (requestQueue_moves _ _ h).trans (countDev_moves ..)
  · refine (countDev_moves .refused 1 s).trans ?_
    dsimp only
    split
    · next h => exact mgmtJoin_moves _ h
    · exact .refl _

theorem relayToPeer_moves (frame : List Byte) (s : State) : Moves as s (relayToPeer frame s) := by
  unfold relayToPeer
  split
  · next h => exact (countDev_moves ..).trans (admitTaken_moves h rfl rfl)
  · exact countDev_moves ..

theorem localIntake_moves (frame : List Byte) (s : State) : Moves as s (localIntake frame s) := by
  unfold localIntake
  split_ifs
  · exact countDev_moves ..
  · exact countDev_moves ..
  · split
    · exact localRequest_moves frame s
    · exact relayToPeer_moves frame s
    · exact countDev_moves ..

theorem classifyData_moves (x : StreamIx) (payload : List Byte) (s : State) : Moves as s (classifyData x payload s) := by
  unfold classifyData
  dsimp only
  split_ifs with h1 h2 h3 h4
  · exact countStream_moves ..
  · exact (countStream_moves ..).trans (countGroup_moves ..)
  · exact (countStream_moves ..).trans (countGroup_moves ..)
  · exact (countStream_moves ..).trans (countGroup_moves ..)
  · exact admitFrame_moves x (by simpa using h2) (Nat.not_le.1 h3) (by simpa using h4)

theorem takeIngress_moves (x : StreamIx) (errorMark straddles : Bool) (payload : List Byte) (s : State) :
    Moves as s (takeIngress x errorMark straddles payload s) := by
  unfold takeIngress
  split
  · exact .refl s
  · refine (countDev_moves .ingressFramesTaken 1 s).trans ?_
    unfold classify
    split_ifs
    · exact countStream_moves ..
    · exact localIntake_moves _ _
    · exact countStream_moves ..
    · exact classifyData_moves _ _ _

/-! ### The Frame Assembler (R64 to R71) -/

theorem handOnData_moves (g : GroupIx) (f : EgressFrame) (s : State) : Moves as s (handOnData g f s) := by
  unfold handOnData
  split
  · next h => exact egressJoin_moves f h
  · exact Moves.trans (GroupMove.common (.free {})) (countGroup_moves ..)

theorem handOnManagement_moves (g : GroupIx) (n : Nat) (frame : List Byte) (s : State) :
    Moves as s (handOnManagement g n frame s) := by
  unfold handOnManagement
  refine (releaseBuffers_moves g n s).trans ?_
  dsimp only
  split
  · exact (countGroup_moves ..).trans (bondIntake_moves _ _)
  · exact countGroup_moves ..

theorem judgeFrame_moves (g : GroupIx) (p : Building) (s : State) : Moves as s (judgeFrame g p s) := by
  have discard : ∀ c, Moves as s ((releaseBuffers g p.chain.length s).countGroup g c) := fun c =>
    (releaseBuffers_moves ..).trans (countGroup_moves ..)
  unfold judgeFrame
  dsimp only
  split_ifs
  · exact discard _
  · exact discard _
  · exact discard _
  · exact handOnManagement_moves ..
  · exact discard _
  · exact discard _
  · exact discard _
  · exact handOnData_moves ..

theorem setBuilding_moves (g : GroupIx) (b : Option Building) (s : State) : Moves as s (setBuilding g b s) :=
  GroupMove.common (.free {})

theorem setAwaiting_moves (g : GroupIx) (b : Bool) (s : State) : Moves as s (setAwaiting g b s) :=
  GroupMove.common (.free {})

theorem extendFrame_moves (g : GroupIx) (p : Building) (last : Bool) (s : State) : Moves as s (extendFrame g p last s) := by
  cases last
  · exact setBuilding_moves ..
  · exact (setBuilding_moves ..).trans (judgeFrame_moves ..)

theorem breakFrame_moves (g : GroupIx) (p : Building) (extra : Nat) (s : State) : Moves as s (breakFrame g p extra s) :=
  ((releaseBuffers_moves ..).trans (setBuilding_moves ..)).trans (countGroup_moves ..)

theorem assemble_moves (g : GroupIx) (d : DataSeg) (s : State) : Moves as s (assemble g d s) := by
  unfold assemble
  split
  · unfold assembleFirst
    dsimp only
    split
    · exact ((breakFrame_moves ..).trans (setAwaiting_moves ..)).trans (extendFrame_moves ..)
    · exact (setAwaiting_moves ..).trans (extendFrame_moves ..)
  · unfold assembleRest
    split
    · exact (releaseBuffers_moves ..).trans (countGroup_moves ..)
    · split
      · exact (releaseBuffers_moves ..).trans (countGroup_moves ..)
      · split
        · exact (breakFrame_moves ..).trans (setAwaiting_moves ..)
        · exact extendFrame_moves ..

theorem lossNotice_moves (g : GroupIx) (s : State) : Moves as s (lossNotice g s) := by
  unfold lossNotice
  split
  · exact (breakFrame_moves ..).trans (setAwaiting_moves ..)
  · exact setAwaiting_moves ..

theorem discardBuilding_moves (g : GroupIx) (s : State) : Moves as s (discardBuilding g s) := by
  unfold discardBuilding
  split
  · exact ((releaseBuffers_moves ..).trans (setBuilding_moves ..)).trans (countGroup_moves ..)
  · exact .refl s

theorem discardHeld_moves (g : GroupIx) (s : State) : Moves as s (discardHeld g s) := by
  unfold discardHeld
  split
  · exact ((releaseBuffers_moves ..).trans (GroupMove.common (.free {}))).trans (countGroup_moves ..)
  · exact .refl s

theorem discardInstruction_moves (g : GroupIx) (s : State) : Moves as s (discardInstruction g s) := by
  rw [discardInstruction_eq]
  exact ((discardBuilding_moves g s).trans (discardHeld_moves g _)).trans (setAwaiting_moves ..)

theorem contextDiscards_moves (g : GroupIx) (c : GroupCtr) (s : State) : Moves as s (contextDiscards g c s) :=
  (((releaseBuffers_moves ..).trans (GroupMove.common .emptyStore)).trans (countGroup_moves ..)).trans
    (discardInstruction_moves g _)

end

end Sys2Proof.Machine
end

section
/-! What the discards of a context and the completion of a GROUP-DISABLE make of the part (R58, R60, R71, R142). -/

namespace Sys2Proof.Machine

/- The kernel checks the theorems one after another. -/
set_option Elab.async false

/-! ### Counters raised twice -/

theorem raiseCounter_add {k : Nat} (v : Vector Counter k) (i : Fin k) (m n : Nat) :
    raiseCounter (raiseCounter v i m) i n = raiseCounter v i (m + n) := by
  simp only [raiseCounter, Fin.getElem_fin, Vector.getElem_set_self, Vector.set_set]
  rw [BitVec.add_assoc, BitVec.ofNat_add]

/-- A group changes and gives `n` of its buffers back to the pool. -/
def State.givesBack (s : State) (g : GroupIx) (n : GroupState → Nat) (f : GroupState → GroupState) : State :=
  ({ s with poolFree := s.poolFree + n (s.group g) } : State).modGroup g f

theorem State.givesBack_givesBack (s : State) (g : GroupIx) (m n : GroupState → Nat) (f h : GroupState → GroupState) :
    (s.givesBack g m f).givesBack g n h = s.givesBack g (fun x => m x + n (f x)) fun x => h (f x) := by
  simp only [State.givesBack, State.group_modGroup, ↓reduceIte, ← Nat.add_assoc]
  exact State.modGroup_modGroup { s with poolFree := s.poolFree + m (s.group g) + n (f (s.group g)) } g f h

theorem State.givesBack_congr {s : State} {g : GroupIx} {m n : GroupState → Nat} {f h : GroupState → GroupState}
    (hn : m (s.group g) = n (s.group g)) (hf : f (s.group g) = h (s.group g)) :
    s.givesBack g m f = s.givesBack g n h := by
  rw [State.givesBack, State.givesBack, hn]
  exact State.modGroup_congr hf

theorem State.givesBack_self {s : State} {g : GroupIx} {n : GroupState → Nat} {f : GroupState → GroupState}
    (hn : n (s.group g) = 0) (hf : f (s.group g) = s.group g) : s.givesBack g n f = s := by
  rw [State.givesBack, hn]
  exact State.modGroup_self hf

theorem State.givesBack_modGroup (s : State) (g : GroupIx) (n : GroupState → Nat) (f h : GroupState → GroupState) :
    (s.givesBack g n f).modGroup g h = s.givesBack g n fun x => h (f x) := State.modGroup_modGroup _ g f h

theorem State.modGroup_givesBack (s : State) (g : GroupIx) (n : GroupState → Nat) (f h : GroupState → GroupState) :
    (s.modGroup g f).givesBack g n h = s.givesBack g (fun x => n (f x)) fun x => h (f x) := by
  simp only [State.givesBack, State.group_modGroup, ↓reduceIte]
  exact State.modGroup_modGroup { s with poolFree := s.poolFree + n (f (s.group g)) } g f h

theorem State.group_givesBack (s : State) (g h : GroupIx) (n : GroupState → Nat) (f : GroupState → GroupState) :
    (s.givesBack g n f).group h = if h = g then f (s.group g) else s.group h :=
  State.group_modGroup { s with poolFree := s.poolFree + n (s.group g) } g h f

theorem NoteBlind.givesBack (g : GroupIx) (n : GroupState → Nat) (f : GroupState → GroupState) :
    NoteBlind fun s => s.givesBack g n f := ⟨fun _ _ => rfl, fun _ => rfl⟩

/-- The group once `n` of its buffers are given back, as far as it holds them, and counted (R80; log 23). -/
def GroupState.released (n : Nat) (x : GroupState) : GroupState :=
  { x with
    heldCount := x.heldCount - min n x.heldCount
    ctr := raiseCounter x.ctr GroupCtr.buffersReturned.ix (min n x.heldCount) }

theorem releaseBuffers_eq_givesBack (g : GroupIx) (n : Nat) (s : State) :
    releaseBuffers g n s = s.givesBack g (fun x => min n x.heldCount) (GroupState.released n) := by
  rw [releaseBuffers_eq]
  exact State.modGroup_congr rfl

/-- The group with a counter raised. -/
def GroupState.counted (c : GroupCtr) (n : Nat) (x : GroupState) : GroupState :=
  { x with ctr := raiseCounter x.ctr c.ix n }

theorem GroupState.released_released (m n : Nat) (x : GroupState) :
    (x.released m).released n = x.released (m + n) := by
  have hm : min m x.heldCount + min n (x.heldCount - min m x.heldCount) = min (m + n) x.heldCount := by omega
  simp only [GroupState.released, raiseCounter_add, hm, Nat.sub_sub]

theorem GroupState.counted_released (c : GroupCtr) (k n : Nat) (x : GroupState) :
    (x.released n).counted c k = (x.counted c k).released n := by
  simp only [GroupState.released, GroupState.counted, raiseCounter_comm _ c.ix]

/-! ### The discards of a context -/

/-- Buffers in the context: stored segments, the partial and the held frame (R72). -/
def GroupState.inContext (x : GroupState) : Nat :=
  x.store.length + (match x.building with | some p => p.chain.length | none => 0) +
    (match x.held with | some f => f.chain.length | none => 0)

/-- Buffers that go back when the context is discarded (R80; log 23). -/
def GroupState.discardCount (x : GroupState) : Nat := min x.inContext x.heldCount

/-- The group after its context is discarded, the entries counted with `c` (R58, R60, R71). -/
def GroupState.discarded (c : GroupCtr) (x : GroupState) : GroupState :=
  { x with
    store := []
    building := none
    held := none
    awaitingFirst := true
    heldCount := x.heldCount - x.discardCount
    ctr := raiseCounter (raiseCounter (raiseCounter x.ctr c.ix x.store.length) GroupCtr.assemblyDiscard.ix
      (x.building.toList.length + x.held.toList.length)) GroupCtr.buffersReturned.ix x.discardCount }

/-- The group after its store is discarded (R58, R60). -/
def GroupState.storeDropped (c : GroupCtr) (x : GroupState) : GroupState :=
  ({ x.released x.store.length with store := [] } : GroupState).counted c x.store.length

theorem discardStore_eq (g : GroupIx) (c : GroupCtr) (s : State) :
    discardStore g c s = s.givesBack g (fun x => min x.store.length x.heldCount) 
      (GroupState.storeDropped c) := by
  simp only [discardStore, State.countGroup, releaseBuffers_eq_givesBack, State.givesBack_modGroup]
  exact State.givesBack_congr rfl rfl

/-- Buffers of the partial frame. -/
def GroupState.partialLength (x : GroupState) : Nat := match x.building with | some p => p.chain.length | none => 0

/-- Buffers of the held frame. -/
def GroupState.heldLength (x : GroupState) : Nat := match x.held with | some f => f.chain.length | none => 0

/-- The group after its partial frame is discarded (R71). -/
def GroupState.partialDropped (x : GroupState) : GroupState :=
  ({ x.released x.partialLength with building := none } : GroupState).counted .assemblyDiscard x.building.toList.length

/-- The group after its held frame is discarded (R71). -/
def GroupState.heldDropped (x : GroupState) : GroupState :=
  ({ x.released x.heldLength with held := none } : GroupState).counted .assemblyDiscard x.held.toList.length

theorem discardBuilding_eq (g : GroupIx) (s : State) :
    discardBuilding g s = s.givesBack g (fun x => min x.partialLength x.heldCount) 
      GroupState.partialDropped := by
  unfold discardBuilding
  cases h : (s.group g).building with
  | none =>
    have hn : (s.group g).partialLength = 0 := by simp [GroupState.partialLength, h]
    refine (State.givesBack_self (by simp [hn]) ?_).symm
    simp only [GroupState.partialDropped, GroupState.counted, GroupState.released, hn, h]
    simp
    rw [← h]
  | some p =>
    have hn : (s.group g).partialLength = p.chain.length := by simp [GroupState.partialLength, h]
    simp only [setBuilding, State.countGroup, releaseBuffers_eq_givesBack, State.givesBack_modGroup]
    refine State.givesBack_congr (by rw [hn]) ?_
    simp only [GroupState.partialDropped, hn, h]
    rfl

theorem discardHeld_eq (g : GroupIx) (s : State) :
    discardHeld g s = s.givesBack g (fun x => min x.heldLength x.heldCount) 
      GroupState.heldDropped := by
  unfold discardHeld
  cases h : (s.group g).held with
  | none =>
    have hn : (s.group g).heldLength = 0 := by simp [GroupState.heldLength, h]
    refine (State.givesBack_self (by simp [hn]) ?_).symm
    simp only [GroupState.heldDropped, GroupState.counted, GroupState.released, hn, h]
    simp
    rw [← h]
  | some f =>
    have hn : (s.group g).heldLength = f.chain.length := by simp [GroupState.heldLength, h]
    simp only [State.countGroup, releaseBuffers_eq_givesBack, State.givesBack_modGroup]
    refine State.givesBack_congr (by rw [hn]) ?_
    simp only [GroupState.heldDropped, hn, h]
    rfl

theorem GroupState.discardCount_eq (c : GroupCtr) (x : GroupState) :
    min x.store.length x.heldCount + min (x.storeDropped c).partialLength (x.storeDropped c).heldCount +
      min (x.storeDropped c).partialDropped.heldLength (x.storeDropped c).partialDropped.heldCount = x.discardCount := by
  have h1 : (x.storeDropped c).heldCount = x.heldCount - min x.store.length x.heldCount := rfl
  have h2 : (x.storeDropped c).partialLength = x.partialLength := rfl
  have h3 : (x.storeDropped c).partialDropped.heldCount =
    (x.storeDropped c).heldCount - min (x.storeDropped c).partialLength (x.storeDropped c).heldCount := rfl
  have h4 : (x.storeDropped c).partialDropped.heldLength = x.heldLength := by
    simp only [GroupState.heldLength, GroupState.partialDropped, GroupState.storeDropped, GroupState.counted,
      GroupState.released]
  have h5 : x.discardCount = min (x.store.length + x.partialLength + x.heldLength) x.heldCount := rfl
  rw [h5, h4, h3, h2, h1]
  omega

theorem GroupState.partialDropped_released (n : Nat) (x : GroupState) :
    (x.released n).partialDropped = (({ x with building := none } : GroupState).counted .assemblyDiscard
      x.building.toList.length).released (n + x.partialLength) := by
  rw [← GroupState.released_released, ← GroupState.counted_released, ← GroupState.counted_released]
  rfl

theorem GroupState.heldDropped_released (n : Nat) (x : GroupState) :
    (x.released n).heldDropped = (({ x with held := none } : GroupState).counted .assemblyDiscard
      x.held.toList.length).released (n + x.heldLength) := by
  rw [← GroupState.released_released, ← GroupState.counted_released, ← GroupState.counted_released]
  rfl

/-- The group with its context emptied and the discards counted, before the buffers go back (R58, R60, R71). -/
def GroupState.emptied (c : GroupCtr) (x : GroupState) : GroupState :=
  { x with
    store := []
    building := none
    held := none
    awaitingFirst := true
    ctr := raiseCounter (raiseCounter x.ctr c.ix x.store.length) GroupCtr.assemblyDiscard.ix
      (x.building.toList.length + x.held.toList.length) }

theorem GroupState.emptied_eq (c : GroupCtr) (x : GroupState) :
    ({ ({ ({ ({ x with store := [] } : GroupState).counted c x.store.length with
      building := none } : GroupState).counted .assemblyDiscard x.building.toList.length with
      held := none } : GroupState).counted .assemblyDiscard x.held.toList.length with
      awaitingFirst := true } : GroupState) = x.emptied c := by
  simp only [GroupState.counted, GroupState.emptied, raiseCounter_add]

theorem GroupState.discarded_eq (c : GroupCtr) (x : GroupState) :
    { (x.storeDropped c).partialDropped.heldDropped with awaitingFirst := true } = x.discarded c := by
  have hstore : x.storeDropped c = (({ x with store := [] } : GroupState).counted c x.store.length).released x.store.length :=
    GroupState.counted_released c _ _ { x with store := [] }
  rw [hstore, GroupState.partialDropped_released, GroupState.heldDropped_released]
  exact congrArg (GroupState.released (x.store.length + x.partialLength + x.heldLength)) (GroupState.emptied_eq c x)

/-- The three discards together: a context gives back its buffers, as far as the group holds them. -/
theorem contextDiscards_eq (g : GroupIx) (c : GroupCtr) (s : State) :
    contextDiscards g c s = s.givesBack g GroupState.discardCount (GroupState.discarded c) := by
  rw [contextDiscards, discardInstruction_eq, discardHeld_eq, discardBuilding_eq, discardStore_eq, setAwaiting]
  simp only [State.givesBack_givesBack, State.givesBack_modGroup]
  exact State.givesBack_congr (GroupState.discardCount_eq c _) (GroupState.discarded_eq c _)

/-! ### Entry into RESYNC (R58) -/

/-- The group after its entry into RESYNC (R58). -/
def GroupState.resynced (x : GroupState) : GroupState := (x.discarded .resyncDiscard).cleared .resync

theorem clearStrikes_modGroup (g h : GroupIx) (f : GroupState → GroupState) (s : State) :
    clearStrikes g (s.modGroup h f) = (clearStrikes g s).modGroup h f := rfl

theorem enterResync_emits (g : GroupIx) (s : State) :
    Emits (if (s.group g).ctx = .resync then [] else [.groupRx g (s.group g).ctx .resync])
      (clearStrikes g (s.givesBack g GroupState.discardCount GroupState.resynced)) (enterResync g s) := by
  have h := setCtx_emits g .resync (clearStrikes g (clearSequences g (contextDiscards g .resyncDiscard s)))
  have hctx : ((clearStrikes g (clearSequences g (contextDiscards g .resyncDiscard s))).group g).ctx = (s.group g).ctx := by
    change ((clearSequences g (contextDiscards g .resyncDiscard s)).group g).ctx = _
    rw [contextDiscards_eq, clearSequences, State.givesBack_modGroup, State.group_givesBack, if_pos rfl]
    rfl
  have hupd : (clearStrikes g (clearSequences g (contextDiscards g .resyncDiscard s))).modGroup g
      (fun x => { x with ctx := .resync }) = clearStrikes g (s.givesBack g GroupState.discardCount GroupState.resynced) := by
    rw [← clearStrikes_modGroup, contextDiscards_eq, clearSequences, State.givesBack_modGroup, State.givesBack_modGroup]
    rfl
  rw [hctx, hupd] at h
  exact h

/-! ### The completion of a GROUP-DISABLE (R142) -/

/-- The part once the disable of `g` has completed, its slot aside (R60, R142). -/
def State.groupDisabled (s : State) (g : GroupIx) : State :=
  (s.dropped g).givesBack g GroupState.discardCount fun x => (x.discarded .disableDiscard).disabled

@[simp] theorem State.group_dropped (s : State) (g h : GroupIx) : (s.dropped g).group h = s.group h := rfl

/-- The RECEIVE-SET records of the associations to `g` that end (R142). -/
def State.leftRecords (s : State) (g : GroupIx) : List NoteBody :=
  allLanes.flatMap fun l => if (s.lane l).assoc.group? = some g then [.receiveSet l (s.lane l).assoc .none g .left] else []

theorem State.disableRecords_eq (s : State) (g : GroupIx) (k : SlotIx) (o : OpOutcome) :
    s.disableRecords g k o = s.leftRecords g ++
      (if (s.group g).ctx = .disabled then [] else [.groupRx g (s.group g).ctx .disabled]) ++
      (if (s.group g).tx = .disabled then [] else [.groupTx g (s.group g).tx .disabled]) ++ (s.slot k).endRecords k o := by
  have hleft : ∀ ls : List LaneIx,
      (ls.filterMap fun l =>
        if (s.lane l).assoc.group? = some g then some (.receiveSet l (s.lane l).assoc .none g .left) else none) =
      ls.flatMap fun l =>
        if (s.lane l).assoc.group? = some g then [NoteBody.receiveSet l (s.lane l).assoc .none g .left] else [] := by
    intro ls
    induction ls with
    | nil => rfl
    | cons l ls ih =>
      rw [List.filterMap_cons, List.flatMap_cons, ← ih]
      split_ifs <;> rfl
  rw [State.disableRecords, hleft]
  rfl

/-- The group without its disable record. -/
def GroupState.undisabling (x : GroupState) : GroupState := { x with disable := none }

theorem GroupState.discardCount_undisabling (x : GroupState) : x.undisabling.discardCount = x.discardCount := rfl

theorem GroupState.disabled_undisabling (x : GroupState) :
    ({ (x.undisabling.discarded .disableDiscard).cleared .disabled with tx := .disabled } : GroupState) =
      (x.discarded .disableDiscard).disabled := by
  unfold GroupState.discarded
  rw [GroupState.discardCount_undisabling]
  rfl

/-- Entry into DISABLED but for its posts: the context cleared, then both states set. -/
theorem groupDisabled_steps (s : State) (g : GroupIx) :
    ((clearSequences g (contextDiscards g .disableDiscard ((s.modGroup g GroupState.undisabling).dropped g))).modGroup g
      fun x => { x with ctx := .disabled }).modGroup g (fun x => { x with tx := .disabled }) = s.groupDisabled g := by
  have hdrop : (s.modGroup g GroupState.undisabling).dropped g = (s.dropped g).modGroup g GroupState.undisabling := rfl
  rw [hdrop, contextDiscards_eq, clearSequences, State.modGroup_givesBack, State.givesBack_modGroup,
    State.givesBack_modGroup, State.givesBack_modGroup]
  exact State.givesBack_congr (GroupState.discardCount_undisabling _) (GroupState.disabled_undisabling _)

/-- What the entry into DISABLED leaves of the group before its states are set. -/
theorem clearSequences_contextDiscards_group (g : GroupIx) (c : GroupCtr) (s : State) :
    (clearSequences g (contextDiscards g c s)).group g = ((s.group g).discarded c).cleared (s.group g).ctx := by
  rw [contextDiscards_eq, clearSequences, State.givesBack_modGroup, State.group_givesBack, if_pos rfl]
  rfl

theorem clearSequences_contextDiscards_slot (g : GroupIx) (c : GroupCtr) (s : State) (k : SlotIx) :
    (clearSequences g (contextDiscards g c s)).slot k = s.slot k := by
  rw [contextDiscards_eq]
  rfl

theorem enterDisabled_emits (g : GroupIx) (s : State) :
    Emits (if (s.group g).ctx = .disabled then [] else [.groupRx g (s.group g).ctx .disabled])
      ((clearSequences g (contextDiscards g .disableDiscard s)).modGroup g fun x => { x with ctx := .disabled })
      (enterDisabled g s) := by
  have h := setCtx_emits g .disabled (clearSequences g (contextDiscards g .disableDiscard s))
  rw [clearSequences_contextDiscards_group] at h
  exact h

theorem completeDisable_emits (g : GroupIx) (d : DisableRec) (o : OpOutcome) (s : State) :
    Emits (s.disableRecords g d.slot o) (slotEnds d.slot o (s.groupDisabled g)) (completeDisable g d o s) := by
  have hends : NoteBlind (slotEnds d.slot o) := .slotEnds ..
  have htx : NoteBlind fun u => slotEnds d.slot o (u.modGroup g fun x => { x with tx := .disabled }) :=
    hends.comp (.modGroup g _)
  have hctx : NoteBlind fun u => slotEnds d.slot o (((clearSequences g (contextDiscards g .disableDiscard u)).modGroup g
      fun x => { x with ctx := .disabled }).modGroup g fun x => { x with tx := .disabled }) :=
    htx.comp ((NoteBlind.modGroup g _).comp ((NoteBlind.clearSequences g).comp (.contextDiscards g _)))
  have e1 := dropAssocs_emits g (s.modGroup g GroupState.undisabling)
  generalize hu : dropAssocs g (s.modGroup g GroupState.undisabling) = u at e1
  have hgroup : u.group g = (s.group g).undisabling := by
    rw [e1.notesOnly.group_eq, State.group_dropped, State.group_modGroup, if_pos rfl]
  have e2 := enterDisabled_emits g u
  have e3 := setTx_emits g .disabled (enterDisabled g u)
  have e4 := endSlot_emits d.slot o (setTx g .disabled (enterDisabled g u))
  have htxold : ((enterDisabled g u).group g).tx = (s.group g).tx := by
    rw [e2.notesOnly.group_eq, State.group_modGroup, if_pos rfl, clearSequences_contextDiscards_group, hgroup]
    rfl
  have hslot : (setTx g .disabled (enterDisabled g u)).slot d.slot = s.slot d.slot := by
    rw [e3.notesOnly.slot_eq, State.slot_modGroup, e2.notesOnly.slot_eq, State.slot_modGroup,
      clearSequences_contextDiscards_slot, e1.notesOnly.slot_eq]
    rfl
  rw [hslot] at e4
  rw [htxold] at e3
  rw [hgroup] at e2
  have hall := (((e1.map hctx).trans (e2.map htx)).trans (e3.map hends)).trans e4
  rw [groupDisabled_steps] at hall
  rw [State.disableRecords_eq, completeDisable]
  rw [← hu] at hall
  exact hall

end Sys2Proof.Machine
end

section
/-! The receive contexts as chains of moves: the window of a store, the resolution, markers, RESYNC. -/

namespace Sys2Proof.Machine

/- The kernel checks the theorems one after another. -/
set_option Elab.async false

/-! ### The window (law L2, R43) -/

/-- Distances from a later expected sequence. -/
theorem dist_advance {e e' q : Seq} (h : dist e e' ≤ dist e q) : dist e' q + dist e e' = dist e q := by
  unfold dist at *
  bv_omega

/-- Entries at or beyond a later expected sequence stay windowed. -/
theorem windowed.advance {e e' : Seq} {w : Nat} {store kept : List DataSeg} (h : windowed e w store)
    (hk : kept.Sublist store) (he : ∀ d ∈ kept, dist e e' ≤ dist e d.seq) : windowed e' w kept := by
  obtain ⟨hw, hp⟩ := h
  refine ⟨fun d hd => ?_, (hp.sublist hk).imp_of_mem fun {a b} ha hb hab => ?_⟩
  · have := dist_advance (he d hd)
    have := hw d (hk.mem hd)
    omega
  · have := dist_advance (he a ha)
    have := dist_advance (he b hb)
    omega

/-- An entry that is not at the expected sequence is beyond it. -/
theorem dist_succ_le {e q : Seq} (h : q ≠ e) : dist e (e + 1) ≤ dist e q := by
  have h0 : dist e q ≠ 0 := fun h' => h ((dist_eq_zero e q).1 h')
  have h1 : dist e (e + 1) = 1 := by unfold dist; bv_omega
  omega

theorem mem_insertStore {e : Seq} {d x : DataSeg} {store : List DataSeg} :
    x ∈ insertStore e d store ↔ x = d ∨ x ∈ store := by
  induction store with
  | nil => simp [insertStore]
  | cons y rest ih =>
    unfold insertStore
    split
    · simp
    · simp only [List.mem_cons, ih]
      tauto

theorem windowed.insert {e : Seq} {w : Nat} {d : DataSeg} {store : List DataSeg} (h : windowed e w store)
    (hd : dist e d.seq < w) (hn : ∀ x ∈ store, x.seq ≠ d.seq) : windowed e w (insertStore e d store) := by
  obtain ⟨hw, hp⟩ := h
  refine ⟨fun x hx => ?_, ?_⟩
  · rcases mem_insertStore.1 hx with rfl | hx
    · exact hd
    · exact hw x hx
  · clear hw
    induction store with
    | nil => exact List.pairwise_singleton _ _
    | cons y rest ih =>
      obtain ⟨hy, hrest⟩ := List.pairwise_cons.1 hp
      unfold insertStore
      split
      · next hlt =>
        exact hp.cons fun x hx => (List.mem_cons.1 hx).elim (fun e => e ▸ hlt) fun hx => hlt.trans (hy x hx)
      · next hlt =>
        have hne : dist e y.seq ≠ dist e d.seq := fun heq => by
          have := hn y List.mem_cons_self
          unfold dist at heq
          bv_omega
        refine (ih (fun x hx => hn x (List.mem_cons_of_mem _ hx)) hrest).cons fun x hx => ?_
        rcases mem_insertStore.1 hx with rfl | hx
        · omega
        · exact hy x hx

/-! ### Lanes and groups all together -/

section
variable {as : List Aspect}

/-- Every lane makes a move, in lane order. -/
theorem lanes_moves {upd : LaneIx → LaneState → LaneState} {s : State}
    (h : ∀ u l, u.lane l = s.lane l → Moves as u (u.modLane l (upd l))) :
    Moves as s { s with lanes := Vector.ofFn fun l : Fin 8 => upd l s.lanes[l] } := by
  have fold : ∀ ls : List LaneIx, ls.Nodup → ∀ u : State, (∀ l ∈ ls, u.lane l = s.lane l) →
      Moves as u (ls.foldl (fun s l => s.modLane l (upd l)) u) := by
    intro ls
    induction ls with
    | nil => exact fun _ u _ => .refl u
    | cons l ls ih =>
      intro hn u hu
      refine (h u l (hu l List.mem_cons_self)).trans (ih (List.nodup_cons.1 hn).2 _ fun m hm => ?_)
      have hml : m ≠ l := fun e => (List.nodup_cons.1 hn).1 (e ▸ hm)
      rw [State.lane_modLane, if_neg hml]
      exact hu m (List.mem_cons_of_mem _ hm)
  rw [← foldl_modLane]
  exact fold allLanes allLanes_nodup s fun _ _ => rfl

/-- Every lane is changed alike. -/
theorem lanes_map_moves {f : LaneState → LaneState} (h : ∀ u l, Moves as u (u.modLane l f)) (s : State) :
    Moves as s { s with lanes := s.lanes.map f } := by
  have e : s.lanes.map f = Vector.ofFn fun l : Fin 8 => f s.lanes[l] := by
    ext i hi
    simp
  rw [e]
  exact lanes_moves fun u l _ => h u l

/-- Every group is changed alike. -/
theorem groups_map_moves {f : GroupState → GroupState} (h : ∀ u g, Moves as u (u.modGroup g f)) (s : State) :
    Moves as s { s with groups := s.groups.map f } := by
  have fold : ∀ (gs : List GroupIx) (u : State), Moves as u (gs.foldl (fun s g => s.modGroup g f) u) := by
    intro gs
    induction gs with
    | nil => exact fun u => .refl u
    | cons g gs ih => exact fun u => (h u g).trans (ih _)
  have e : allGroups.foldl (fun s g => s.modGroup g f) s = { s with groups := s.groups.map f } := by
    simp only [allGroups, List.foldl_cons, List.foldl_nil, State.modGroup]
    congr 1
    ext i hi
    interval_cases i <;> simp
  rw [← e]
  exact fold allGroups s

/-! ### States of a context -/

/-- A posted change of a context's state is a move where the change is one. -/
theorem setCtx_moves {g : GroupIx} {c : CtxState} {s u : State} (h : Moves as s (u.modGroup g fun x => { x with ctx := c })) :
    Moves as s (setCtx g c u) := h.trans (setCtx_emits g c u).moves

theorem State.liveState_live (s : State) (g : GroupIx) : (s.liveState g).live = true := by
  unfold State.liveState
  split <;> rfl

/-- FORMING and UP are judged by the member count. -/
theorem setCtx_live_moves {g : GroupIx} {c : CtxState} {s : State} (h : (s.group g).ctx.live = true)
    (hc : c.live = true) : Moves as s (setCtx g c s) :=
  setCtx_moves (GroupMove.common (.flip c h hc))

theorem State.waitsAt_some {s : State} {g : GroupIx} {e : Seq} :
    s.waitsAt g = some e ↔ (s.group g).ctx.live = true ∧ (s.group g).expected = some e := by
  unfold State.waitsAt
  split <;> simp_all

/-! ### The resolution (R47 to R51) -/

theorem setHoleTimer_moves (g : GroupIx) (s : State) : Moves as s (setHoleTimer g s) := by
  unfold setHoleTimer
  dsimp only
  refine GroupMove.common (.free { hole := ?_ })
  cases h : s.waitsAt g with
  | none => exact .inr (.inl rfl)
  | some e => exact .inr (.inr (State.waitsAt_some.1 h).1)

/-- The expected sequence and the store move together. -/
theorem expect_moves {g : GroupIx} {e e' : Seq} {f : List DataSeg → List DataSeg} {s : State}
    (hl : (s.group g).ctx.live = true) (he : (s.group g).expected = some e)
    (hw : windowed e (s.group g).window (s.group g).store → windowed e' (s.group g).window (f (s.group g).store)) :
    Moves as s (s.modGroup g fun x => { x with store := f x.store, expected := some e' }) :=
  GroupMove.common (.expect e e' _ hl he hw)

theorem resolveOnce_moves {g : GroupIx} {s t : State} (h : resolveOnce g s = some t) : Moves as s t := by
  obtain ⟨hl, e, he, ⟨d, -, hd, -, rfl⟩ | ⟨hn, -, rfl⟩⟩ := resolveOnce_cases h
  · unfold deliver
    refine ((expect_moves (f := List.filter fun y => decide (y.seq ≠ d.seq)) hl he fun hw => ?_).trans
      (countGroup_moves ..)).trans (assemble_moves ..)
    refine hw.advance List.filter_sublist fun x hx => ?_
    rw [hd]
    exact dist_succ_le (by simpa [hd] using (List.mem_filter.1 hx).2)
  · unfold skipFast
    refine Moves.trans ?_ ((countGroup_moves ..).trans (lossNotice_moves ..))
    exact expect_moves (f := id) hl he fun hw => hw.advance (List.Sublist.refl _) fun x hx => dist_succ_le (hn x hx)

theorem resolve_moves (g : GroupIx) (s : State) : Moves as s (resolve g s) :=
  resolve_keeps (P := Moves as s) (.refl s) (fun _ _ hu ht => hu.trans (resolveOnce_moves ht))
    fun u hu => hu.trans (setHoleTimer_moves g u)

theorem resolveIfLive_moves (g : GroupIx) (s : State) : Moves as s (resolveIfLive g s) := by
  unfold resolveIfLive
  split
  · exact resolve_moves g s
  · exact .refl s

/-! ### Arrival (R41 to R44) -/

theorem placeArrival_moves {g : GroupIx} (d : DataSeg) {e : Seq} {s : State} (hl : (s.group g).ctx.live = true)
    (he : (s.group g).expected = some e) : Moves as s (placeArrival g d e s) := by
  unfold placeArrival
  split_ifs with h1 h2 h3
  · exact countGroup_moves ..
  · exact countGroup_moves ..
  · exact countGroup_moves ..
  · split
    · exact (countGroup_moves g .noBuffer 1 s).trans (refuseBuffer_moves ..)
    · next k hk =>
      refine ((grantBuffer_moves g k (judgeRequest_free hk)).trans ?_).trans (countGroup_moves ..)
      have hg : (grantBuffer g k s).group g =
          { s.group g with
            heldCount := (s.group g).heldCount + 1, armed := true
            ctr := raiseCounter (s.group g).ctr k.counter.ix 1 } := by
        unfold grantBuffer
        rw [State.group_countGroup, if_pos rfl, State.group_modGroup, if_pos rfl]
        rfl
      have hexp : ((grantBuffer g k s).group g).expected = some e := by rw [hg]; exact he
      have hmove := expect_moves (as := as) (f := insertStore e d) (s := grantBuffer g k s) (g := g) (e := e) (e' := e)
        (by rw [hg]; exact hl) hexp (by
          rw [hg]
          intro hw
          refine hw.insert (Nat.not_le.1 h2) fun x hx hxs => h3 ?_
          exact List.any_eq_true.2 ⟨x, hx, decide_eq_true hxs⟩)
      rwa [State.modGroup_congr (h := fun x => { x with store := insertStore e d x.store }) (by rw [← hexp])] at hmove

theorem raiseMarks_moves (g : GroupIx) (l : LaneIx) (q : Seq) (hm : .mark ∈ as) (s : State) :
    Moves as s (raiseMarks g l q s) := by
  refine (LaneMove.moves (.raise q) hm).trans (GroupMove.common (.free { highest := fun h => ?_ }))
  rw [h]
  rfl

theorem raiseMarks_group (g : GroupIx) (l : LaneIx) (q : Seq) (s : State) (h : GroupIx) :
    (raiseMarks g l q s).group h =
      if h = g then { s.group g with highest := (s.group g).highest.map fun m => raiseTo m q } else s.group h := by
  unfold raiseMarks
  rw [State.group_modGroup]
  rfl

theorem arrive_moves (l : LaneIx) (d : DataSeg) (hm : .mark ∈ as) (s : State) : Moves as s (arrive l d s) := by
  unfold arrive
  dsimp only
  split_ifs
  · exact countGroup_moves ..
  · exact countGroup_moves ..
  · cases hw : s.waitsAt d.group with
    | none => exact countGroup_moves ..
    | some e =>
      obtain ⟨hl, he⟩ := State.waitsAt_some.1 hw
      refine ((raiseMarks_moves d.group l d.seq hm s).trans (placeArrival_moves d ?_ ?_)).trans (resolve_moves ..)
      · rw [raiseMarks_group, if_pos rfl]; exact hl
      · rw [raiseMarks_group, if_pos rfl]; exact he

/-! ### RESYNC and departures (R40, R58) -/

theorem clearStrikes_moves (g : GroupIx) (s : State) : Moves as s (clearStrikes g s) := by
  refine lanes_map_moves (fun u l => ?_) s
  by_cases h : (u.lane l).assoc.memberOf g = true
  · rw [State.modLane_congr (h := fun x => { x with assoc := x.assoc.withStrikes 0 }) (by rw [if_pos h])]
    exact LaneMove.common (.strikes 0 (.inl rfl))
  · rw [State.modLane_self (by rw [if_neg h])]
    exact .refl u

theorem contextDiscards_group (g : GroupIx) (c : GroupCtr) (s : State) :
    (contextDiscards g c s).group g = (s.group g).discarded c := by
  rw [contextDiscards_eq, State.group_givesBack, if_pos rfl]

theorem enterResync_moves {g : GroupIx} {s : State} (h : (s.group g).ctx.live = true) : Moves as s (enterResync g s) := by
  have hclear : Moves as (contextDiscards g .resyncDiscard s)
      ((contextDiscards g .resyncDiscard s).modGroup g (GroupState.cleared .resync)) := by
    have hg := contextDiscards_group g .resyncDiscard s
    refine GroupMove.common ?_
    have hmove : GroupMove ((s.group g).discarded .resyncDiscard) .common
      (((s.group g).discarded .resyncDiscard).cleared .resync) := .resync h
    rwa [← hg] at hmove
  refine ((contextDiscards_moves g .resyncDiscard s).trans hclear).trans (Moves.trans ?_ (enterResync_emits g s).moves)
  rw [contextDiscards_eq, State.givesBack_modGroup]
  exact clearStrikes_moves ..

theorem departed_moves (g : GroupIx) (s : State) : Moves as s (departed g s) := by
  unfold departed
  by_cases hl : (s.group g).ctx.live = true
  · rw [if_neg (by simp [hl])]
    split_ifs
    · exact enterResync_moves hl
    · exact (setCtx_live_moves hl (s.liveState_live g)).trans (resolve_moves ..)
    · exact resolve_moves ..
  · rw [if_pos (by simp [hl])]
    exact .refl s

theorem memberAdded_moves (g : GroupIx) (s : State) : Moves as s (memberAdded g s) := by
  unfold memberAdded
  split
  · next h => exact setCtx_live_moves (by rw [h]; rfl) (s.liveState_live g)
  · exact .refl s

/-! ### Markers at a context (R52 to R56) -/

theorem leaveResync_moves {g : GroupIx} (S : Seq) {s : State} (h : (s.group g).ctx = .resync) :
    Moves as s (leaveResync g S s) := by
  refine setCtx_moves ?_
  rw [State.modGroup_modGroup]
  exact GroupMove.common (.begin (s.liveState g) S (S - 1) h (s.liveState_live g))

theorem countGroup_modLane (g : GroupIx) (c : GroupCtr) (n : Nat) (l : LaneIx) (f : LaneState → LaneState) (s : State) :
    (s.modLane l f).countGroup g c n = (s.countGroup g c n).modLane l f := rfl

/-- A MEMBER lane is SUSPENDED, whatever is posted with it. -/
theorem suspended_moves {l : LaneIx} {g : GroupIx} {b : NoteBody} {hold : Option Time} {s : State}
    (h : s.isMember g l = true) :
    Moves as s (departed g (post b (s.modLane l fun x => { x with assoc := .suspended g, skewHold := hold }))) := by
  have hmem : ∃ h m k, (s.lane l).assoc = .member h m k ∧ Assoc.suspended g = .suspended h := by
    unfold State.isMember Assoc.memberOf at h
    split at h
    · next k m n e => exact ⟨k, m, n, e, by rw [of_decide_eq_true h]⟩
    · cases h
  exact ((LaneMove.common (.leave _ hold (.inr hmem))).trans (post_moves ..)).trans (departed_moves ..)

theorem measureSkew_moves {l : LaneIx} {g : GroupIx} (S : Seq) {s : State} (h : s.isMember g l = true) :
    Moves as s (measureSkew l g S s) := by
  unfold measureSkew
  split
  · next k m n e =>
    dsimp only
    split_ifs with h1 h2
    · refine ((countGroup_moves g .skewStrikes 1 s).trans (countGroup_moves g .skewSuspensions 1 _)).trans ?_
      unfold suspendForSkew suspend
      simp only [countGroup_modLane, State.modLane_modLane]
      exact suspended_moves h
    · refine (LaneMove.common (.strikes (n + 1) (.inr ⟨g, Nat.not_le.1 h2⟩))).trans (countGroup_moves ..)
    · exact LaneMove.common (.strikes 0 (.inl rfl))
  · exact .refl s

theorem memberOf_withMark (a : Assoc) (f : Seq → Seq) (g : GroupIx) : (a.withMark f).memberOf g = a.memberOf g := by
  cases a <;> rfl

/-- A raised mark moves no lane in or out of a receive set. -/
theorem isMember_raised (l m : LaneIx) (f : Seq → Seq) (g : GroupIx) (s : State) :
    (s.modLane l fun x => { x with assoc := x.assoc.withMark f }).isMember g m = s.isMember g m := by
  unfold State.isMember
  rw [State.lane_modLane]
  split
  · next h => rw [memberOf_withMark, h]
  · rfl

theorem applyMarker_moves {l : LaneIx} {g : GroupIx} (S : Seq) (wasMember : Bool) {s : State} (hm : .mark ∈ as)
    (h : s.isMember g l = true) : Moves as s (applyMarker l g S wasMember s) := by
  have hraise : Moves as s (s.modLane l fun x => { x with assoc := x.assoc.withMark fun m => raiseTo m (S - 1) }) :=
    LaneMove.moves (.raise (S - 1)) hm
  unfold applyMarker
  refine hraise.trans ?_
  dsimp only
  split_ifs with h1 h2
  · refine Moves.trans (leaveResync_moves S ?_) (resolveIfLive_moves ..)
    exact h1
  · exact (measureSkew_moves S (by rw [isMember_raised]; exact h)).trans (resolveIfLive_moves ..)
  · exact resolveIfLive_moves ..

/-! ### The hole timer's expiry (R49) -/

theorem holeExpires_moves (g : GroupIx) (s : State) : Moves as s (holeExpires g s) := by
  unfold holeExpires
  split
  · exact .refl s
  · next h _ =>
    have hstop : Moves as s ((s.passTo h.expiry).modGroup g fun x => { x with hole := none }) :=
      (passTo_moves ..).trans (GroupMove.common (.free { hole := .inr (.inl rfl) }))
    refine hstop.trans ?_
    dsimp only
    split
    · next e d rest he hs =>
      obtain ⟨hl, hexp⟩ := State.waitsAt_some.1 he
      refine Moves.trans ?_ ((countGroup_moves ..).trans ((countGroup_moves ..).trans ((lossNotice_moves ..).trans
        (resolve_moves ..))))
      refine expect_moves (f := id) hl hexp fun hw => hw.advance (List.Sublist.refl _) fun x hx => ?_
      rw [id, hs] at hx
      rw [hs] at hw
      rcases List.mem_cons.1 hx with rfl | hx
      · exact le_rfl
      · exact (List.rel_of_pairwise_cons hw.2 hx).le
    · exact .refl _

end

end Sys2Proof.Machine
end

section
/-! The Membership Controller as chains of moves: roles, operations, disables, the peer report, associations. -/

namespace Sys2Proof.Machine

/- The kernel checks the theorems one after another. -/
set_option Elab.async false

/-! ### What moves leave of a lane -/

/-- Moves that change no receive state, admin state or diagnostic mode. -/
def Aspect.keepsService (k : Aspect) : Bool :=
  match k with
  | .rx => false
  | .admin => false
  | .mode => false
  | _ => true

/-- The receive state, the admin state and the diagnostic mode of a lane stay. -/
def LaneState.SameService (x x' : LaneState) : Prop := x'.rx = x.rx ∧ x'.inService = x.inService ∧ x'.diag = x.diag

theorem LaneFree.sameService {s : State} {x x' : LaneState} (h : LaneFree s x x') : x.SameService x' :=
  ⟨(congrArg LaneState.rx h.rest).trans rfl, (congrArg LaneState.inService h.rest).trans rfl,
    (congrArg LaneState.diag h.rest).trans rfl⟩

theorem LaneMove.sameService {s : State} {x x' : LaneState} {k : Aspect} (h : LaneMove s x k x')
    (hk : k.keepsService = true) : x.SameService x' := by
  cases h with
  | free h => exact h.sameService
  | rx => cases hk
  | admin => cases hk
  | mode => cases hk
  | _ => exact ⟨rfl, rfl, rfl⟩

/-- What a move leaves of each lane: the lane, or what one move of that lane makes of it. -/
theorem Move.lane_cases {s t : State} {k : Aspect} (h : Move s k t) (l : LaneIx) :
    t.lane l = s.lane l ∨ LaneMove s (s.lane l) k (t.lane l) := by
  cases h with
  | plain h => exact .inl (by rw [h]; rfl)
  | noted h => exact .inl (h.notesOnly.lane_eq l)
  | lane m f h =>
    by_cases e : l = m
    · subst e; exact .inr (by rwa [State.lane_modLane, if_pos rfl])
    · exact .inl (by rw [State.lane_modLane, if_neg e])
  | _ => exact .inl rfl

/-- What a move leaves of each group. -/
theorem Move.group_cases {s t : State} {k : Aspect} (h : Move s k t) (g : GroupIx) :
    t.group g = s.group g ∨ GroupMove (s.group g) k (t.group g) := by
  cases h with
  | plain h => exact .inl (by rw [h]; rfl)
  | noted h => exact .inl (h.notesOnly.group_eq g)
  | group m f pool store h =>
    by_cases e : g = m
    · subst e
      refine .inr ?_
      rw [State.group_modGroup, if_pos rfl]
      exact h
    · exact .inl (by rw [State.group_modGroup, if_neg e]; rfl)
  | _ => exact .inl rfl

theorem Moves.sameService {as : List Aspect} {s t : State} (h : Moves as s t) (has : ∀ k ∈ as, k.keepsService = true)
    (l : LaneIx) : (s.lane l).SameService (t.lane l) := by
  refine h.keeps (P := fun u => (s.lane l).SameService (u.lane l)) (fun u v k hk hm hu => ?_) ⟨rfl, rfl, rfl⟩
  have hkeeps : k.keepsService = true := hk.elim (fun e => e ▸ rfl) (has k)
  rcases hm.lane_cases l with e | hl
  · rwa [e]
  · obtain ⟨h1, h2, h3⟩ := hl.sameService hkeeps
    obtain ⟨u1, u2, u3⟩ := hu
    exact ⟨h1.trans u1, h2.trans u2, h3.trans u3⟩

section
variable {as : List Aspect}

/-- Moves for one lane or group after another. -/
theorem foldl_moves {α : Type} {f : State → α → State} (h : ∀ u x, Moves as u (f u x)) (xs : List α) (s : State) :
    Moves as s (xs.foldl f s) :=
  foldl_keeps (P := Moves as s) xs (.refl s) fun u x _ hu => hu.trans (h u x)

/-! ### Transmit states and roles (R126, R136) -/

theorem judgedTx_cutting {t : TxState} (h : t.cutting = true) (n m : Nat) : (judgedTx t n m).cutting = true := by
  cases t with
  | disabled => cases h
  | disabling => cases h
  | forming => unfold judgedTx; dsimp only; split <;> rfl
  | up => unfold judgedTx; dsimp only; split <;> rfl

theorem judgedTx_of_not_cutting {t : TxState} (h : t.cutting = false) (n m : Nat) : judgedTx t n m = t := by
  cases t with
  | disabled => rfl
  | disabling => rfl
  | forming => cases h
  | up => cases h

theorem judgeTx_moves (g : GroupIx) (s : State) : Moves as s (judgeTx g s) := by
  refine Moves.trans ?_ (judgeTx_noted g s).moves
  by_cases h : (s.group g).tx.cutting = true
  · exact GroupMove.common (.txFlip _ h (judgedTx_cutting h _ _))
  · rw [State.txJudged, State.modGroup_self (by rw [judgedTx_of_not_cutting (by simpa using h)])]
    exact .refl s

theorem judgeTxOf_moves (r : Role) (s : State) : Moves as s (judgeTxOf r s) := by
  cases r with
  | active g => exact judgeTx_moves g s
  | _ => exact .refl s

theorem setRole_moves {l : LaneIx} {new : Role} (c : RoleCause) {s : State} (ho : .ops ∈ as)
    (hg : ∀ g, new.group? = some g →
      (s.lane l).role.group? = some g ∨ ∀ h, (s.lane l).assoc.group? = some h → g = h)
    (hr : new ≠ .off → (s.lane l).role ≠ .off ∨ ((s.lane l).inService = true ∧ (s.lane l).diag = .none)) :
    Moves as s (setRole l new c s) :=
  ((LaneMove.moves (.role new hg hr) ho).trans (post_moves ..)).trans
    ((judgeTxOf_moves ..).trans (judgeTxOf_moves ..))

/-- A lane keeps the group its role names, or becomes OFF. -/
theorem setRole_kept_moves {l : LaneIx} {new : Role} (c : RoleCause) {s : State} (ho : .ops ∈ as)
    (h : new = .off ∨ new.group? = (s.lane l).role.group?) : Moves as s (setRole l new c s) := by
  refine setRole_moves c ho (fun g hg => ?_) fun hn => ?_
  · rcases h with rfl | h
    · cases hg
    · exact .inl (h ▸ hg)
  · rcases h with rfl | h
    · exact absurd rfl hn
    · refine .inl fun e => hn ?_
      rw [e] at h
      cases new with
      | off => rfl
      | _ => cases h

theorem flush_moves (l : LaneIx) (c : LaneCtr) (ho : .ops ∈ as) (s : State) : Moves as s (flush l c s) :=
  (LaneMove.moves (.queue [] (.inl rfl) (.inl (Nat.zero_le _))) ho).trans (countLane_moves ..)

/-! ### Operations (R160, R161) -/

theorem takeSlot_moves (k : SlotIx) (op : OpKind) (ho : .ops ∈ as) (s : State) : Moves as s (takeSlot k op s) :=
  (Move.slots (s := s) (takeSlot k op s).slots (takeSlot k op s).completionOrder).moves ho

theorem slotEnds_moves (k : SlotIx) (o : OpOutcome) (ho : .ops ∈ as) (s : State) : Moves as s (slotEnds k o s) := by
  unfold slotEnds
  split
  · exact (Move.slots ..).moves ho
  · exact .refl s

theorem endSlot_moves (k : SlotIx) (o : OpOutcome) (ho : .ops ∈ as) (s : State) : Moves as s (endSlot k o s) :=
  (slotEnds_moves k o ho s).trans (endSlot_emits k o s).moves

theorem endLaneOp_moves (l : LaneIx) (o : OpOutcome) (ho : .ops ∈ as) (s : State) : Moves as s (endLaneOp l o s) := by
  unfold endLaneOp
  split
  · exact .refl s
  · exact (LaneMove.moves (.op none) ho).trans (endSlot_moves _ _ ho _)

/-! ### The completion of a disable (R142) -/

theorem dropped_moves (g : GroupIx) (s : State) : Moves as s (s.dropped g) := by
  refine lanes_map_moves (fun u l => ?_) s
  by_cases h : (u.lane l).assoc.group? = some g
  · rw [State.modLane_congr (h := fun x => { x with assoc := .none, skewHold := none }) (by rw [LaneState.dropped, if_pos h])]
    exact LaneMove.common (.leave .none none (.inl rfl))
  · rw [State.modLane_self (by rw [LaneState.dropped, if_neg h])]
    exact .refl u

theorem State.groupDisabled_eq (s : State) (g : GroupIx) :
    s.groupDisabled g = (contextDiscards g .disableDiscard (s.dropped g)).modGroup g GroupState.disabled := by
  rw [contextDiscards_eq, State.givesBack_modGroup]
  rfl

theorem groupDisabled_moves {g : GroupIx} {s : State} (ho : .ops ∈ as) (h : (s.group g).disable.isSome = true) :
    Moves as s (s.groupDisabled g) := by
  rw [State.groupDisabled_eq]
  refine ((dropped_moves g s).trans (contextDiscards_moves ..)).trans (GroupMove.moves (.disabled ?_) ho)
  rw [contextDiscards_group]
  exact h

theorem completeDisable_moves {g : GroupIx} (d : DisableRec) (o : OpOutcome) {s : State} (ho : .ops ∈ as)
    (h : (s.group g).disable.isSome = true) : Moves as s (completeDisable g d o s) :=
  ((groupDisabled_moves ho h).trans (slotEnds_moves d.slot o ho _)).trans (completeDisable_emits g d o s).moves

theorem checkDisable_moves (g : GroupIx) (ho : .ops ∈ as) (s : State) : Moves as s (checkDisable g s) := by
  unfold checkDisable
  split
  · next d hd =>
    split
    · exact completeDisable_moves d _ ho (by rw [hd]; rfl)
    · exact .refl s
  · exact .refl s

theorem checkDisableOf_moves (l : LaneIx) (ho : .ops ∈ as) (s : State) : Moves as s (checkDisableOf l s) := by
  refine foldl_moves (fun u g => ?_) allGroups s
  split
  · split
    · exact checkDisable_moves g ho u
    · exact .refl u
  · exact .refl u

theorem markLoss_moves (l : LaneIx) (ho : .ops ∈ as) (s : State) : Moves as s (markLoss l s) := by
  refine groups_map_moves (fun u g => ?_) s
  cases h : (u.group g).disable with
  | none =>
    rw [State.modGroup_self (by rw [h])]
    exact .refl u
  | some d =>
    by_cases hs : inSet d.set l = true
    · rw [State.modGroup_congr (h := fun x => { x with disable := some { d with loss := true } }) (by rw [h]; simp [hs])]
      exact GroupMove.moves (.loss d _ h) ho
    · rw [State.modGroup_self (by rw [h]; simp [hs])]
      exact .refl u

/-! ### The peer report (R129, R130) -/

/-- The judgment of lane `l` against its bits in a report, before the disable it belongs to is judged (R130, R137, R139). -/
def judgeBits (acc al wasAligned : Bool) (l : LaneIx) (s : State) : State :=
  match (s.lane l).role with
  | .probation g =>
    if acc then endLaneOp l .done (setRole l (.active g) .accepted s)
    else if !al && wasAligned then endLaneOp l .laneFault (setRole l .off .fault s)
    else s
  | .withdrawn g => if acc then setRole l (.active g) .accepted (s.countLane l .activations) else s
  | .active g =>
    if acc then s
    else setRole l (.withdrawn g) .notAccepted ((flush l .discardedOnWithdraw s).countLane l .withdrawals)
  | .draining _ =>
    if acc then s
    else if (setRole l .off .loss (markLoss l (flush l .discardedOnWithdraw s))).removing l then
      endLaneOp l .doneWithLoss (setRole l .off .loss (markLoss l (flush l .discardedOnWithdraw s)))
    else setRole l .off .loss (markLoss l (flush l .discardedOnWithdraw s))
  | .off => if !acc && s.removing l then endLaneOp l .done s else s

/-- A lane's bit in the aligned map of the report before. -/
def wasAligned (old : Option PeerReport) (l : LaneIx) : Bool :=
  match old with
  | some r => inSet r.aligned l
  | none => false

theorem judgeLane_eq (old : Option PeerReport) (new : PeerReport) (s : State) (l : LaneIx) :
    judgeLane old new s l =
      checkDisableOf l (judgeBits (inSet new.accepted l) (inSet new.aligned l) (wasAligned old l) l s) := rfl

theorem judgeBits_moves (acc al was : Bool) (l : LaneIx) (ho : .ops ∈ as) (s : State) :
    Moves as s (judgeBits acc al was l s) := by
  unfold judgeBits
  cases hrole : (s.lane l).role with
  | off =>
    dsimp only
    split
    · exact endLaneOp_moves l .done ho s
    · exact .refl s
  | probation g =>
    dsimp only
    split_ifs
    · exact (setRole_kept_moves _ ho (.inr (by rw [hrole]; rfl))).trans (endLaneOp_moves l _ ho _)
    · exact (setRole_kept_moves _ ho (.inl rfl)).trans (endLaneOp_moves l _ ho _)
    · exact .refl s
  | withdrawn g =>
    dsimp only
    split
    · refine (countLane_moves l .activations 1 s).trans (setRole_kept_moves _ ho (.inr ?_))
      rw [State.lane_countLane, if_pos rfl, hrole]
      rfl
    · exact .refl s
  | active g =>
    dsimp only
    split
    · exact .refl s
    · refine ((flush_moves l .discardedOnWithdraw ho s).trans (countLane_moves l .withdrawals 1 _)).trans
        (setRole_kept_moves _ ho (.inr ?_))
      simp only [flush, State.lane_countLane, State.lane_modLane, ↓reduceIte, hrole]
      rfl
  | draining g =>
    dsimp only
    split
    · exact .refl s
    · have hoff := ((flush_moves l .discardedOnWithdraw ho s).trans (markLoss_moves l ho _)).trans
        (setRole_kept_moves (l := l) (new := .off) .loss ho (.inl rfl))
      split
      · exact hoff.trans (endLaneOp_moves l _ ho _)
      · exact hoff

theorem judgeLane_moves (old : Option PeerReport) (new : PeerReport) (ho : .ops ∈ as) (s : State) (l : LaneIx) :
    Moves as s (judgeLane old new s l) := by
  rw [judgeLane_eq]
  exact (judgeBits_moves _ _ _ l ho s).trans (checkDisableOf_moves l ho _)

theorem takeReport_moves (l : LaneIx) (m : MarkerBody) (ho : .ops ∈ as) (s : State) : Moves as s (takeReport l m s) :=
  have hnew : Moves as s { s with peerReport := some ⟨m.aligned, m.accepted, l⟩ } := (Move.plain rfl).common
  hnew.trans (foldl_moves (judgeLane_moves s.peerReport ⟨m.aligned, m.accepted, l⟩ ho) allLanes _)

theorem clearReport_moves (s : State) : Moves as s (clearReport s) := by
  unfold clearReport
  split
  · exact .refl s
  · exact (Move.plain rfl).common

/-! ### Receive associations (R131 to R133) -/

theorem clearMismatch_moves (l : LaneIx) (s : State) : Moves as s (clearMismatch l s) := LaneFree.moves {}

theorem admissible_role {s : State} {l : LaneIx} {g : GroupIx} (h : s.admissible l g = true) :
    ∀ h, (s.lane l).role.group? = some h → h = g := by
  unfold State.admissible at h
  intro k hk
  rw [hk] at h
  simpa using (Bool.and_eq_true_iff.1 h).2

theorem admitLane_moves {l : LaneIx} {g : GroupIx} (S : Seq) (c : SetCause) (ctr : LaneCtr) {s : State} (hm : .mark ∈ as)
    (hrx : (s.lane l).rx = .aligned) (hdiag : (s.lane l).diag = .none) (ha : s.admissible l g = true) :
    Moves as s (admitLane l g S c ctr s) :=
  (LaneMove.moves (.join g (S - 1) hrx hdiag (admissible_role ha)) hm).trans
    ((clearMismatch_moves ..).trans ((countLane_moves ..).trans ((post_moves ..).trans (memberAdded_moves ..))))

theorem refuseAdmission_moves (l : LaneIx) (g : GroupIx) (s : State) : Moves as s (refuseAdmission l g s) := by
  unfold refuseAdmission
  refine (countLane_moves l .groupMismatch 1 s).trans ?_
  dsimp only
  split
  · exact .refl _
  · exact Moves.trans (LaneFree.moves {}) (post_moves ..)

theorem leaveGroup_moves (l : LaneIx) (h : GroupIx) (s : State) : Moves as s (leaveGroup l h s) := by
  unfold leaveGroup
  have hleft : Moves as s (post (.receiveSet l (s.lane l).assoc .none h .left)
      (s.modLane l fun x => { x with assoc := .none, skewHold := none })) :=
    (LaneMove.common (.leave .none none (.inl rfl))).trans (post_moves ..)
  dsimp only
  split
  · exact hleft.trans (departed_moves ..)
  · exact hleft

theorem judgeNone_moves {l : LaneIx} (g : GroupIx) (S : Seq) {s : State} (hm : .mark ∈ as)
    (hrx : (s.lane l).rx = .aligned) (hdiag : (s.lane l).diag = .none) : Moves as s (judgeNone l g S s) := by
  unfold judgeNone
  split
  · next h => exact admitLane_moves S _ _ hm hrx hdiag h
  · exact refuseAdmission_moves ..

theorem judgeAssoc_moves {l : LaneIx} (named : Option GroupIx) (S : Seq) {s : State} (hm : .mark ∈ as)
    (hrx : (s.lane l).rx = .aligned) (hdiag : (s.lane l).diag = .none) : Moves as s (judgeAssoc l named S s) := by
  have left : ∀ h g, Moves as s (judgeNone l g S (leaveGroup l h s)) := fun h g => by
    have hl := leaveGroup_moves (as := []) l h s
    obtain ⟨hrx', -, hdiag'⟩ := hl.sameService (by simp) l
    exact hl.weaken.trans (judgeNone_moves g S hm (hrx'.trans hrx) (hdiag'.trans hdiag))
  unfold judgeAssoc
  split
  · exact clearMismatch_moves ..
  · exact (leaveGroup_moves ..).trans (clearMismatch_moves ..)
  · exact (leaveGroup_moves ..).trans (clearMismatch_moves ..)
  · exact judgeNone_moves _ S hm hrx hdiag
  · split
    · exact clearMismatch_moves ..
    · exact left _ _
  · split_ifs with h1 h2 h3
    · exact left _ _
    · exact countLane_moves ..
    · exact admitLane_moves S _ _ hm hrx hdiag h3
    · exact refuseAdmission_moves ..

theorem takeMarker_moves {l : LaneIx} (m : MarkerBody) (S : Seq) {s : State} (ho : .ops ∈ as) (hm : .mark ∈ as)
    (hrx : (s.lane l).rx = .aligned) (hdiag : (s.lane l).diag = .none) : Moves as s (takeMarker l m S s) := by
  have hrep := takeReport_moves (as := [.ops]) l m (by simp) s
  obtain ⟨hrx', -, hdiag'⟩ := hrep.sameService (by decide) l
  have hassoc : Moves as s (judgeAssoc l m.role.group? S (takeReport l m s)) :=
    (hrep.mono (by simpa using ho)).trans (judgeAssoc_moves _ S hm (hrx'.trans hrx) (hdiag'.trans hdiag))
  unfold takeMarker
  dsimp only
  split
  · exact hassoc
  · split
    · next h => exact hassoc.trans (applyMarker_moves S _ hm h)
    · exact hassoc

/-! ### Timers of the Membership Controller (R134, R137, R139, R142) -/

theorem skewHoldExpires_moves (l : LaneIx) (s : State) : Moves as s (skewHoldExpires l s) := by
  unfold skewHoldExpires
  split
  · exact .refl s
  · exact (passTo_moves ..).trans (LaneFree.moves {})

theorem forceOff_moves (l : LaneIx) (ho : .ops ∈ as) (s : State) : Moves as s (forceOff l s) := by
  unfold forceOff
  split
  · exact (flush_moves l _ ho s).trans (setRole_kept_moves _ ho (.inl rfl))
  · exact .refl s

theorem forceOff_group (l : LaneIx) (s : State) (g : GroupIx) :
    ∃ tx, (forceOff l s).group g = { s.group g with tx := tx } := by
  unfold forceOff
  split
  · obtain ⟨tx, h⟩ := setRole_group l .off .timeout (flush l .discardedOnForce s) g
    exact ⟨tx, h⟩
  · exact ⟨_, rfl⟩

theorem timeoutDisable_moves (g : GroupIx) (ho : .ops ∈ as) (s : State) : Moves as s (timeoutDisable g s) := by
  unfold timeoutDisable
  split
  · exact .refl s
  · next d hd =>
    obtain ⟨hmoves, hdis⟩ := foldl_keeps (P := fun u => Moves as s u ∧ (u.group g).disable = some d)
      (f := fun s l => if inSet d.set l then forceOff l s else s) allLanes ⟨.refl s, hd⟩ fun u l _ ⟨hu, hu'⟩ => by
        split
        · obtain ⟨tx, e⟩ := forceOff_group l u g
          exact ⟨hu.trans (forceOff_moves l ho u), by rw [e]; exact hu'⟩
        · exact ⟨hu, hu'⟩
    exact hmoves.trans (completeDisable_moves d _ ho (by rw [hdis]; rfl))

theorem operationExpires_moves (k : SlotIx) (ho : .ops ∈ as) (s : State) : Moves as s (operationExpires k s) := by
  unfold operationExpires
  split
  · exact (passTo_moves ..).trans ((setRole_kept_moves _ ho (.inl rfl)).trans (endLaneOp_moves _ _ ho _))
  · exact (passTo_moves ..).trans ((forceOff_moves _ ho _).trans (endLaneOp_moves _ _ ho _))
  · exact (passTo_moves ..).trans (timeoutDisable_moves _ ho _)
  · exact .refl s

end

end Sys2Proof.Machine
end

section
/-! The Lane Receiver as chains of moves: receive states, intervals, the capture record, and the taking of a segment. -/

namespace Sys2Proof.Machine

/- The kernel checks the theorems one after another. -/
set_option Elab.async false

/-! ### Receive states (R21 to R27, R133) -/

/-- The association of a lane that has left ALIGNED (R133). -/
def Assoc.lost (a : Assoc) : Assoc :=
  match a with
  | .member g _ _ => .suspended g
  | a => a

/-- A lane after its receive state has changed (R27, R133). -/
def LaneState.rxChanged (new : RxState) (r : Reason) (x : LaneState) : LaneState :=
  { x with rx := new, reason := r, assoc := if x.rx = .aligned ∧ new ≠ .aligned then x.assoc.lost else x.assoc }

theorem Assoc.staysOrSuspends_lost (a : Assoc) : a.StaysOrSuspends a.lost := by
  cases a with
  | member g m k => exact .inr ⟨g, m, k, rfl, rfl⟩
  | _ => exact .inl rfl

theorem LaneState.rxChanged_assoc (new : RxState) (r : Reason) (x : LaneState) :
    x.assoc.StaysOrSuspends (x.rxChanged new r).assoc := by
  unfold LaneState.rxChanged
  dsimp only
  split
  · exact x.assoc.staysOrSuspends_lost
  · exact .inl rfl

theorem rxChanged_move {s : State} {x : LaneState} {new : RxState} (r : Reason) (hold : x.rx ≠ .down ∨ x.inService = true)
    (hnew : new ≠ .down) : LaneMove s x .rx (x.rxChanged new r) := by
  refine .rx new r _ hold hnew (x.rxChanged_assoc new r) fun hm hx => ?_
  by_contra hn
  rw [if_pos ⟨hx, hn⟩] at hm
  cases h : x.assoc <;> simp [h, Assoc.lost, Assoc.isMember] at hm

section
variable {as : List Aspect}

/-- A change of receive state is a change of the lane, with what it posts and what its group makes of it. -/
theorem setRx_moves {l : LaneIx} {new : RxState} {r : Reason} {s : State}
    (h : Moves as s (s.modLane l (LaneState.rxChanged new r))) : Moves as s (setRx l new r s) := by
  let b : NoteBody := .laneState l (s.lane l).rx new r
  have hpost := post_emits b (s.modLane l fun x => { x with rx := new, reason := r })
  have hlane : (post b (s.modLane l fun x => { x with rx := new, reason := r })).lane l =
      { s.lane l with rx := new, reason := r } := by
    rw [post_lane, State.lane_modLane, if_pos rfl]
  have stays : (s.lane l).assoc = ((s.lane l).rxChanged new r).assoc →
      Moves as s (post b (s.modLane l fun x => { x with rx := new, reason := r })) := fun e => by
    refine h.trans (Moves.trans (.refl _) ?_)
    rw [State.modLane_congr (f := LaneState.rxChanged new r) (h := fun x => { x with rx := new, reason := r })
      (by rw [e]; rfl)]
    exact hpost.moves
  unfold setRx
  dsimp only
  split
  · next hleft =>
    unfold leftAligned
    refine Moves.trans ?_ (clearReport_moves _)
    have hlost : ((s.lane l).rxChanged new r).assoc = (s.lane l).assoc.lost := by
      unfold LaneState.rxChanged
      dsimp only
      rw [if_pos hleft]
    rw [hlane]
    dsimp only
    cases ha : (s.lane l).assoc with
    | none => exact stays (by rw [hlost, ha]; rfl)
    | suspended g => exact stays (by rw [hlost, ha]; rfl)
    | member g m k =>
      unfold suspend
      refine h.trans (Moves.trans ?_ ((post_moves ..).trans (departed_moves ..)))
      have hmap := hpost.map (.modLane l fun x => { x with assoc := .suspended g })
      rw [State.modLane_modLane] at hmap
      rw [State.modLane_congr (f := LaneState.rxChanged new r)
        (h := fun x => { x with rx := new, reason := r, assoc := .suspended g })]
      · exact hmap.moves
      · rw [ha] at hlost
        change { s.lane l with rx := new, reason := r, assoc := ((s.lane l).rxChanged new r).assoc } = _
        rw [hlost]
        rfl
  · next hstay =>
    refine stays ?_
    unfold LaneState.rxChanged
    dsimp only
    rw [if_neg hstay]

theorem setRx_rx_moves {l : LaneIx} {new : RxState} (r : Reason) {s : State} (hrx : .rx ∈ as)
    (hold : (s.lane l).rx ≠ .down ∨ (s.lane l).inService = true) (hnew : new ≠ .down) :
    Moves as s (setRx l new r s) :=
  setRx_moves (LaneMove.moves (rxChanged_move r hold hnew) hrx)

/-! ### Intervals (R22 to R24) -/

/-- The interval timer of the lane may run: it does, or the lane is in service. -/
def LaneState.Timed (x : LaneState) : Prop := x.intervalTimer.isSome = true ∨ x.inService = true

theorem startInterval_moves {l : LaneIx} (start : Time) {s : State} (h : (s.lane l).Timed) :
    Moves as s (startInterval l start s) := by
  unfold startInterval
  exact LaneFree.moves { intervalTimer := .inr ⟨rfl, h⟩, errors := .inr (Nat.zero_le _) }

theorem LaneMove.timed {s : State} {x x' : LaneState} {k : Aspect} (h : LaneMove s x k x') (hk : k ≠ .admin)
    (ht : x.Timed) : x'.Timed := by
  cases h with
  | free h =>
    have hs : x'.inService = x.inService := h.sameService.2.1
    unfold LaneState.Timed
    rw [hs]
    rcases h.intervalTimer with e | ⟨e, -⟩
    · rwa [e]
    · exact .inl e
  | admin => exact absurd rfl hk
  | _ => exact ht

theorem Moves.timed {s t : State} {l : LaneIx} (h : Moves as s t) (has : .admin ∉ as) (ht : (s.lane l).Timed) :
    (t.lane l).Timed := by
  refine h.keeps (P := fun u => (u.lane l).Timed) (fun u v k hk hm hu => ?_) ht
  rcases hm.lane_cases l with e | hl
  · rwa [e]
  · exact hl.timed (fun e => hk.elim (fun h => by rw [e] at h; cases h) fun h => has (e ▸ h)) hu

theorem enterLost_moves {l : LaneIx} (r sr : Reason) {s : State} (hrx : .rx ∈ as) (h : (s.lane l).rx ≠ .down) :
    Moves as s (enterLost l r sr s) := by
  unfold enterLost
  have hclear : Moves as s ((s.modLane l fun x => { x with good := 0, miss := 0, searchReason := sr }).countLane l
      .lostEntries) :=
    (LaneFree.moves { good := .inl (Nat.zero_le _), miss := .inl (Nat.zero_le _) }).trans (countLane_moves ..)
  refine hclear.trans (setRx_rx_moves r hrx (.inl ?_) (by decide))
  rw [State.lane_countLane, if_pos rfl, State.lane_modLane, if_pos rfl]
  exact h

theorem enterAligned_moves {l : LaneIx} {s : State} (hrx : .rx ∈ as) (h : (s.lane l).rx ≠ .down) :
    Moves as s (enterAligned l s) := by
  unfold enterAligned
  have hclear : Moves as s (s.modLane l fun x => { x with good := 0, miss := 0 }) :=
    LaneFree.moves { good := .inl (Nat.zero_le _), miss := .inl (Nat.zero_le _) }
  refine hclear.trans (setRx_rx_moves _ hrx (.inl ?_) (by decide))
  rw [State.lane_modLane, if_pos rfl]
  exact h

theorem enterSearch_moves {l : LaneIx} {s : State} (hrx : .rx ∈ as) (h : (s.lane l).inService = true) :
    Moves as s (enterSearch l s) := by
  unfold enterSearch
  extract_lets sr
  have hclear : Moves as s (s.modLane l fun x => { x with good := 0, miss := 0, lastCount := none, searchReason := sr }) :=
    LaneFree.moves { good := .inl (Nat.zero_le _), miss := .inl (Nat.zero_le _) }
  have hstart := hclear.trans (startInterval_moves (l := l) s.timebase (.inr (by
    rw [State.lane_modLane, if_pos rfl]
    exact h)))
  refine hstart.trans (setRx_rx_moves _ hrx (.inr ?_) (by decide))
  unfold startInterval
  rw [State.lane_modLane, if_pos rfl, State.lane_modLane, if_pos rfl]
  exact h

theorem judgeSearching_moves {l : LaneIx} {s : State} (hrx : .rx ∈ as) (h : (s.lane l).rx ≠ .down) :
    Moves as s (judgeSearching l s) := by
  unfold judgeSearching
  dsimp only
  split_ifs with h1 h2
  · exact enterAligned_moves hrx h
  · exact LaneFree.moves { good := .inr (Nat.not_le.1 h2) }
  · exact LaneFree.moves { good := .inl (Nat.zero_le _) }

theorem judgeAligned_moves {l : LaneIx} {s : State} (hrx : .rx ∈ as) (h : (s.lane l).rx ≠ .down) :
    Moves as s (judgeAligned l s) := by
  unfold judgeAligned
  dsimp only
  split_ifs with h1 h2
  · exact LaneFree.moves { miss := .inl (Nat.zero_le _) }
  · exact enterLost_moves _ _ hrx h
  · exact LaneFree.moves { miss := .inr (Nat.not_le.1 h2) }

theorem intervalExpires_moves (l : LaneIx) (s : State) : Moves [.rx] s (intervalExpires l s) := by
  unfold intervalExpires
  split
  · exact .refl s
  · next e he =>
    have hjudged : Moves [.rx] s (match (s.lane l).rx with
        | .aligned => judgeAligned l (s.passTo e)
        | .search => judgeSearching l (s.passTo e)
        | .lost => judgeSearching l (s.passTo e)
        | .down => s.passTo e) := by
      refine (passTo_moves e s).trans ?_
      cases hs : (s.lane l).rx with
      | aligned => exact judgeAligned_moves (by simp) (by rw [State.lane_passTo, hs]; decide)
      | search => exact judgeSearching_moves (by simp) (by rw [State.lane_passTo, hs]; decide)
      | lost => exact judgeSearching_moves (by simp) (by rw [State.lane_passTo, hs]; decide)
      | down => exact .refl _
    exact hjudged.trans (startInterval_moves e (hjudged.timed (by decide) (.inl (by rw [he]; rfl))))

/-! ### Errors, origin faults and the capture record (R18, R25, R31) -/

theorem intervalError_moves (l : LaneIx) (s : State) (hrx : .rx ∈ as) : Moves as s (intervalError l s) := by
  unfold intervalError
  extract_lets n s1
  have hcount : Moves as s s1 := LaneFree.moves { errors := .inr (Nat.min_le_right _ _) }
  split
  · next h =>
    refine hcount.trans (enterLost_moves _ _ hrx ?_)
    unfold s1
    rw [State.lane_modLane, if_pos rfl]
    exact fun hd => by rw [h.1] at hd; cases hd
  · exact hcount

theorem captureEvent_moves (l : LaneIx) (sev : CaptureState) (syn : Byte) (kind : Option SegKind) (s : State) :
    Moves as s (captureEvent l sev syn kind s) := by
  unfold captureEvent
  dsimp only
  split
  · next h =>
    refine Moves.trans (LaneFree.moves { suppressed := .inr (Nat.zero_le _), captured := fun hu => ?_ }) (post_moves ..)
    rw [hu] at h
    rcases h with h | ⟨h, -⟩ <;> cases h
  · exact LaneFree.moves { suppressed := .inr (Nat.min_le_right _ _) }

theorem originFault_moves (l : LaneIx) (f : OriginFault) (s : State) (hrx : .rx ∈ as) : Moves as s (originFault l f s) := by
  have hkeep : Moves as s (s.modLane l fun x => { x with interval := { x.interval with originFault := some f } }) :=
    LaneFree.moves {}
  unfold originFault
  dsimp only
  split
  · next h =>
    refine hkeep.trans (enterLost_moves _ _ hrx ?_)
    rw [State.lane_modLane, if_pos rfl]
    exact fun hd => by rw [h] at hd; cases hd
  · exact hkeep
  · split
    · exact hkeep
    · exact hkeep.trans (Moves.trans (LaneFree.moves {}) (post_moves ..))

/-! ### Where segments go (R28, R182 to R186) -/

theorem loopCopy_moves (l : LaneIx) (bytes : List Byte) (s : State) : Moves as s (loopCopy l bytes s) := by
  unfold loopCopy
  split_ifs with h1 h2
  · exact .refl s
  · exact LaneFree.moves { returns := .inr (by rw [List.length_append]; exact h2) }
  · exact countLane_moves ..

theorem takeData_moves (l : LaneIx) (h : Header) (payload : List Byte) (s : State) (hm : .mark ∈ as) :
    Moves as s (takeData l h payload s) := by
  unfold takeData
  split_ifs
  · exact countLane_moves ..
  · exact (countLane_moves ..).trans (arrive_moves _ _ hm _)
  · exact countLane_moves ..

theorem takeTest_moves (l : LaneIx) (q : Seq) (payload : List Byte) (s : State) : Moves as s (takeTest l q payload s) := by
  unfold takeTest
  split
  · exact Moves.trans (LaneFree.moves {}) ((countLane_moves ..).trans ((countLane_moves ..).trans (countLane_moves ..)))
  · exact countLane_moves ..

theorem markerGap_moves (l : LaneIx) (c : Byte) (s : State) : Moves as s (markerGap l c s) := by
  unfold markerGap
  extract_lets missing
  refine (countLane_moves l .markerGap missing s).trans ?_
  exact LaneFree.moves {}

theorem takeValid_moves (l : LaneIx) (m : MarkerBody) (S : Seq) (s : State) (ho : .ops ∈ as) (hm : .mark ∈ as) :
    Moves as s (takeValid l m S s) := by
  unfold takeValid
  extract_lets s1
  have hs1 : ∀ bs, Moves bs s s1 := fun bs =>
    (countLane_moves ..).trans (Moves.trans (LaneFree.moves {}) (markerGap_moves ..))
  split
  · next h =>
    obtain ⟨hrx, -, hdiag⟩ := (hs1 []).sameService (by simp) l
    exact (hs1 as).trans (takeMarker_moves m S ho hm (hrx.trans h.1) (hdiag.trans h.2))
  · exact hs1 as

/-- A segment may touch roles, marks and receive states. -/
def segmentAspects : List Aspect := [.ops, .mark, .rx]

theorem takeMarkerSegment_moves (l : LaneIx) (h : Header) (bytes : List Byte) (s : State) :
    Moves segmentAspects s (takeMarkerSegment l h bytes s) := by
  unfold takeMarkerSegment
  split
  · exact (countLane_moves ..).trans (intervalError_moves _ _ (by decide))
  · refine (loopCopy_moves l bytes s).trans ?_
    dsimp only
    split_ifs
    · exact (countLane_moves ..).trans (originFault_moves _ _ _ (by decide))
    · exact (countLane_moves ..).trans (originFault_moves _ _ _ (by decide))
    · exact takeValid_moves _ _ _ _ (by decide) (by decide)

theorem segmentGoesOn_moves (l : LaneIx) (h : Header) (bytes : List Byte) (s : State) :
    Moves segmentAspects s (segmentGoesOn l h bytes s) := by
  unfold segmentGoesOn
  split
  · exact (loopCopy_moves ..).trans (takeData_moves _ _ _ _ (by decide))
  · exact (loopCopy_moves ..).trans (takeTest_moves ..)
  · exact takeMarkerSegment_moves ..
  · exact .refl s

theorem receiveSegment_moves (l : LaneIx) (bytes : List Byte) (s : State) :
    Moves segmentAspects s (receiveSegment l bytes s) := by
  unfold receiveSegment
  refine (countLane_moves l .segmentsReceived 1 s).trans ?_
  dsimp only
  split
  · exact segmentGoesOn_moves ..
  · exact (countLane_moves ..).trans ((captureEvent_moves ..).trans (segmentGoesOn_moves ..))
  · exact (countLane_moves ..).trans ((intervalError_moves _ _ (by decide)).trans (captureEvent_moves ..))

theorem lineSegment_moves (l : LaneIx) (bytes : List Byte) (s : State) :
    Moves segmentAspects s (lineSegment l bytes s) := by
  unfold lineSegment
  split
  · exact .refl s
  · exact receiveSegment_moves ..

/-! ### The carrier-detect input (R15, R25, R26) -/

theorem loseCarrier_moves (l : LaneIx) (mid : Bool) (s : State) (hrx : .rx ∈ as) : Moves as s (loseCarrier l mid s) := by
  have hcut : Moves as s (if mid then s.countLane l .truncated else s) := by
    split
    · exact countLane_moves ..
    · exact .refl s
  have hlane : ((if mid then s.countLane l .truncated else s).lane l).rx = (s.lane l).rx := by
    split
    · simp
    · rfl
  unfold loseCarrier
  refine hcut.trans ?_
  generalize (if mid then s.countLane l .truncated else s) = u at hlane
  have hmark : Moves as u (u.modLane l fun x => { x with interval := { x.interval with carrierAbsent := true } }) :=
    LaneFree.moves {}
  dsimp only
  split
  · next h =>
    refine hmark.trans (enterLost_moves _ _ hrx ?_)
    rw [State.lane_modLane, if_pos rfl]
    change (u.lane l).rx ≠ .down
    rw [hlane, h]
    decide
  · exact hmark.trans (LaneFree.moves {})

theorem carrierGoes_moves (l : LaneIx) (mid : Bool) (s : State) : Moves [.rx] s (carrierGoes l mid s) := by
  have hgone : Moves [.rx] s (s.modLane l fun x => { x with cdPresent := false }) := LaneFree.moves {}
  unfold carrierGoes
  dsimp only
  split_ifs
  · exact .refl s
  · exact hgone
  · exact hgone.trans (loseCarrier_moves _ _ _ (by decide))

end

end Sys2Proof.Machine
end

section
/-! The Segmenter and Distributor, the Lane Transmitter and local egress as chains of moves. -/

namespace Sys2Proof.Machine

/- The kernel checks the theorems one after another. -/
set_option Elab.async false

section
variable {as : List Aspect}

/-! ### Eligible lanes (R109, R110) -/

theorem State.eligible_iff (s : State) (g : GroupIx) (l : LaneIx) :
    s.eligible g l = true ↔ (s.lane l).role = .active g ∧ s.txInhibit = false ∧ (s.lane l).diag = .none ∧
      (s.lane l).queue.length < Config.laneQueueMax := by
  simp [State.eligible, State.isActive, and_assoc]

/-- The deficit of a lane after the refill (R110). -/
def State.refilled (s : State) (g : GroupIx) (l : LaneIx) (x : LaneState) : LaneState :=
  if s.eligible g l then { x with deficit := x.deficit + x.weight } else x

theorem refill_moves (g : GroupIx) (s : State) : Moves as s (refill g s) := by
  unfold refill
  split
  · exact .refl s
  · next h =>
    refine lanes_moves (upd := s.refilled g) fun u l hu => ?_
    by_cases he : s.eligible g l = true
    · rw [State.modLane_congr (h := fun x => { x with deficit := x.deficit + x.weight }) (by rw [State.refilled, if_pos he])]
      refine LaneFree.moves { deficit := .inr ?_ }
      have h0 : (u.lane l).deficit = 0 := by
        rw [hu]
        by_contra hn
        refine h (List.any_eq_true.2 ⟨l, mem_allLanes l, ?_⟩)
        simp [he, Nat.pos_of_ne_zero hn]
      refine ⟨h0, ?_⟩
      change (u.lane l).deficit + (u.lane l).weight ≤ (u.lane l).weight
      omega
    · rw [State.modLane_self (by rw [State.refilled, if_neg he])]
      exact .refl u

/-! ### Placement (R108) -/

theorem placeOn_moves {g : GroupIx} {l : LaneIx} (d : DataSeg) {s : State} (ho : .ops ∈ as) (hi : s.txInhibit = false)
    (hq : (s.lane l).queue.length < Config.laneQueueMax) : Moves as s (placeOn g l d s) := by
  unfold placeOn
  have hqueue : Moves as s (s.modLane l fun x => { x with queue := x.queue ++ [d] }) :=
    LaneMove.moves (.queue _ (.inr hi) (.inr (by rw [List.length_append]; exact hq))) ho
  have hlane : Moves as s (s.modLane l fun x => { x with queue := x.queue ++ [d], deficit := x.deficit - 1 }) := by
    have e : s.modLane l (fun x => { x with queue := x.queue ++ [d], deficit := x.deficit - 1 }) =
        (s.modLane l fun x => { x with queue := x.queue ++ [d] }).modLane l fun x => { x with deficit := x.deficit - 1 } := by
      rw [State.modLane_modLane]
    rw [e]
    exact hqueue.trans (LaneFree.moves { deficit := .inl (Nat.sub_le _ _) })
  exact hlane.trans ((countLane_moves ..).trans (Moves.trans (GroupMove.common (.free {})) (countGroup_moves ..)))

theorem frameLeaves_eq (g : GroupIx) (c : Cls) (f : TxFrame) (s : State) :
    frameLeaves g c f s = judgeHold g
      ((({ s with storeFree := s.storeFree + f.bonded.length } : State).modGroup g fun x => x.pop c).countGroup g
        .framesCut) := by
  cases c <;> rfl

theorem frameLeaves_moves {g : GroupIx} {c : Cls} {f : TxFrame} {rest : List TxFrame} {s : State}
    (hc : (s.group g).tx.cutting = true) (hf : (s.group g).classQueue c = f :: rest) :
    Moves as s (frameLeaves g c f s) := by
  rw [frameLeaves_eq]
  obtain ⟨ctr, e⟩ := judgeHold_eq g
    ((({ s with storeFree := s.storeFree + f.bonded.length } : State).modGroup g fun x => x.pop c).countGroup g .framesCut)
  have hx : ((((({ s with storeFree := s.storeFree + f.bonded.length } : State).modGroup g fun x => x.pop c).countGroup g
      .framesCut).group g).judgedHold) = ((s.group g).pop c).judgedHold := by
    rw [State.group_countGroup, if_pos rfl, State.group_modGroup, if_pos rfl]
    rfl
  rw [e, hx]
  simp only [State.countGroup, State.modGroup_modGroup]
  refine (Move.group (s := s) g (fun x => { x.pop c with hold := ((s.group g).pop c).judgedHold, ctr := ctr })
    s.poolFree (s.storeFree + f.bonded.length) (.pop c ctr hc) ?_ ?_).common
  · change s.poolFree + ((s.group g).pop c).heldCount = _
    cases c <;> rfl
  · have := GroupState.storeBytes_pop hf
    change s.storeFree + f.bonded.length + ((s.group g).pop c).storeBytes = _
    omega

/-- The frame the choice gives stands at the head of its class queue (R107). -/
theorem chooseFrame_head {x : GroupState} {c : Cursor} {f : TxFrame} (h : x.chooseFrame = some (c, f)) :
    ∃ rest, x.classQueue c.cls = f :: rest := by
  unfold GroupState.chooseFrame at h
  split at h
  · next c' hc =>
    cases hq : x.classQueue c'.cls with
    | nil => simp [hq] at h
    | cons f' rest =>
      simp only [hq, List.head?_cons, Option.map_some, Option.some.injEq, Prod.mk.injEq] at h
      obtain ⟨rfl, rfl⟩ := h
      exact ⟨rest, hq⟩
  · split at h
    · next f' rest hq =>
      cases h
      exact ⟨rest, hq⟩
    · cases hq : x.normal with
      | nil => simp [hq] at h
      | cons f' rest =>
        simp only [hq, List.head?_cons, Option.map_some, Option.some.injEq, Prod.mk.injEq] at h
        obtain ⟨rfl, rfl⟩ := h
        exact ⟨rest, hq⟩

theorem placeOn_group (g : GroupIx) (l : LaneIx) (d : DataSeg) (s : State) :
    (placeOn g l d s).group g =
      { s.group g with
        rrPos := l + 1, nextSeq := (s.group g).nextSeq + 1
        ctr := raiseCounter (s.group g).ctr GroupCtr.segmentsCut.ix 1 } := by
  unfold placeOn
  rw [State.group_countGroup, if_pos rfl, State.group_modGroup, if_pos rfl]
  rfl

theorem refill_group (g : GroupIx) (s : State) (h : GroupIx) : (refill g s).group h = s.group h := by
  unfold refill
  split <;> rfl

theorem refill_txInhibit (g : GroupIx) (s : State) : (refill g s).txInhibit = s.txInhibit := by
  unfold refill
  split <;> rfl

theorem placeSegment_moves (g : GroupIx) (s : State) (ho : .ops ∈ as) : Moves as s (placeSegment g s) := by
  unfold placeSegment
  split
  · exact .refl s
  · next hcan =>
    have hcut : (s.group g).tx.cutting = true := by
      simp only [State.canPlace, Bool.not_eq_true', Bool.not_eq_false, Bool.and_eq_true] at hcan
      exact hcan.1.1
    split
    · exact .refl s
    · next c f hf =>
      dsimp only
      split
      · exact .refl s
      · next l hl =>
        obtain ⟨rest, hrest⟩ := chooseFrame_head hf
        have hel : (refill g s).eligible g l = true := by
          have := List.find?_some hl
          simp only [Bool.and_eq_true] at this
          exact this.1
        obtain ⟨-, hi, -, hq⟩ := (State.eligible_iff ..).1 hel
        generalize sliceSegment g (s.group g).segSize (s.group g).nextSeq c f = d
        have hplaced := (refill_moves (as := as) g s).trans (placeOn_moves (g := g) d ho hi hq)
        have hgroup := placeOn_group g l d (refill g s)
        rw [refill_group] at hgroup
        split
        · refine hplaced.trans (frameLeaves_moves (rest := rest) ?_ ?_)
          · rw [hgroup]; exact hcut
          · rw [hgroup, ← hrest]
            cases c.cls <;> rfl
        · exact hplaced.trans (GroupMove.common (.free {}))

/-! ### Markers and transmission (R116 to R119) -/

theorem beginFlight_moves (l : LaneIx) (bytes : List Byte) {s : State} (h : s.txInhibit = false) :
    Moves as s (beginFlight l bytes s) := LaneMove.common (.flight _ (.inr h))

theorem State.maySend_iff (s : State) (l : LaneIx) :
    s.maySend l = true ↔ (s.lane l).inService = true ∧ s.txInhibit = false ∧ (s.lane l).flight = none := by
  simp [State.maySend, and_assoc]

theorem txChoice_maySend {s : State} {l : LaneIx} {c : TxChoice} (h : s.txChoice l = some c) : s.maySend l = true := by
  unfold State.txChoice at h
  dsimp only at h
  by_contra hn
  rw [if_pos (by simpa using hn)] at h
  cases h

theorem startMarker_moves (l : LaneIx) (c : LaneCtr) {s : State} (h : s.txInhibit = false) :
    Moves as s (startMarker l c s) :=
  (beginFlight_moves l _ h).trans (Moves.trans (LaneFree.moves { debt := .inl (Nat.sub_le _ _) })
    ((countLane_moves ..).trans (countLane_moves ..)))

theorem drainIfEmpty_moves (l : LaneIx) (s : State) (ho : .ops ∈ as) : Moves as s (drainIfEmpty l s) := by
  unfold drainIfEmpty
  split
  · split
    · exact (setRole_kept_moves _ ho (.inl rfl)).trans (checkDisableOf_moves l ho _)
    · exact .refl s
  · exact .refl s

theorem startData_moves (l : LaneIx) {s : State} (ho : .ops ∈ as) (h : s.txInhibit = false) :
    Moves as s (startData l s) := by
  unfold startData
  split
  · exact .refl s
  · next d rest hq =>
    have hflight := beginFlight_moves (as := as) l d.bytes h
    have htail : Moves as (beginFlight l d.bytes s) ((beginFlight l d.bytes s).modLane l fun x => { x with queue := rest }) := by
      refine LaneMove.moves (.queue rest (.inr h) (.inl ?_)) ho
      unfold beginFlight
      rw [State.lane_modLane, if_pos rfl]
      change rest.length ≤ (s.lane l).queue.length
      rw [hq]
      exact Nat.le_succ _
    exact (hflight.trans htail).trans ((countLane_moves ..).trans (drainIfEmpty_moves l _ ho))

theorem startTest_moves (l : LaneIx) {s : State} (h : s.txInhibit = false) : Moves as s (startTest l s) :=
  (beginFlight_moves l _ h).trans (Moves.trans (LaneFree.moves {}) (countLane_moves ..))

theorem startReturned_moves (l : LaneIx) {s : State} (h : s.txInhibit = false) : Moves as s (startReturned l s) := by
  unfold startReturned
  split
  · exact .refl s
  · next b rest hq =>
    refine (beginFlight_moves l b h).trans (Moves.trans (LaneFree.moves { returns := .inl ?_ }) (countLane_moves ..))
    unfold beginFlight
    rw [State.lane_modLane, if_pos rfl]
    change rest.length ≤ (s.lane l).returnQueue.length
    rw [hq]
    exact Nat.le_succ _

theorem startTransmission_moves (l : LaneIx) (s : State) (ho : .ops ∈ as) : Moves as s (startTransmission l s) := by
  have may : ∀ {c}, s.txChoice l = some c → s.txInhibit = false := fun h =>
    ((s.maySend_iff l).1 (txChoice_maySend h)).2.1
  unfold startTransmission
  split
  · next h => exact startMarker_moves l _ (may h)
  · next h => exact startMarker_moves l _ (may h)
  · next h => exact startData_moves l ho (may h)
  · next h => exact startTest_moves l (may h)
  · next h => exact startReturned_moves l (may h)
  · exact .refl s

theorem endTransmission_moves (l : LaneIx) (s : State) : Moves segmentAspects s (endTransmission l s) := by
  unfold endTransmission
  split
  · exact .refl s
  · have hdone : Moves segmentAspects s (s.modLane l fun x => { x with flight := none }) :=
      LaneMove.common (.flight none (.inl rfl))
    refine hdone.trans ?_
    unfold loopDelivery
    split
    · exact receiveSegment_moves ..
    · exact .refl _

theorem markerExpires_moves (l : LaneIx) (s : State) : Moves as s (markerExpires l s) := by
  unfold markerExpires
  split
  · exact .refl s
  · next e he =>
    refine (passTo_moves e s).trans ?_
    unfold startMarkerTimer
    dsimp only
    split
    · next hd =>
      have hrun : ((s.passTo e).lane l).markerTimer.isSome = true := by
        rw [State.lane_passTo, he]
        rfl
      have hup : Moves as (s.passTo e) ((s.passTo e).modLane l fun x => { x with debt := x.debt + 1 }) :=
        LaneFree.moves { debt := .inr ⟨hd, hrun⟩ }
      refine hup.trans (LaneFree.moves { markerTimer := .inr ⟨rfl, .inl ?_⟩ })
      rw [State.lane_modLane, if_pos rfl]
      exact hrun
    · refine (countLane_moves ..).trans (LaneFree.moves { markerTimer := .inr ⟨rfl, .inl ?_⟩ })
      rw [State.lane_countLane, if_pos rfl]
      change (s.lane l).markerTimer.isSome = true
      rw [he]; rfl

/-! ### Local egress (R70, R75 to R77) -/

theorem joinHeld_moves (g : GroupIx) (s : State) : Moves as s (joinHeld g s) := by
  unfold joinHeld
  split
  · exact .refl s
  · next f _ =>
    split
    · next h =>
      have hout : Moves as s (s.modGroup g fun x => { x with held := none }) := GroupMove.common (.free {})
      refine (hout.trans (egressJoin_moves f ?_)).trans (resolveIfLive_moves ..)
      rw [State.group_modGroup, if_pos rfl]
      exact h
    · exact .refl s

theorem egressIdle_moves (s : State) : Moves as s { s with egressBusy := none } :=
  (Move.egress none s.lastServed fun _ => .inr rfl).common

theorem mgmtFrameLeft_moves (s : State) : Moves as s (mgmtFrameLeft s) := by
  have hout : Moves as s { s with mgmtOut := s.mgmtOut.tail } :=
    (Move.mgmtOut _ (.inl (by rw [List.length_tail]; exact Nat.sub_le _ _))).common
  exact hout.trans ((egressIdle_moves _).trans ((countDev_moves ..).trans (arbitrate_moves _)))

theorem dataFrameLeft_moves (g : GroupIx) (s : State) : Moves as s (dataFrameLeft g s) := by
  unfold dataFrameLeft
  split
  · exact (egressIdle_moves s).trans (arbitrate_moves _)
  · next f rest hq =>
    have hout : Moves as { s with egressBusy := none }
        (({ s with egressBusy := none } : State).modGroup g fun x => { x with egress := rest }) := by
      refine GroupMove.common (.free { egress := .inl ?_ })
      change rest.length ≤ (s.group g).egress.length
      rw [hq]
      exact Nat.le_succ _
    exact ((egressIdle_moves s).trans hout).trans ((releaseBuffers_moves ..).trans ((countGroup_moves ..).trans
      ((countStream_moves ..).trans ((countStream_moves ..).trans ((arbitrate_moves _).trans (joinHeld_moves ..))))))

theorem egressEnds_moves {s : State} (h : s.resetResponseInFlight = false) : Moves as s (egressEnds s) := by
  unfold egressEnds
  split
  · exact .refl s
  · rw [h]
    exact mgmtFrameLeft_moves s
  · exact dataFrameLeft_moves ..

end

end Sys2Proof.Machine
end

section
/-! The requests of the Management Engine as chains of moves: tables, groups, lanes, long operations. -/

namespace Sys2Proof.Machine

/- The kernel checks the theorems one after another. -/
set_option Elab.async false

/-! ### WRITE-ENTRY (R155) -/

/-- What every item of a write keeps, the write keeps. -/
theorem writeAll_keeps {α : Type} {write : Byte → List Byte → α → Option α} {P : α → Prop}
    (h : ∀ code value y z, P y → write code value y = some z → P z) (items : List (Byte × List Byte)) {x y : α}
    (hx : P x) (hw : writeAll write items x = some y) : P y := by
  induction items generalizing x with
  | nil => cases hw; exact hx
  | cons i items ih =>
    unfold writeAll at hw
    split at hw
    · next z hz => exact ih (h _ _ _ _ hx hz) hw
    · cases hw

theorem between_iff {a b v : Nat} : between a b v = true ↔ a ≤ v ∧ v ≤ b := by simp [between]

theorem writeDev_inRange {code : Byte} {value : List Byte} {d d' : DevSettings} (h : d.InRange)
    (hw : writeDev code value d = some d') : d'.InRange := by
  obtain ⟨h1, h2, h3, h4, h5, h6, h7⟩ := h
  unfold writeDev at hw
  dsimp only at hw
  split at hw
  case h_8 =>
    split at hw
    case h_4 => cases hw
    all_goals cases hw; exact ⟨h1, h2, h3, h4, h5, h6, h7⟩
  case h_9 =>
    split_ifs at hw <;> cases hw <;> exact ⟨h1, h2, h3, h4, h5, h6, h7⟩
  case h_10 => cases hw; exact ⟨h1, h2, h3, h4, h5, h6, h7⟩
  case h_11 => cases hw
  all_goals
    split at hw
    case isFalse => cases hw
    next hb =>
      cases hw
      have hr := between_iff.1 hb
      refine ⟨?_, ?_, ?_, ?_, ?_, ?_, ?_⟩ <;> assumption

/-- A LANE write changes the weight alone, and keeps it in its range. -/
theorem writeLane_weight {code : Byte} {value : List Byte} {x y : LaneState} (hw : writeLane code value x = some y) :
    ∃ w, y = { x with weight := w } ∧ 1 ≤ w ∧ w ≤ 8 := by
  unfold writeLane at hw
  dsimp only at hw
  split at hw
  · split at hw
    · next hb =>
      cases hw
      exact ⟨_, rfl, between_iff.1 hb⟩
    · cases hw
  · cases hw

/-- The settings of `y` in `x`. -/
def GroupState.withSettings (x y : GroupState) : GroupState :=
  { x with
    segSize := y.segSize, window := y.window, holeTime := y.holeTime, skewLimit := y.skewLimit
    strikeLimit := y.strikeLimit, skewHold := y.skewHold, minLanes := y.minLanes, reservation := y.reservation
    holdLevel := y.holdLevel }

/-- The ranges of R168, without the comparison of window and skew limit. -/
def GroupState.Ranges (x : GroupState) : Prop :=
  (x.segSize = 64 ∨ x.segSize = 128 ∨ x.segSize = 192) ∧ (32 ≤ x.window ∧ x.window ≤ 1024 ∧ x.window % 32 = 0) ∧
    (10 ≤ x.holeTime ∧ x.holeTime ≤ 65535) ∧ 1 ≤ x.skewLimit ∧
    (1 ≤ x.strikeLimit ∧ x.strikeLimit ≤ 7) ∧ (10 ≤ x.skewHold ∧ x.skewHold ≤ 10000) ∧
    (1 ≤ x.minLanes ∧ x.minLanes ≤ 8) ∧ x.reservation ≤ 1024

/-- `y` is `x` with other settings, whose ranges hold where those of `x` hold. -/
def GroupState.Rewritten (x y : GroupState) : Prop :=
  y = x.withSettings y ∧ (x.Ranges → y.Ranges) ∧
    (8 ≤ x.holdLevel ∧ x.holdLevel ≤ 32 → 8 ≤ y.holdLevel ∧ y.holdLevel ≤ 32)

theorem writeGroup_rewritten {code : Byte} {value : List Byte} {x y z : GroupState} (h : x.Rewritten y)
    (hw : writeGroup code value y = some z) : x.Rewritten z := by
  obtain ⟨hy, hr, hh⟩ := h
  unfold writeGroup at hw
  dsimp only at hw
  split at hw
  case h_10 => cases hw
  case h_9 =>
    split_ifs at hw with hb
    cases hw
    exact ⟨by rw [hy]; rfl, hr, fun _ => between_iff.1 hb⟩
  case h_1 =>
    split_ifs at hw with hb
    cases hw
    refine ⟨by rw [hy]; rfl, fun hx => ?_, hh⟩
    obtain ⟨r1, r2, r3, r4, r5, r6, r7, r8⟩ := hr hx
    exact ⟨hb, r2, r3, r4, r5, r6, r7, r8⟩
  case h_2 =>
    split_ifs at hw with hb
    cases hw
    refine ⟨by rw [hy]; rfl, fun hx => ?_, hh⟩
    obtain ⟨r1, r2, r3, r4, r5, r6, r7, r8⟩ := hr hx
    exact ⟨r1, ⟨(between_iff.1 hb.1).1, (between_iff.1 hb.1).2, hb.2⟩, r3, r4, r5, r6, r7, r8⟩
  all_goals
    split_ifs at hw with hb
    cases hw
    refine ⟨by rw [hy]; rfl, fun hx => ?_, hh⟩
    obtain ⟨r1, r2, r3, r4, r5, r6, r7, r8⟩ := hr hx
    have hrange := between_iff.1 hb
    have hlow := hrange.1
    have hhigh := hrange.2
    refine ⟨?_, ?_, ?_, ?_, ?_, ?_, ?_, ?_⟩ <;> assumption

theorem writeStream_inRange {code : Byte} {value : List Byte} {x y : StreamState} (h : x.InRange)
    (hw : writeStream code value x = some y) : y.InRange := by
  unfold writeStream at hw
  dsimp only at hw
  split at hw
  case h_5 => cases hw
  case h_4 =>
    split_ifs at hw with hb
    cases hw
    exact between_iff.1 hb
  case h_3 =>
    split at hw
    case h_3 => cases hw
    all_goals cases hw; exact h
  all_goals
    split_ifs at hw
    cases hw
    exact h

section
variable {as : List Aspect}

theorem writeSettings_moves (t : TableRef) (items : List (Byte × List Byte)) (s : State) (hset : .settings ∈ as)
    (h0 : t ≠ .stream 0) : Moves as s (writeSettings t items s).2 := by
  unfold writeSettings
  split
  · exact .refl s
  · split
    · split
      · next d hd =>
        exact (Move.devSettings d fun h => writeAll_keeps (P := DevSettings.InRange)
          (fun _ _ _ _ hy hw => writeDev_inRange hy hw) items h hd).moves hset
      · exact .refl s
    · next l =>
      split
      · next x hx =>
        have hweight : x = s.lane l ∨ ∃ w, x = { s.lane l with weight := w } ∧ 1 ≤ w ∧ w ≤ 8 :=
          writeAll_keeps (P := fun y => y = s.lane l ∨ ∃ w, y = { s.lane l with weight := w } ∧ 1 ≤ w ∧ w ≤ 8)
            (fun _ _ y z hy hw => by
              obtain ⟨w, rfl, hr⟩ := writeLane_weight hw
              rcases hy with rfl | ⟨v, rfl, -⟩ <;> exact .inr ⟨w, rfl, hr⟩) items (.inl rfl) hx
        rcases hweight with e | ⟨w, e, hr⟩
        · change Moves as s (s.modLane l fun _ => x)
          rw [State.modLane_self e]
          exact .refl s
        · change Moves as s (s.modLane l fun _ => x)
          rw [State.modLane_congr (h := fun x => { x with weight := w }) e]
          exact LaneMove.moves (.weight w hr) hset
      · exact .refl s
    · next g =>
      split
      · next x hx =>
        obtain ⟨hrest, hranges, hhold⟩ := writeAll_keeps (P := (s.group g).Rewritten)
          (fun _ _ _ _ hy hw => writeGroup_rewritten hy hw) items ⟨rfl, id, id⟩ hx
        split_ifs with h1 h2
        · exact .refl s
        · exact .refl s
        · have hmove : GroupMove (s.group g) .settings x := by
            refine .settings hrest (by simpa using h2) (fun hin => ?_) hhold
            obtain ⟨r1, r2, r3, ⟨r4, r4'⟩, r5, r6, r7, r8, r9⟩ := hin
            obtain ⟨q1, q2, q3, q4, q5, q6, q7, q8⟩ := hranges ⟨r1, r2, r3, r4, r5, r6, r7, r8⟩
            exact ⟨q1, q2, q3, ⟨q4, Nat.not_le.1 h1⟩, q5, q6, q7, q8, hhold r9⟩
          exact GroupMove.moves (f := fun _ => x) hmove hset (by rw [hrest]; rfl) (by rw [hrest]; rfl)
      · exact .refl s
    · next y =>
      split
      · next x hx =>
        exact (Move.streamSettings y (fun _ => x) (fun e => h0 (by rw [e])) fun h => writeAll_keeps (P := StreamState.InRange)
          (fun _ _ _ _ hy hw => writeStream_inRange hy hw) items h hx).moves hset
      · exact .refl s

/-! ### Reading and clearing requests (R154, R171) -/

theorem drawFree_moves (t : TableRef) (s : State) : Moves as s (s.drawFree t) := by
  unfold State.drawFree
  split
  · exact (Move.plain rfl).common
  · exact .refl s

theorem clearCounters_moves (t : TableRef) (s : State) : Moves as s (clearCounters t s) := by
  unfold clearCounters
  split
  · exact (Move.plain rfl).common
  · exact LaneFree.moves {}
  · exact GroupMove.common (.free {})
  · exact (Move.streamCounters _ _ rfl).common

/-! ### Groups (R156, R59) -/

/-- The group when it is enabled (R156). -/
def GroupState.enabling (x : GroupState) : GroupState := { x with tx := .forming, ctx := .resync, nextSeq := 0, rrPos := 0 }

theorem enableGroup_emits {g : GroupIx} {s : State} (h : (s.group g).tx = .disabled) :
    Emits ([.groupTx g .disabled .forming] ++
        if (s.group g).ctx = .resync then [] else [.groupRx g (s.group g).ctx .resync])
      (s.modGroup g GroupState.enabling) (enableGroup g s) := by
  have e1 := setTx_emits g .forming (s.modGroup g fun x => { x with nextSeq := 0, rrPos := 0 })
  have e2 := setCtx_emits g .resync (setTx g .forming (s.modGroup g fun x => { x with nextSeq := 0, rrPos := 0 }))
  have hold : ((s.modGroup g fun x => { x with nextSeq := 0, rrPos := 0 }).group g) =
      { s.group g with nextSeq := 0, rrPos := 0 } := by rw [State.group_modGroup, if_pos rfl]
  have hctx : ((setTx g .forming (s.modGroup g fun x => { x with nextSeq := 0, rrPos := 0 })).group g).ctx =
      (s.group g).ctx := by
    rw [e1.notesOnly.group_eq, State.group_modGroup, if_pos rfl, hold]
  rw [hold, State.modGroup_modGroup] at e1
  rw [hctx] at e2
  have hall := (e1.map (.modGroup g fun x => { x with ctx := .resync })).trans e2
  rw [State.modGroup_modGroup] at hall
  simp only [h] at hall
  exact hall

theorem enableGroup_moves {g : GroupIx} {s : State} (ho : .ops ∈ as) (h : (s.group g).tx = .disabled) :
    Moves as s (enableGroup g s) :=
  Moves.trans (GroupMove.moves (.enable h) ho) (enableGroup_emits h).moves

/-! ### Lane service and diagnostics (R157, R182) -/

theorem dropReturns_moves (l : LaneIx) (s : State) : Moves as s (dropReturns l s) :=
  Moves.trans (LaneFree.moves { returns := .inl (Nat.zero_le _) }) (countLane_moves ..)

theorem LaneMove.inService {s : State} {x x' : LaneState} {k : Aspect} (h : LaneMove s x k x') (hk : k ≠ .admin) :
    x'.inService = x.inService := by
  cases h with
  | free h => exact h.sameService.2.1
  | admin => exact absurd rfl hk
  | _ => rfl

theorem Moves.inService {s t : State} (h : Moves as s t) (has : .admin ∉ as) (l : LaneIx) :
    (t.lane l).inService = (s.lane l).inService := by
  refine h.keeps (P := fun u => (u.lane l).inService = (s.lane l).inService) (fun u v k hk hm hu => ?_) rfl
  rcases hm.lane_cases l with e | hl
  · rwa [e]
  · exact (hl.inService fun e => hk.elim (fun h => by rw [e] at h; cases h) fun h => has (e ▸ h)).trans hu

theorem putInService_moves (l : LaneIx) (s : State) (hadm : .admin ∈ as) (hrx : .rx ∈ as) :
    Moves as s (putInService l s) := by
  have hin : Moves as s (s.modLane l fun x => { x with inService := true, debt := 0 }) :=
    LaneMove.moves (.admin rfl (Nat.zero_le _) (.inl rfl)) hadm
  have hlane : ((s.modLane l fun x => { x with inService := true, debt := 0 }).lane l).inService = true := by
    rw [State.lane_modLane, if_pos rfl]
  have hsearch : Moves [.rx] _ (enterSearch l (s.modLane l fun x => { x with inService := true, debt := 0 })) :=
    enterSearch_moves (by decide) hlane
  unfold putInService startMarkerTimer
  refine (hin.trans (hsearch.mono (by simpa using hrx))).trans (LaneFree.moves { markerTimer := .inr ⟨rfl, .inr ?_⟩ })
  rw [hsearch.inService (by decide), hlane]

theorem enterDown_moves (l : LaneIx) (s : State) (hadm : .admin ∈ as) : Moves as s (enterDown l s) := by
  unfold enterDown
  have hclear : Moves as s (s.modLane l fun x =>
      { x with good := 0, miss := 0, lastCount := none, intervalTimer := none, interval := .cleared }) := by
    have e : s.modLane l (fun x =>
        { x with good := 0, miss := 0, lastCount := none, intervalTimer := none, interval := .cleared }) =
        (s.modLane l fun x => { x with good := 0, miss := 0, lastCount := none, interval := .cleared }).modLane l
          fun x => { x with intervalTimer := none } := by rw [State.modLane_modLane]
    rw [e]
    exact Moves.trans
      (LaneFree.moves { good := .inl (Nat.zero_le _), miss := .inl (Nat.zero_le _), errors := .inr (Nat.zero_le _) })
      (LaneMove.moves (.admin rfl le_rfl (.inl rfl)) hadm)
  exact hclear.trans (setRx_moves (LaneMove.moves (.admin rfl le_rfl (LaneState.rxChanged_assoc ..)) hadm))

theorem takeOutOfService_moves (l : LaneIx) (s : State) (hadm : .admin ∈ as) : Moves as s (takeOutOfService l s) :=
  Moves.trans (LaneMove.moves (.admin rfl (Nat.zero_le _) (.inl rfl)) hadm)
    ((enterDown_moves l _ hadm).trans (dropReturns_moves ..))

theorem State.laneFree_iff (s : State) (l : LaneIx) :
    s.laneFree l = true ↔ (s.lane l).role = .off ∧ (s.lane l).assoc = .none ∧ s.engaged l = false := by
  simp [State.laneFree, and_assoc]

theorem changeDiag_moves (l : LaneIx) (m : Diag) {s : State} (hmode : .mode ∈ as) (hrx : .rx ∈ as)
    (h : s.laneFree l = true) : Moves as s (changeDiag l m s) := by
  obtain ⟨hrole, hassoc, -⟩ := (s.laneFree_iff l).1 h
  let s1 := if (s.lane l).diag = .loopRemote then dropReturns l s else s
  have hdrop : Moves as s s1 := by
    unfold s1
    split
    · exact dropReturns_moves ..
    · exact .refl s
  have hlane1 : (s1.lane l).role = (s.lane l).role ∧ (s1.lane l).assoc = (s.lane l).assoc ∧
      (s1.lane l).inService = (s.lane l).inService := by
    unfold s1
    split
    · simp [dropReturns]
    · exact ⟨rfl, rfl, rfl⟩
  let s2 := s1.modLane l fun x =>
    if m = .test then { x with diag := m, testSeq := 0, test := .zero } else { x with diag := m }
  have hlane2 : (s2.lane l).inService = (s.lane l).inService := by
    unfold s2
    rw [State.lane_modLane, if_pos rfl, ← hlane1.2.2]
    split <;> rfl
  have hset : Moves as s1 (s1.modLane l fun x => { x with diag := m }) :=
    LaneMove.moves (.mode m (hlane1.1.trans hrole) (hlane1.2.1.trans hassoc)) hmode
  have hchange : Moves as s1 s2 := by
    unfold s2
    split
    · have e : s1.modLane l (fun x => { x with diag := m, testSeq := 0, test := .zero }) =
          (s1.modLane l fun x => { x with diag := m }).modLane l fun x => { x with testSeq := 0, test := .zero } := by
        rw [State.modLane_modLane]
      rw [e]
      exact hset.trans (LaneFree.moves {})
    · exact hset
  have hend : Moves as s2 (if (s.lane l).inService then enterSearch l s2 else s2) := by
    split
    · next hs => exact enterSearch_moves hrx (hlane2.trans hs)
    · exact .refl _
  exact (hdrop.trans hchange).trans hend

/-! ### Long operations (R137, R139, R141) -/

theorem acceptAdd_moves {g : GroupIx} {l : LaneIx} (k : SlotIx) {s : State} (ho : .ops ∈ as)
    (hs : (s.lane l).inService = true) (hd : (s.lane l).diag = .none)
    (ha : ∀ h, (s.lane l).assoc.group? = some h → g = h) : Moves as s (acceptAdd g l k s) := by
  unfold acceptAdd
  dsimp only
  refine (takeSlot_moves k _ ho s).trans (Moves.trans (LaneMove.moves (.op _) ho) (setRole_moves _ ho (fun g' hg' => ?_) fun _ => ?_))
  · rw [State.lane_modLane, if_pos rfl]
    cases hg'
    exact .inr ha
  · rw [State.lane_modLane, if_pos rfl]
    exact .inr ⟨hs, hd⟩

theorem drainRole_group (s : State) (l : LaneIx) (g : GroupIx) :
    s.drainRole l g = .off ∨ (s.drainRole l g).group? = some g := by
  unfold State.drainRole
  split
  · exact .inl rfl
  · exact .inr rfl

theorem removeRole_moves (l : LaneIx) (s : State) (ho : .ops ∈ as) : Moves as s (removeRole l s) := by
  unfold removeRole
  split
  · next g hg => exact setRole_kept_moves _ ho (by rw [hg]; exact drainRole_group s l g)
  · exact setRole_kept_moves _ ho (.inl rfl)
  · exact setRole_kept_moves _ ho (.inl rfl)
  · exact .refl s

theorem acceptRemove_moves (g : GroupIx) (l : LaneIx) (k : SlotIx) (s : State) (ho : .ops ∈ as) :
    Moves as s (acceptRemove g l k s) :=
  (takeSlot_moves k _ ho s).trans (Moves.trans (LaneMove.moves (.op _) ho) (removeRole_moves l _ ho))

theorem abortOps_moves (g : GroupIx) (s : State) (ho : .ops ∈ as) : Moves as s (abortOps g s) := by
  refine foldl_moves (fun u l => ?_) allLanes s
  split
  · exact endLaneOp_moves l _ ho u
  · exact .refl u

theorem countDiscarded_moves (g : GroupIx) (frames : List TxFrame) (s : State) : Moves as s (countDiscarded g frames s) :=
  foldl_moves (fun _ _ => (countStream_moves ..).trans (countGroup_moves ..)) frames s

/-- The counts of the discarded frames read nothing that the discard of the queues changes. -/
theorem countDiscarded_modGroup {g : GroupIx} {f : GroupState → GroupState}
    (hf : ∀ x ctr, f { x with ctr := ctr } = { f x with ctr := ctr }) (hc : ∀ x, (f x).ctr = x.ctr) (n : Nat)
    (frames : List TxFrame) (s : State) :
    countDiscarded g frames (({ s with storeFree := n } : State).modGroup g f) =
      ({ countDiscarded g frames s with storeFree := n } : State).modGroup g f := by
  unfold countDiscarded
  induction frames generalizing s with
  | nil => rfl
  | cons r frames ih =>
    rw [List.foldl_cons, List.foldl_cons, ← ih]
    congr 1
    have hswap : ∀ u : State, (u.modGroup g f).countGroup g .groupDown = (u.countGroup g .groupDown).modGroup g f := by
      intro u
      unfold State.countGroup
      rw [State.modGroup_modGroup, State.modGroup_modGroup]
      have hraise : raiseCounter (f (u.group g)).ctr GroupCtr.groupDown.ix 1 =
        raiseCounter (u.group g).ctr GroupCtr.groupDown.ix 1 := by rw [hc]
      exact State.modGroup_congr ((congrArg (fun c => { f (u.group g) with ctr := c }) hraise).trans (hf _ _).symm)
    exact hswap (({ s with storeFree := n } : State).countStream r.stream .groupDown)

/-- What the counts of the discarded frames leave of the group: all but its counters. -/
theorem countDiscarded_group (g : GroupIx) (frames : List TxFrame) (s : State) :
    ∃ ctr, (countDiscarded g frames s).group g = { s.group g with ctr := ctr } := by
  refine foldl_keeps (P := fun u => ∃ ctr, u.group g = { s.group g with ctr := ctr }) frames ⟨_, rfl⟩
    fun u r _ ⟨ctr, hu⟩ => ?_
  rw [State.group_countGroup, if_pos rfl, State.group_countStream, hu]
  exact ⟨_, rfl⟩

theorem countDiscarded_fields (g : GroupIx) (frames : List TxFrame) (s : State) :
    (countDiscarded g frames s).storeFree = s.storeFree ∧ (countDiscarded g frames s).poolFree = s.poolFree :=
  foldl_keeps (P := fun u => u.storeFree = s.storeFree ∧ u.poolFree = s.poolFree) frames ⟨rfl, rfl⟩ fun _ _ _ hu => hu

end

end Sys2Proof.Machine
end

section
/-! GROUP-DISABLE, the requests and the Management Engine as chains of moves; every command as one. -/

namespace Sys2Proof.Machine

/- The kernel checks the theorems one after another. -/
set_option Elab.async false

section
variable {as : List Aspect}

/-! ### GROUP-DISABLE (R141) -/

/-- The record a GROUP-DISABLE taken in slot `k` gives its group (R141). -/
def State.disableRec (s : State) (k : SlotIx) (set : LaneSet) : DisableRec := ⟨k, (s.slot k).gen + 1, set, false⟩

/-- The discard of the queues of a group that becomes DISABLING, as one update of the group (R99, R141). -/
theorem discardQueues_disabling (g : GroupIx) (d : DisableRec) (s : State) :
    ∃ ctr, discardQueues g (s.modGroup g fun x => { x with tx := .disabling, disable := some d }) =
      ({ countDiscarded g ((s.group g).high ++ (s.group g).normal) s with
        storeFree := s.storeFree + (s.group g).storeBytes } : State).modGroup g fun x =>
          { x.disabling d with hold := ((s.group g).disabling d).judgedHold, ctr := ctr } := by
  unfold discardQueues
  dsimp only
  rw [State.group_modGroup, if_pos rfl]
  have hqueues := countDiscarded_modGroup (g := g) (f := fun x => x.disabling d) (fun _ _ => rfl) (fun _ => rfl)
    (s.storeFree + (s.group g).storeBytes) ((s.group g).high ++ (s.group g).normal) s
  have hstart : (({ s.modGroup g fun x => { x with tx := .disabling, disable := some d } with
      storeFree := s.storeFree + (s.group g).storeBytes } : State).modGroup g fun y =>
        { y with high := [], normal := [], cursor := none }) =
      ({ s with storeFree := s.storeFree + (s.group g).storeBytes } : State).modGroup g fun x => x.disabling d := by
    change ((({ s with storeFree := s.storeFree + (s.group g).storeBytes } : State).modGroup g fun x =>
      { x with tx := .disabling, disable := some d }).modGroup g fun y => { y with high := [], normal := [], cursor := none }) = _
    rw [State.modGroup_modGroup]
    rfl
  have hjudge := judgeHold_eq g (({ countDiscarded g ((s.group g).high ++ (s.group g).normal) s with
        storeFree := s.storeFree + (s.group g).storeBytes } : State).modGroup g fun x => x.disabling d)
  obtain ⟨ctr, e⟩ := hjudge
  obtain ⟨c, hc⟩ := countDiscarded_group g ((s.group g).high ++ (s.group g).normal) s
  have hhold : ((({ countDiscarded g ((s.group g).high ++ (s.group g).normal) s with
        storeFree := s.storeFree + (s.group g).storeBytes } : State).modGroup g fun x => x.disabling d).group g).judgedHold =
      ((s.group g).disabling d).judgedHold := by
    rw [State.group_modGroup, if_pos rfl]
    change (((countDiscarded g ((s.group g).high ++ (s.group g).normal) s).group g).disabling d).judgedHold = _
    rw [hc]
    rfl
  rw [hhold, State.modGroup_modGroup] at e
  refine ⟨ctr, ?_⟩
  rw [← e, ← hqueues, ← hstart]
  rfl

theorem discardQueues_moves {g : GroupIx} (d : DisableRec) {s : State} (ho : .ops ∈ as)
    (hc : (s.group g).tx.cutting = true) :
    Moves as s (discardQueues g (s.modGroup g fun x => { x with tx := .disabling, disable := some d })) := by
  obtain ⟨ctr, e⟩ := discardQueues_disabling g d s
  rw [e]
  have hcount := countDiscarded_moves (as := as) g ((s.group g).high ++ (s.group g).normal) s
  obtain ⟨c, hg⟩ := countDiscarded_group g ((s.group g).high ++ (s.group g).normal) s
  obtain ⟨hstore, hpool⟩ := countDiscarded_fields g ((s.group g).high ++ (s.group g).normal) s
  generalize countDiscarded g ((s.group g).high ++ (s.group g).normal) s = u at *
  have hdis : (s.group g).disabling d = { (u.group g).disabling d with ctr := (s.group g).ctr } := by rw [hg]; rfl
  have hmove : GroupMove (u.group g) .ops
      { (u.group g).disabling d with hold := ((s.group g).disabling d).judgedHold, ctr := ctr } := by
    rw [hdis]
    exact .disabling d ctr (by rw [hg]; exact hc)
  refine hcount.trans ((Move.group (s := u) g
    (fun x => { x.disabling d with hold := ((s.group g).disabling d).judgedHold, ctr := ctr })
    u.poolFree (s.storeFree + (s.group g).storeBytes) hmove rfl ?_).moves ho)
  rw [hstore, hg]
  rfl

theorem disableRole_moves (g : GroupIx) (s : State) (l : LaneIx) (ho : .ops ∈ as) : Moves as s (disableRole g s l) := by
  unfold disableRole
  split
  · exact .refl s
  · next hn =>
    split
    · next h hh =>
      refine setRole_kept_moves _ ho ?_
      rw [hh]
      have hg : h = g := by simpa [hh, Role.group?] using hn
      exact hg ▸ drainRole_group s l h
    · exact setRole_kept_moves _ ho (.inl rfl)
    · exact setRole_kept_moves _ ho (.inl rfl)
    · exact .refl s

theorem disableRole_group (g : GroupIx) (s : State) (l : LaneIx) (h : GroupIx) :
    ∃ tx, (disableRole g s l).group h = { s.group h with tx := tx } := by
  unfold disableRole
  split
  · exact ⟨_, rfl⟩
  · split
    · exact setRole_group ..
    · exact setRole_group ..
    · exact setRole_group ..
    · exact ⟨_, rfl⟩

theorem disableRoles_disable (g : GroupIx) (ls : List LaneIx) (s : State) (h : GroupIx) :
    ((ls.foldl (disableRole g) s).group h).disable = (s.group h).disable :=
  foldl_keeps (P := fun u => (u.group h).disable = (s.group h).disable) ls rfl fun u l _ hu => by
    obtain ⟨tx, e⟩ := disableRole_group g u l h
    rw [e]
    exact hu

theorem acceptDisable_moves {g : GroupIx} (set : LaneSet) (k : SlotIx) {s : State} (ho : .ops ∈ as)
    (hc : (s.group g).tx.cutting = true) : Moves as s (acceptDisable g set k s) := by
  unfold acceptDisable
  extract_lets old s1 d s2 s3
  have h1 : Moves as s s1 := takeSlot_moves k _ ho s
  have h2 : Moves as s s2 := h1.trans (discardQueues_moves d ho hc)
  have hdis : (s2.group g).disable = some d := by
    obtain ⟨ctr, e⟩ := discardQueues_disabling g d s1
    unfold s2
    rw [e, State.group_modGroup, if_pos rfl]
    rfl
  have h3 : Moves as s s3 :=
    h2.trans (Moves.trans (foldl_moves (fun u l => disableRole_moves g u l ho) allLanes s2) (post_moves ..))
  split
  · refine h3.trans (completeDisable_moves d _ ho ?_)
    unfold s3
    rw [post_group, disableRoles_disable, hdis]
    rfl
  · exact h3

/-! ### Requests (R150 to R159) -/

theorem reqReadEntry_moves (t i : Byte) (s : State) : Moves as s (reqReadEntry t i s).part := by
  unfold reqReadEntry
  split
  · exact .refl s
  · exact drawFree_moves ..

theorem reqReadCounters_moves (t i : Byte) (c : Bool) (s : State) : Moves as s (reqReadCounters t i c s).part := by
  unfold reqReadCounters
  split
  · exact .refl s
  · dsimp only
    split
    · exact clearCounters_moves ..
    · exact .refl s

theorem reqCaptureRead_moves (l : Byte) (s : State) : Moves as s (reqCaptureRead l s).part := by
  unfold reqCaptureRead
  split <;> exact .refl s

theorem reqCaptureRelease_moves (l : Byte) (s : State) (h : .release ∈ as) :
    Moves as s (reqCaptureRelease l s).part := by
  unfold reqCaptureRelease
  split
  · exact .refl s
  · next l _ =>
    have hrel : LaneMove s (s.lane l) .release { s.lane l with capture := .released } := .release
    exact LaneMove.moves (f := fun x => { x with capture := .released }) hrel h

theorem reqWriteEntry_moves (t i : Byte) (items : List (Byte × List Byte)) (s : State) (h : .settings ∈ as) :
    Moves as s (reqWriteEntry t i items s).part := by
  unfold reqWriteEntry
  split
  · exact .refl s
  · split
    · exact .refl s
    · next h0 => exact writeSettings_moves _ items s h h0

theorem reqGroupEnable_moves (g : Byte) (s : State) (ho : .ops ∈ as) : Moves as s (reqGroupEnable g s).part := by
  unfold reqGroupEnable
  split
  · exact .refl s
  · split_ifs with h1 h2
    · exact .refl s
    · exact .refl s
    · exact enableGroup_moves ho (by simpa using h1)

theorem reqGroupResync_moves (g : Byte) (s : State) : Moves as s (reqGroupResync g s).part := by
  unfold reqGroupResync
  split
  · exact .refl s
  · split
    · exact .refl s
    · dsimp only
      split
      · next h => exact enterResync_moves h
      · exact .refl s

theorem reqLaneService_moves (l d : Byte) (s : State) (hadm : .admin ∈ as) (hrx : .rx ∈ as) :
    Moves as s (reqLaneService l d s).part := by
  unfold reqLaneService
  split
  · exact .refl s
  · split
    · dsimp only
      split
      · exact .refl s
      · exact putInService_moves _ s hadm hrx
    · split
      · exact .refl s
      · dsimp only
        split
        · exact takeOutOfService_moves _ s hadm
        · exact .refl s
    · exact .refl s

theorem reqLaneDiag_moves (l m : Byte) (s : State) (hmode : .mode ∈ as) (hrx : .rx ∈ as) :
    Moves as s (reqLaneDiag l m s).part := by
  unfold reqLaneDiag
  split
  · exact .refl s
  · split
    · exact .refl s
    · split
      · exact .refl s
      · next h =>
        dsimp only
        split
        · exact .refl s
        · exact changeDiag_moves _ _ hmode hrx (by simpa using h)

theorem reqLaneAdd_moves (g l : Byte) (s : State) (ho : .ops ∈ as) : Moves as s (reqLaneAdd g l s).part := by
  unfold reqLaneAdd
  split
  · next g l _ _ =>
    split_ifs with h1 h2 h3 h4 h5
    · exact .refl s
    · exact .refl s
    · exact .refl s
    · exact .refl s
    · exact .refl s
    · split
      · exact .refl s
      · next k _ =>
        simp only [not_or, Bool.not_eq_true', Bool.not_eq_false, ne_eq, not_not] at h2
        refine acceptAdd_moves k ho h2.1 h2.2 fun h hh => ?_
        by_contra hn
        refine h4 ⟨by rw [hh]; rfl, fun e => hn ?_⟩
        rw [hh] at e
        exact (Option.some.inj e).symm
  · exact .refl s

theorem reqLaneRemove_moves (l : Byte) (s : State) (ho : .ops ∈ as) : Moves as s (reqLaneRemove l s).part := by
  unfold reqLaneRemove
  split
  · exact .refl s
  · split
    · exact .refl s
    · split
      · exact .refl s
      · split
        · exact .refl s
        · dsimp only
          split
          · exact .refl s
          · exact (endLaneOp_moves _ _ ho s).trans (acceptRemove_moves _ _ _ _ ho)

/-- What the ending of a lane's operation leaves of the groups: all. -/
theorem endLaneOp_group (l : LaneIx) (o : OpOutcome) (s : State) (g : GroupIx) : (endLaneOp l o s).group g = s.group g := by
  rw [(endLaneOp_emits l o s).notesOnly.group_eq]
  unfold laneOpEnds slotEnds
  split
  · rfl
  · split <;> rfl

theorem abortOps_group (g : GroupIx) (s : State) (h : GroupIx) : (abortOps g s).group h = s.group h :=
  foldl_keeps (P := fun u => u.group h = s.group h) (f := fun s l => if s.opOn g l then endLaneOp l .aborted s else s)
    allLanes rfl fun u l _ hu => by
      split
      · rw [endLaneOp_group, hu]
      · exact hu

theorem reqGroupDisable_moves (g : Byte) (s : State) (ho : .ops ∈ as) : Moves as s (reqGroupDisable g s).part := by
  unfold reqGroupDisable
  split
  · exact .refl s
  · split
    · exact .refl s
    · next hc =>
      dsimp only
      split
      · exact .refl s
      · refine (abortOps_moves _ s ho).trans (acceptDisable_moves _ _ ho ?_)
        rw [abortOps_group]
        simpa using hc

theorem reqOpQuery_moves (t : BitVec 16) (s : State) : Moves as s (reqOpQuery t s).part := by
  unfold reqOpQuery
  split
  · dsimp only
    split <;> exact .refl s
  · exact .refl s

theorem reqNotifyAck_moves (n : BitVec 32) (s : State) : Moves as s (reqNotifyAck n s).part := by
  unfold reqNotifyAck
  split
  · exact .refl s
  · exact (acknowledge_noted n s).moves

/-- What the execution of a request may touch. -/
def Req.aspects : Req → List Aspect
  | .captureRelease _ => [.release]
  | .writeEntry _ _ _ => [.settings]
  | .groupEnable _ => [.ops]
  | .groupDisable _ => [.ops]
  | .laneAdd _ _ => [.ops]
  | .laneRemove _ => [.ops]
  | .laneService _ _ => [.admin, .rx]
  | .laneDiag _ _ => [.mode, .rx]
  | _ => []

theorem Req.run_moves (r : Req) (s : State) : Moves r.aspects s (r.run s).part := by
  cases r with
  | echo ps => exact .refl s
  | readEntry t i => exact reqReadEntry_moves t i s
  | readCounters t i c => exact reqReadCounters_moves t i _ s
  | captureRead l => exact reqCaptureRead_moves l s
  | captureRelease l => exact reqCaptureRelease_moves l s (by simp [Req.aspects])
  | writeEntry t i items => exact reqWriteEntry_moves t i items s (by simp [Req.aspects])
  | groupEnable g => exact reqGroupEnable_moves g s (by simp [Req.aspects])
  | groupDisable g => exact reqGroupDisable_moves g s (by simp [Req.aspects])
  | groupResync g => exact reqGroupResync_moves g s
  | laneAdd g l => exact reqLaneAdd_moves g l s (by simp [Req.aspects])
  | laneRemove l => exact reqLaneRemove_moves l s (by simp [Req.aspects])
  | laneService l d => exact reqLaneService_moves l d s (by simp [Req.aspects]) (by simp [Req.aspects])
  | laneDiag l m => exact reqLaneDiag_moves l m s (by simp [Req.aspects]) (by simp [Req.aspects])
  | opQuery t => exact reqOpQuery_moves t s
  | notifyAck n => exact reqNotifyAck_moves n s
  | deviceReset => exact .refl s

/-! ### Entries and frames (R147 to R153) -/

/-- All a judged entry can do: count a denial, nothing, or run its request. -/
theorem judgeEntry_cases (o : Origin) (code : Byte) (clears : Bool) (req : Option Req) (used later : Nat) (s : State) :
    (judgeEntry o code clears req used later s).part = s.countDev .deniedEntries ∨
      (judgeEntry o code clears req used later s).part = s ∨
      ∃ r, req = some r ∧ judgeEntry o code clears req used later s = r.run s := by
  unfold judgeEntry
  split
  · exact .inl rfl
  · split
    · exact .inr (.inl rfl)
    · next r =>
      split
      · exact .inr (.inr ⟨r, rfl, rfl⟩)
      · exact .inr (.inl rfl)

theorem judgeEntry_moves {req : Option Req} (h : ∀ r, req = some r → ∀ k ∈ r.aspects, k ∈ as) (o : Origin) (code : Byte)
    (clears : Bool) (used later : Nat) (s : State) : Moves as s (judgeEntry o code clears req used later s).part := by
  rcases judgeEntry_cases o code clears req used later s with e | e | ⟨r, hr, e⟩
  · rw [e]; exact countDev_moves ..
  · rw [e]; exact .refl s
  · rw [e]; exact (r.run_moves s).mono (h r hr)

/-- Every aspect an entry can touch. -/
def allAspects : List Aspect := [.ops, .rx, .settings, .admin, .mode, .release]

theorem Req.aspects_all (r : Req) : ∀ k ∈ r.aspects, k ∈ allAspects := by
  cases r <;> simp [Req.aspects, allAspects]

/-- What every entry keeps, the entries of a frame keep. -/
theorem runEntries_keeps {P : State → Prop} {o : Origin} {stop : Bool}
    (h : ∀ code clears req used later u, P u → P (judgeEntry o code clears req used later u).part)
    (entries : List (Byte × List Byte)) {r : FrameRun} (hr : P r.part) : P (runEntries o stop entries r).part := by
  induction entries generalizing r with
  | nil => exact hr
  | cons e entries ih =>
    refine ih ?_
    unfold runEntry
    split
    · exact hr
    · exact h _ _ _ _ _ _ hr

theorem runEntries_moves (o : Origin) (stop : Bool) (entries : List (Byte × List Byte)) (r : FrameRun) :
    Moves allAspects r.part (runEntries o stop entries r).part :=
  runEntries_keeps (P := Moves allAspects r.part)
    (fun code clears _ used later u hu =>
      hu.trans (judgeEntry_moves (fun r _ => r.aspects_all) o code clears used later u)) entries (.refl _)

theorem engine_moves (e : Engine) (s : State) : Moves as s { s with engine := e } := (Move.plain rfl).common

theorem offerResponse_moves (r : Response) (s : State) : Moves as s (offerResponse r s) := by
  unfold offerResponse
  split
  · split
    · next h => exact (engine_moves _ s).trans ((countDev_moves ..).trans (mgmtJoin_moves _ h))
    · exact engine_moves _ s
  · split
    · next h => exact (engine_moves .idle s).trans ((countDev_moves ..).trans (admitTaken_moves h rfl rfl))
    · exact engine_moves _ s
    · exact (engine_moves _ s).trans (countDev_moves ..)

theorem processFrame_moves (f : RequestFrame) (s : State) : Moves allAspects s (processFrame f s) := by
  unfold processFrame
  split
  · exact countDev_moves ..
  · next entries _ =>
    exact (runEntries_moves f.origin (frameStop f.bytes) entries ⟨s, [], false, false⟩).trans
      ((countDev_moves ..).trans (offerResponse_moves ..))

theorem engineTakes_moves (s : State) : Moves allAspects s (engineTakes s) := by
  unfold engineTakes
  split
  · next f rest _ hq =>
    refine Moves.trans (Move.requests rest (.inl ?_)).common (processFrame_moves f _)
    rw [hq]
    exact Nat.le_succ _
  · exact .refl s

theorem reoffer_moves (s : State) : Moves as s (reoffer s) := by
  unfold reoffer
  split
  · exact offerResponse_moves ..
  · exact .refl s

theorem entryRow_moves {req : Option Req} (h : ∀ r, req = some r → ∀ k ∈ r.aspects, k ∈ as) (o : Origin) (code : Byte)
    (clears : Bool) (s : State) : Moves as s (entryRow o code clears req s) := by
  unfold entryRow
  split
  · exact .refl s
  · exact (judgeEntry_moves h ..).trans (Move.plain rfl).common

/-- A row whose request is known. -/
theorem entryRow_run_moves (r : Req) (o : Origin) (code : Byte) (clears : Bool) (s : State) :
    Moves r.aspects s (entryRow o code clears (some r) s) :=
  entryRow_moves (fun r' e k hk => by rwa [Option.some.inj e]) o code clears s

theorem writeReq_aspects {t i : Byte} {items : List Byte} {r : Req} (h : writeReq t i items = some r) :
    r.aspects = [.settings] := by
  unfold writeReq at h
  split at h
  · cases h; rfl
  · cases h

theorem deviceReset_moves (o : Origin) (tag : BitVec 16) (s : State) :
    Moves as s (if s.executes && accessAllows o s.dev.remoteAccess 0x10 false then
        answerReset o tag (entryRow o 0x10 false (some .deviceReset) s)
      else entryRow o 0x10 false (some .deviceReset) s) := by
  have hrow : Moves as s (entryRow o 0x10 false (some .deviceReset) s) := (entryRow_run_moves .deviceReset ..).weaken
  split
  · exact hrow.trans ((countDev_moves ..).trans (offerResponse_moves ..))
  · exact hrow

end

end Sys2Proof.Machine
end

section
/-! Every command as a chain of moves, a change of an input pin, or a reset; and the part after a reset. -/

namespace Sys2Proof.Machine

/- The kernel checks the theorems one after another. -/
set_option Elab.async false

/-! ### Every command -/

/-- What a command that is no reset and no pin may touch. -/
def commandAspects : Instr → List Aspect
  | .carrierLoss _ _ => [.rx]
  | .segmentTaken _ _ => segmentAspects
  | .segmentTransmitEnd _ => segmentAspects
  | .intervalExpiry _ => [.rx]
  | .operationTimeout _ => [.ops]
  | .segmentPlacement _ => [.ops]
  | .segmentTransmitStart _ => [.ops]
  | .engineTakeFrame => allAspects
  | .captureRelease _ _ => [.release]
  | .writeEntry _ _ _ _ => [.settings]
  | .groupEnable _ _ => [.ops]
  | .groupDisable _ _ => [.ops]
  | .laneAdd _ _ _ => [.ops]
  | .laneRemove _ _ => [.ops]
  | .laneService _ _ _ => [.admin, .rx]
  | .laneDiag _ _ _ => [.mode, .rx]
  | _ => []

/-- The four events of a reset. -/
def isReset : Instr → Bool
  | .powerOnReset => true
  | .resetInputRelease => true
  | .deviceResetEffect => true
  | .egressTransmissionEnd => true
  | _ => false

/-- All a command can make of the part. -/
inductive Effect (c : Instr) (s : State) : State → Prop
  | moves {t : State} (h : Moves (commandAspects c) s t) : Effect c s t
  | inhibit (b : Bool) (hc : c = .transmitInhibitAssert ∨ c = .transmitInhibitRelease) :
      Effect c s { s with txInhibit := b }
  | pause (hc : c = .egressPauseAssert) : Effect c s { s with egressPause := true }
  | unpause (hc : c = .egressPauseRelease) : Effect c s (arbitrate { s with egressPause := false })
  | reset {t : State} (hc : isReset c = true) (h : AfterReset s t) : Effect c s t

/-- Every command goes on, to a next state with one of the effects above. -/
theorem exec_effect (c : Instr) (s : State) : ∃ t, exec c s = .next t ∧ Effect c s t := by
  have row : ∀ {c : Instr} (r : Req) (o : Origin) (code : Byte) (clears : Bool),
      exec c s = .next (entryRow o code clears (some r) s) → commandAspects c = r.aspects →
      ∃ t, exec c s = .next t ∧ Effect c s t :=
    fun r o code clears he ha => ⟨_, he, .moves (ha ▸ entryRow_run_moves r o code clears s)⟩
  cases c with
  | powerOnReset => exact ⟨_, rfl, .reset rfl (.inl rfl)⟩
  | transmitInhibitAssert => exact ⟨_, rfl, .inhibit true (.inl rfl)⟩
  | transmitInhibitRelease => exact ⟨_, rfl, .inhibit false (.inr rfl)⟩
  | carrierLoss l mid => exact ⟨_, exec_carrierLoss s l mid, .moves (carrierGoes_moves l mid s)⟩
  | carrierReturn l => exact ⟨_, exec_carrierReturn s l, .moves (LaneFree.moves {})⟩
  | segmentTaken l bytes => exact ⟨_, exec_segmentTaken s l bytes, .moves (lineSegment_moves l bytes s)⟩
  | intervalExpiry l => exact ⟨_, exec_intervalExpiry s l, .moves (intervalExpires_moves l s)⟩
  | markerTimerExpiry l => exact ⟨_, exec_markerTimerExpiry s l, .moves (markerExpires_moves l s)⟩
  | holeTimerExpiry g => exact ⟨_, exec_holeTimerExpiry s g, .moves (holeExpires_moves g s)⟩
  | skewHoldExpiry l => exact ⟨_, exec_skewHoldExpiry s l, .moves (skewHoldExpires_moves l s)⟩
  | operationTimeout k => exact ⟨_, exec_operationTimeout s k, .moves (operationExpires_moves k (List.mem_singleton.2 rfl) s)⟩
  | retryExpiry => exact ⟨_, exec_retryExpiry s, .moves (retryExpires_moves s)⟩
  | ingressFrameTaken x e r p => exact ⟨_, exec_ingressFrameTaken s x e r p, .moves (takeIngress_moves x e r p s)⟩
  | egressPauseAssert => exact ⟨_, rfl, .pause rfl⟩
  | egressPauseRelease => exact ⟨_, exec_egressPauseRelease s, .unpause rfl⟩
  | egressTransmissionEnd =>
    refine ⟨_, exec_egressTransmissionEnd s, ?_⟩
    by_cases h : s.resetResponseInFlight = true
    · exact .reset rfl (.inr (.inr ⟨h, .inr rfl⟩))
    · exact .moves (egressEnds_moves (by simpa using h))
  | heldFrameJoin g => exact ⟨_, exec_heldFrameJoin s g, .moves (joinHeld_moves g s)⟩
  | segmentPlacement g => exact ⟨_, exec_segmentPlacement s g, .moves (placeSegment_moves g s (List.mem_singleton.2 rfl))⟩
  | segmentTransmitStart l =>
    exact ⟨_, exec_segmentTransmitStart s l, .moves (startTransmission_moves l s (List.mem_singleton.2 rfl))⟩
  | segmentTransmitEnd l => exact ⟨_, exec_segmentTransmitEnd s l, .moves (endTransmission_moves l s)⟩
  | engineTakeFrame => exact ⟨_, exec_engineTakeFrame s, .moves (engineTakes_moves s)⟩
  | responseReoffer => exact ⟨_, exec_responseReoffer s, .moves (reoffer_moves s)⟩
  | echo o ps => exact row (.echo ps) o _ _ (exec_echo s o ps) rfl
  | readEntry o t i => exact row (.readEntry t i) o _ _ (exec_readEntry s o t i) rfl
  | readCounters o t i z => exact row (.readCounters t i z) o _ _ (exec_readCounters s o t i z) rfl
  | captureRead o l => exact row (.captureRead l) o _ _ (exec_captureRead s o l) rfl
  | captureRelease o l => exact row (.captureRelease l) o _ _ (exec_captureRelease s o l) rfl
  | writeEntry o t i items =>
    refine ⟨_, exec_writeEntry s o t i items, .moves (entryRow_moves (fun r hr k hk => ?_) ..)⟩
    rwa [writeReq_aspects hr] at hk
  | groupEnable o g => exact row (.groupEnable g) o _ _ (exec_groupEnable s o g) rfl
  | groupDisable o g => exact row (.groupDisable g) o _ _ (exec_groupDisable s o g) rfl
  | groupResync o g => exact row (.groupResync g) o _ _ (exec_groupResync s o g) rfl
  | laneAdd o g l => exact row (.laneAdd g l) o _ _ (exec_laneAdd s o g l) rfl
  | laneRemove o l => exact row (.laneRemove l) o _ _ (exec_laneRemove s o l) rfl
  | laneService o l d => exact row (.laneService l d) o _ _ (exec_laneService s o l d) rfl
  | laneDiag o l m => exact row (.laneDiag l m) o _ _ (exec_laneDiag s o l m) rfl
  | opQuery o t => exact row (.opQuery t) o _ _ (exec_opQuery s o t) rfl
  | notifyAck o n => exact row (.notifyAck n) o _ _ (exec_notifyAck s o n) rfl
  | deviceReset o t => exact ⟨_, exec_deviceReset s o t, .moves (deviceReset_moves o t s)⟩
  | deviceResetEffect =>
    refine ⟨_, exec_deviceResetEffect s, ?_⟩
    split
    · next h => exact .reset rfl (.inr (.inr ⟨h, .inl (by rw [exec_deviceResetEffect, if_pos h])⟩))
    · exact .moves (.refl s)
  | notificationOffer => exact ⟨_, exec_notificationOffer s, .moves (offerNotes_moves s)⟩
  | resetInputRelease =>
    refine ⟨_, exec_resetInputRelease s, ?_⟩
    split
    · next h => exact .reset rfl (.inr (.inl ⟨h, by rw [exec_resetInputRelease, if_pos h]⟩))
    · exact .moves (.refl s)

theorem effect_of_exec {c : Instr} {s t : State} (h : exec c s = .next t) : Effect c s t := by
  obtain ⟨u, hu, he⟩ := exec_effect c s
  rw [h] at hu
  cases hu
  exact he

/-! ### What every command keeps -/

/-- What every move keeps, and what a reset gives, every step keeps, where it says nothing of pins, queue and timebase. -/
theorem step_keeps_of_moves {P : State → Prop} (hpin : ∀ s u : State, P s → u = { s with
      pending := u.pending, timebase := u.timebase, txInhibit := u.txInhibit, egressPause := u.egressPause
      egressBusy := u.egressBusy, lastServed := u.lastServed } → P u)
    (hmove : ∀ u v k, Move u k v → P u → P v)
    (hreset : ∀ cause s b, P { resetPart cause s with resetAsserted := b }) {s t : State} (h : P s)
    (hs : step s = .next t) : P t := by
  refine step_keeps (P := P) (fun s q hs => hpin s _ hs rfl) (fun s hs => ?_) (fun c s t hs he => ?_) h hs
  · unfold tick
    split
    · exact hs
    · exact hpin s _ hs rfl
  · cases effect_of_exec he with
    | moves hm => exact hm.keeps (fun u v k _ => hmove u v k) hs
    | inhibit => exact hpin s _ hs rfl
    | pause => exact hpin s _ hs rfl
    | unpause => exact hpin s _ hs (by rw [arbitrate_fields])
    | reset _ hr =>
      obtain ⟨cause, rfl | rfl⟩ := afterReset_cases hr
      · exact hreset cause s true
      · exact (post_moves (as := []) (.resetDone cause) _).keeps (fun u v k _ => hmove u v k) (hreset cause s false)

end Sys2Proof.Machine
end

section
/-! The laws of a safe state under moves and resets: pool and store, capacities, notifications, settings, one group, windows,
group-hold outputs; and what every command leaves. -/

namespace Sys2Proof.Machine

/- The kernel checks the theorems one after another. -/
set_option Elab.async false

/-! ### The part after a reset is safe -/

section
variable (cause : ResetCause) (s : State) (b : Bool)

/-- The part a reset holds, with the level `b` of the RESET input. -/
def State.afresh : State := { resetPart cause s with resetAsserted := b }

@[simp] theorem State.group_afresh (g : GroupIx) : (s.afresh cause b).group g = .initial := resetPart_group cause s g

@[simp] theorem State.lane_afresh (l : LaneIx) :
    (s.afresh cause b).lane l = { LaneState.initial with cdPresent := (s.lane l).cdPresent } := resetPart_lane cause s l

@[simp] theorem State.slot_afresh (k : SlotIx) : (s.afresh cause b).slot k = ⟨0, .empty⟩ := by
  simp [State.afresh, resetPart, State.slot, State.held]

theorem State.stream_afresh (x : StreamIx) : (s.afresh cause b).stream x =
    if x = 0 then StreamState.management else StreamState.initial := by
  have e : (s.afresh cause b).stream x = ((Vector.replicate 64 StreamState.initial).set 0 StreamState.management)[x] := rfl
  rw [e, Fin.getElem_fin, Vector.getElem_set]
  by_cases h : x = 0
  · simp [h]
  · have h' : ¬ 0 = x.val := fun e => h (Fin.ext e.symm)
    simp [h, h']

theorem afresh_poolWhole : (s.afresh cause b).PoolWhole := by
  simp only [State.PoolWhole, State.poolHeld, State.group_afresh]
  rfl

theorem afresh_storeWhole : (s.afresh cause b).StoreWhole := by
  simp only [State.StoreWhole, State.storeUsed, State.group_afresh]
  rfl

theorem afresh_bounded : (s.afresh cause b).Bounded := by
  refine ⟨Nat.zero_le _, Nat.zero_le _, Nat.zero_le _, Nat.zero_le _, fun l => ?_, fun g => ?_⟩
  · rw [State.lane_afresh]
    simp [LaneState.Bounded, LaneState.initial, IntervalRecord.cleared, Capture.released, Assoc.strikes?]
  · rw [State.group_afresh]
    simp [GroupState.Bounded, GroupState.initial]

theorem afresh_notesLawful : (s.afresh cause b).NotesLawful := ⟨Nat.zero_le _, trivial, List.Pairwise.nil⟩

theorem afresh_settingsInRange : (s.afresh cause b).SettingsInRange := by
  refine ⟨?_, fun l => ?_, fun g => ?_, fun x => ?_, ?_⟩
  · change DevSettings.initial.InRange
    simp [DevSettings.InRange, DevSettings.initial]
  · rw [State.lane_afresh]
    simp [LaneState.initial]
  · rw [State.group_afresh]
    simp [GroupState.InRange, GroupState.initial]
  · rw [State.stream_afresh]
    split <;> simp [StreamState.InRange, StreamState.management, StreamState.initial]
  · rw [State.stream_afresh]
    simp [StreamState.Fixed, StreamState.management]

theorem afresh_oneGroup : (s.afresh cause b).OneGroup := fun l g h hr => by
  rw [State.lane_afresh] at hr
  cases hr

theorem afresh_lanesAttached : (s.afresh cause b).LanesAttached := fun l => by
  rw [State.lane_afresh]
  simp [LaneState.Attached, LaneState.initial, Assoc.isMember]

theorem afresh_storesLawful : (s.afresh cause b).StoresLawful := fun g => by
  rw [State.group_afresh]
  simp [GroupState.StoreLawful, GroupState.initial, CtxState.live]

theorem afresh_holdsLawful : (s.afresh cause b).HoldsLawful := fun g => by
  rw [State.group_afresh]
  simp [GroupState.HoldLawful, GroupState.initial]

theorem afresh_opsLawful : (s.afresh cause b).OpsLawful := by
  have horder : (s.afresh cause b).completionOrder = [] := rfl
  simp [State.OpsLawful, State.RoleLawful, horder, LaneState.initial, GroupState.initial, Role.group?]

theorem afresh_safe : (s.afresh cause b).Safe :=
  ⟨afresh_poolWhole cause s b, afresh_storeWhole cause s b, afresh_bounded cause s b, afresh_notesLawful cause s b,
    afresh_settingsInRange cause s b, afresh_oneGroup cause s b, afresh_lanesAttached cause s b,
    afresh_storesLawful cause s b, afresh_holdsLawful cause s b, afresh_opsLawful cause s b⟩
end

/-! ### Pool and store (law L1, R97) -/

theorem storeUsed_modGroup (s : State) (g : GroupIx) (f : GroupState → GroupState) :
    (s.modGroup g f).storeUsed + (s.group g).storeBytes = s.storeUsed + (f (s.group g)).storeBytes := by
  simp only [State.storeUsed, allGroups, List.map_cons, List.map_nil, List.sum_cons, List.sum_nil, State.group_modGroup]
  match g with
  | 0 => simp; omega
  | 1 => simp; omega
  | 2 => simp; omega
  | 3 => simp; omega

/-- A move that is none of a group leaves the groups, the pool and the store. -/
theorem Move.groups_cases {s t : State} {k : Aspect} (h : Move s k t) :
    (t.groups = s.groups ∧ t.poolFree = s.poolFree ∧ t.storeFree = s.storeFree) ∨
      ∃ g f pool store, GroupMove (s.group g) k (f (s.group g)) ∧
        pool + (f (s.group g)).heldCount = s.poolFree + (s.group g).heldCount ∧
        store + (f (s.group g)).storeBytes = s.storeFree + (s.group g).storeBytes ∧
        t = ({ s with poolFree := pool, storeFree := store } : State).modGroup g f := by
  cases h with
  | plain h => exact .inl (by rw [h]; exact ⟨rfl, rfl, rfl⟩)
  | noted h => exact .inl ⟨h.notesOnly.groups_eq, h.notesOnly.poolFree_eq, h.notesOnly.storeFree_eq⟩
  | group g f pool store h hp hs => exact .inr ⟨g, f, pool, store, h, hp, hs, rfl⟩
  | _ => exact .inl ⟨rfl, rfl, rfl⟩

theorem Move.poolWhole {s t : State} {k : Aspect} (h : Move s k t) (hs : s.PoolWhole) : t.PoolWhole := by
  rcases h.groups_cases with ⟨hg, hp, -⟩ | ⟨g, f, pool, store, -, hp, -, rfl⟩
  · have hheld : t.poolHeld = s.poolHeld := by simp only [State.poolHeld, State.group, hg]
    rw [State.PoolWhole, hp, hheld]
    exact hs
  · have e := poolHeld_modGroup { s with poolFree := pool, storeFree := store } g f
    have h1 : ({ s with poolFree := pool, storeFree := store } : State).group g = s.group g := rfl
    have h2 : ({ s with poolFree := pool, storeFree := store } : State).poolHeld = s.poolHeld := rfl
    rw [h1, h2] at e
    unfold State.PoolWhole at *
    rw [State.modGroup_poolFree]
    dsimp only
    omega

theorem Move.storeWhole {s t : State} {k : Aspect} (h : Move s k t) (hs : s.StoreWhole) : t.StoreWhole := by
  rcases h.groups_cases with ⟨hg, -, hf⟩ | ⟨g, f, pool, store, -, -, hf, rfl⟩
  · have hused : t.storeUsed = s.storeUsed := by simp only [State.storeUsed, State.group, hg]
    rw [State.StoreWhole, hf, hused]
    exact hs
  · have e := storeUsed_modGroup { s with poolFree := pool, storeFree := store } g f
    have h1 : ({ s with poolFree := pool, storeFree := store } : State).group g = s.group g := rfl
    have h2 : ({ s with poolFree := pool, storeFree := store } : State).storeUsed = s.storeUsed := rfl
    rw [h1, h2] at e
    unfold State.StoreWhole at *
    rw [State.modGroup_storeFree]
    dsimp only
    omega

/-- Settles O5: buffers and bonded bytes only move between the pool, the store and a group. -/
theorem poolAndStoreLawsKept : Obligations.PoolAndStoreLawsKept := fun _ _ hs =>
  ⟨fun h => step_keeps_of_moves (P := State.PoolWhole) (fun _ _ h e => by rw [e]; exact h) (fun _ _ _ => Move.poolWhole)
      afresh_poolWhole h hs,
    fun h => step_keeps_of_moves (P := State.StoreWhole) (fun _ _ h e => by rw [e]; exact h) (fun _ _ _ => Move.storeWhole)
      afresh_storeWhole h hs⟩

/-! ### Notifications (law L10) -/

theorem Move.notesLawful {s t : State} {k : Aspect} (h : Move s k t) (hs : s.NotesLawful) : t.NotesLawful := by
  cases h with
  | plain h => rw [h]; exact hs
  | noted h => exact h.lawful hs
  | _ => exact hs

/-- Settles O7: only the Notification Unit changes the queue, and it keeps the law. -/
theorem notificationLawKept : Obligations.NotificationLawKept := fun _ _ h hs =>
  step_keeps_of_moves (P := State.NotesLawful) (fun _ _ h e => by rw [e]; exact h) (fun _ _ _ => Move.notesLawful)
    afresh_notesLawful h hs

/-! ### Lanes and groups one by one -/

/-- What every move of a lane keeps, every move keeps of every lane. -/
theorem Move.lanes_keep {P : LaneState → Prop} {s t : State} {k : Aspect} (h : Move s k t)
    (hm : ∀ x x', LaneMove s x k x' → P x → P x') (hs : ∀ l, P (s.lane l)) (l : LaneIx) : P (t.lane l) := by
  rcases h.lane_cases l with e | hl
  · rw [e]; exact hs l
  · exact hm _ _ hl (hs l)

/-- What every move of a group keeps, every move keeps of every group. -/
theorem Move.groups_keep {P : GroupState → Prop} {s t : State} {k : Aspect} (h : Move s k t)
    (hm : ∀ x x', GroupMove x k x' → P x → P x') (hs : ∀ g, P (s.group g)) (g : GroupIx) : P (t.group g) := by
  rcases h.group_cases g with e | hg
  · rw [e]; exact hs g
  · exact hm _ _ hg (hs g)

/-! ### One group (law L3) -/

/-- A lane is tied to at most one group (R127). -/
def LaneState.OneGroup (x : LaneState) : Prop := ∀ g h, x.role.group? = some g → x.assoc.group? = some h → g = h

theorem Assoc.StaysOrSuspends.group?_eq {a a' : Assoc} (h : a.StaysOrSuspends a') : a'.group? = a.group? := by
  rcases h with rfl | ⟨g, m, k, rfl, rfl⟩ <;> rfl

theorem Assoc.withMark_group? (a : Assoc) (f : Seq → Seq) : (a.withMark f).group? = a.group? := by cases a <;> rfl

theorem Assoc.withStrikes_group? (a : Assoc) (k : Nat) : (a.withStrikes k).group? = a.group? := by cases a <;> rfl

theorem LaneFree.role {s : State} {x x' : LaneState} (h : LaneFree s x x') : x'.role = x.role :=
  (congrArg LaneState.role h.rest).trans rfl

theorem LaneFree.assoc {s : State} {x x' : LaneState} (h : LaneFree s x x') : x'.assoc = x.assoc :=
  (congrArg LaneState.assoc h.rest).trans rfl

theorem LaneMove.oneGroup {s : State} {x x' : LaneState} {k : Aspect} (h : LaneMove s x k x') (hx : x.OneGroup) :
    x'.OneGroup := by
  intro g g' hr ha
  cases h with
  | free h =>
    rw [h.role] at hr
    rw [h.assoc] at ha
    exact hx g g' hr ha
  | leave a hold h =>
    rcases h with rfl | ⟨i, m, j, e, rfl⟩
    · cases ha
    · exact hx g g' hr (by rw [e]; exact ha)
  | strikes j h => exact hx g g' hr (by rwa [← x.assoc.withStrikes_group? j])
  | raise q => exact hx g g' hr (by rwa [← x.assoc.withMark_group? fun m => raiseTo m q])
  | join i q hrx hd hrole =>
    cases ha
    exact hrole g hr
  | rx new r a hold hnew hst hm => exact hx g g' hr (by rwa [← hst.group?_eq])
  | role r hg hne => exact (hg g hr).elim (fun h => hx g g' h ha) fun h => h g' ha
  | admin h hd hst =>
    have hrole : x'.role = x.role := (congrArg LaneState.role h).trans rfl
    exact hx g g' (hrole ▸ hr) (by rwa [← hst.group?_eq])
  | _ => exact hx g g' hr ha

/-- Settles O9: a lane takes a role or an association only where the other names the same group. -/
theorem oneGroupKept : Obligations.OneGroupKept := fun s t h hs =>
  step_keeps_of_moves (P := fun u => ∀ l, (u.lane l).OneGroup) (fun _ _ h e => by rw [e]; exact h)
    (fun _ _ _ h => h.lanes_keep fun _ _ => LaneMove.oneGroup) afresh_oneGroup h hs

end Sys2Proof.Machine
end

section
/-! The laws of a safe state under moves and resets: settings, capacities, windows and group-hold outputs; the queue of
commands; and the part after the power-on reset. -/

namespace Sys2Proof.Machine

/- The kernel checks the theorems one after another. -/
set_option Elab.async false

/-! ### Settings (R110, R165 to R170) -/

/-- The lane's part of the ranges: weight and deficit. -/
def LaneState.InRange (x : LaneState) : Prop := (1 ≤ x.weight ∧ x.weight ≤ 8) ∧ x.deficit ≤ 8

theorem LaneFree.weight {s : State} {x x' : LaneState} (h : LaneFree s x x') : x'.weight = x.weight :=
  (congrArg LaneState.weight h.rest).trans rfl

theorem LaneMove.inRange {s : State} {x x' : LaneState} {k : Aspect} (h : LaneMove s x k x') (hx : x.InRange) :
    x'.InRange := by
  obtain ⟨hw, hd⟩ := hx
  cases h with
  | free h =>
    refine ⟨by rwa [h.weight], ?_⟩
    rcases h.deficit with e | ⟨-, e⟩ <;> omega
  | role => exact ⟨hw, Nat.zero_le _⟩
  | weight w h => exact ⟨h, hd⟩
  | admin h =>
    have e1 : x'.weight = x.weight := (congrArg LaneState.weight h).trans rfl
    have e2 : x'.deficit = x.deficit := (congrArg LaneState.deficit h).trans rfl
    exact ⟨by rwa [e1], by rwa [e2]⟩
  | _ => exact ⟨hw, hd⟩

/-- The fields of a group that its free moves leave. -/
theorem GroupFree.settings {x x' : GroupState} (h : GroupFree x x') : x' = x'.withSettings x := by
  rw [h.rest]
  rfl

/-- Every move of a group but a write leaves its settings. -/
theorem GroupMove.settings_or {x x' : GroupState} {k : Aspect} (h : GroupMove x k x') :
    x' = x'.withSettings x ∨ (k = .settings ∧ x.tx = .disabled ∧ (x.InRange → x'.InRange)) := by
  cases h with
  | free h => exact .inl h.settings
  | settings h ht hr hh => exact .inr ⟨rfl, ht, hr⟩
  | push c => cases c <;> exact .inl rfl
  | pop c => cases c <;> exact .inl rfl
  | _ => exact .inl rfl

theorem GroupMove.inRange {x x' : GroupState} {k : Aspect} (h : GroupMove x k x') (hx : x.InRange) : x'.InRange := by
  rcases h.settings_or with e | ⟨-, -, hr⟩
  · rw [e]
    exact hx
  · exact hr hx

theorem Move.dev_inRange {s t : State} {k : Aspect} (h : Move s k t) (hs : s.dev.InRange) : t.dev.InRange := by
  cases h with
  | plain h => rw [h]; exact hs
  | noted h => rw [h.notesOnly.dev_eq]; exact hs
  | devSettings d h => exact h hs
  | _ => exact hs

/-- What a move makes of each stream entry. -/
theorem Move.stream_cases {s t : State} {k : Aspect} (h : Move s k t) (x : StreamIx) :
    t.stream x = { s.stream x with ctr := (t.stream x).ctr } ∨
      (k = .settings ∧ x ≠ 0 ∧ ((s.stream x).InRange → (t.stream x).InRange)) := by
  cases h with
  | plain h => exact .inl (by rw [h]; rfl)
  | noted h => exact .inl (by rw [h.notesOnly.stream_eq])
  | streamCounters y f h =>
    by_cases e : x = y
    · subst e
      rw [State.stream_modStream, if_pos rfl]
      exact .inl h
    · rw [State.stream_modStream, if_neg e]
      exact .inl rfl
  | streamSettings y f h0 h =>
    by_cases e : x = y
    · subst e
      rw [State.stream_modStream, if_pos rfl]
      exact .inr ⟨rfl, h0, h⟩
    · rw [State.stream_modStream, if_neg e]
      exact .inl rfl
  | _ => exact .inl rfl

theorem Move.settingsInRange {s t : State} {k : Aspect} (h : Move s k t) (hs : s.SettingsInRange) : t.SettingsInRange := by
  obtain ⟨hdev, hlanes, hgroups, hstreams, hfixed⟩ := hs
  refine ⟨h.dev_inRange hdev, h.lanes_keep (P := LaneState.InRange) (fun _ _ => LaneMove.inRange) hlanes,
    h.groups_keep (fun _ _ => GroupMove.inRange) hgroups, fun x => ?_, ?_⟩
  · rcases h.stream_cases x with e | ⟨-, -, hr⟩
    · rw [e]; exact hstreams x
    · exact hr (hstreams x)
  · rcases h.stream_cases 0 with e | ⟨-, h0, -⟩
    · rw [e]; exact hfixed
    · exact absurd rfl h0

/-- Settles O8: only a write changes a setting, and it writes values in range. -/
theorem settingsStayInRange : Obligations.SettingsStayInRange := fun _ _ h hs =>
  step_keeps_of_moves (P := State.SettingsInRange) (fun _ _ h e => by rw [e]; exact h) (fun _ _ _ => Move.settingsInRange)
    afresh_settingsInRange h hs

/-! ### Capacities (law L9 among them) -/

theorem strikes_le_of_staysOrSuspends {a a' : Assoc} (h : a.StaysOrSuspends a') (ha : a.strikes?.getD 0 ≤ 7) :
    a'.strikes?.getD 0 ≤ 7 := by
  rcases h with rfl | ⟨g, m, k, rfl, rfl⟩
  · exact ha
  · exact Nat.zero_le _

theorem strikes_le_withMark {a : Assoc} (f : Seq → Seq) (ha : a.strikes?.getD 0 ≤ 7) :
    (a.withMark f).strikes?.getD 0 ≤ 7 := by
  cases a <;> exact ha

theorem strikes_le_withStrikes {a : Assoc} {k : Nat} (hk : k ≤ 7) : (a.withStrikes k).strikes?.getD 0 ≤ 7 := by
  cases a with
  | member g m n => exact hk
  | _ => exact Nat.zero_le _

theorem LaneMove.bounded {s : State} {x x' : LaneState} {k : Aspect} (h : LaneMove s x k x') (hset : s.SettingsInRange)
    (hx : x.Bounded) : x'.Bounded := by
  obtain ⟨hdev, -, hgroups, -, -⟩ := hset
  obtain ⟨-, -, ⟨-, hmiss⟩, -, ⟨-, hrestore⟩, -, -⟩ := hdev
  obtain ⟨hq, hr, hd, he, hs, hg, hm, hk⟩ := hx
  cases h with
  | free h =>
    have hqueue : x'.queue = x.queue := (congrArg LaneState.queue h.rest).trans rfl
    refine ⟨by rwa [hqueue], ?_, ?_, ?_, ?_, ?_, ?_, by rwa [h.assoc]⟩
    · rcases h.returns with e | e <;> omega
    · rcases h.debt with e | ⟨e, -⟩ <;> omega
    · rcases h.errors with e | e <;> omega
    · rcases h.suppressed with e | e <;> omega
    · rcases h.good with e | e <;> omega
    · rcases h.miss with e | e <;> omega
  | leave a hold h =>
    refine ⟨hq, hr, hd, he, hs, hg, hm, ?_⟩
    rcases h with rfl | ⟨g, m, j, -, rfl⟩ <;> exact Nat.zero_le _
  | strikes j h =>
    refine ⟨hq, hr, hd, he, hs, hg, hm, strikes_le_withStrikes ?_⟩
    rcases h with rfl | ⟨g, h⟩
    · omega
    · obtain ⟨-, -, -, -, ⟨-, hlimit⟩, -⟩ := hgroups g
      omega
  | raise q => exact ⟨hq, hr, hd, he, hs, hg, hm, strikes_le_withMark _ hk⟩
  | join => exact ⟨hq, hr, hd, he, hs, hg, hm, Nat.zero_le _⟩
  | rx new r a hold hnew hst => exact ⟨hq, hr, hd, he, hs, hg, hm, strikes_le_of_staysOrSuspends hst hk⟩
  | queue q hi hl => exact ⟨hl.elim (fun h => h.trans hq) id, hr, hd, he, hs, hg, hm, hk⟩
  | admin h hdebt hst =>
    rw [h]
    exact ⟨hq, hr, hdebt.trans hd, he, hs, hg, hm, strikes_le_of_staysOrSuspends hst hk⟩
  | release => exact ⟨hq, hr, hd, he, Nat.zero_le _, hg, hm, hk⟩
  | _ => exact ⟨hq, hr, hd, he, hs, hg, hm, hk⟩

theorem GroupMove.bounded {x x' : GroupState} {k : Aspect} (h : GroupMove x k x') (hx : x.Bounded) : x'.Bounded := by
  obtain ⟨hh, hn, he⟩ := hx
  cases h with
  | free h =>
    have h1 : x'.high = x.high := (congrArg GroupState.high h.rest).trans rfl
    have h2 : x'.normal = x.normal := (congrArg GroupState.normal h.rest).trans rfl
    refine ⟨by rwa [h1], by rwa [h2], ?_⟩
    rcases h.egress with e | e <;> omega
  | push c f ctr ht hl =>
    cases c with
    | high => exact ⟨(List.length_append).trans_le hl, hn, he⟩
    | normal => exact ⟨hh, (List.length_append).trans_le hl, he⟩
  | pop c =>
    cases c with
    | high => exact ⟨(List.length_tail).trans_le ((Nat.sub_le _ _).trans hh), hn, he⟩
    | normal => exact ⟨hh, (List.length_tail).trans_le ((Nat.sub_le _ _).trans hn), he⟩
  | disabling => exact ⟨Nat.zero_le _, Nat.zero_le _, he⟩
  | settings h =>
    rw [h]
    exact ⟨hh, hn, he⟩
  | _ => exact ⟨hh, hn, he⟩

theorem Move.bounded {s t : State} {k : Aspect} (h : Move s k t) (hset : s.SettingsInRange) (hs : s.Bounded) :
    t.Bounded := by
  obtain ⟨hmgmt, hreq, hnotes, htally, hlanes, hgroups⟩ := hs
  have hl : ∀ l, (t.lane l).Bounded := h.lanes_keep (fun _ _ hm => hm.bounded hset) hlanes
  have hg : ∀ g, (t.group g).Bounded := h.groups_keep (fun _ _ => GroupMove.bounded) hgroups
  cases h with
  | plain h => exact ⟨by rw [h]; exact hmgmt, by rw [h]; exact hreq, by rw [h]; exact hnotes, by rw [h]; exact htally, hl, hg⟩
  | noted h =>
    obtain ⟨hm, hn, ht⟩ := h.bounded ⟨hmgmt, hnotes, htally⟩
    exact ⟨hm, by rw [h.notesOnly.requestQueue_eq]; exact hreq, hn, ht, hl, hg⟩
  | mgmtOut q h => exact ⟨h.elim (fun e => e.trans hmgmt) id, hreq, hnotes, htally, hl, hg⟩
  | requests q h => exact ⟨hmgmt, h.elim (fun e => e.trans hreq) id, hnotes, htally, hl, hg⟩
  | _ => exact ⟨hmgmt, hreq, hnotes, htally, hl, hg⟩

/-- Settles O6: every queue takes an entry only where it has room, and every count stops at its limit. -/
theorem capacitiesKept : Obligations.CapacitiesKept := fun _ _ hset h hs =>
  (step_keeps_of_moves (P := fun u => u.SettingsInRange ∧ u.Bounded) (fun _ _ h e => by rw [e]; exact h)
    (fun _ _ _ hm h => ⟨hm.settingsInRange h.1, hm.bounded h.1 h.2⟩)
    (fun cause s b => ⟨afresh_settingsInRange cause s b, afresh_bounded cause s b⟩) ⟨hset, h⟩ hs).2

/-! ### Windows (law L2) -/

theorem windowed_nil (e : Seq) (w : Nat) : windowed e w [] := ⟨fun _ h => absurd h List.not_mem_nil, List.Pairwise.nil⟩

theorem GroupFree.tx {x x' : GroupState} (h : GroupFree x x') : x'.tx = x.tx := (congrArg GroupState.tx h.rest).trans rfl
theorem GroupFree.ctx {x x' : GroupState} (h : GroupFree x x') : x'.ctx = x.ctx := (congrArg GroupState.ctx h.rest).trans rfl
theorem GroupFree.expected {x x' : GroupState} (h : GroupFree x x') : x'.expected = x.expected :=
  (congrArg GroupState.expected h.rest).trans rfl
theorem GroupFree.store {x x' : GroupState} (h : GroupFree x x') : x'.store = x.store :=
  (congrArg GroupState.store h.rest).trans rfl
theorem GroupFree.window {x x' : GroupState} (h : GroupFree x x') : x'.window = x.window :=
  (congrArg GroupState.window h.rest).trans rfl

theorem GroupMove.storeLawful {x x' : GroupState} {k : Aspect} (h : GroupMove x k x') (hx : x.StoreLawful) :
    x'.StoreLawful := by
  obtain ⟨htx, hdead, hlive⟩ := hx
  have enabled : x.ctx ≠ .disabled → x.tx ≠ .disabled := fun h e => h (htx e)
  have live_enabled : x.ctx.live = true → x.tx ≠ .disabled := fun h => enabled fun e => by rw [e] at h; cases h
  cases h with
  | free h =>
    refine ⟨by rw [h.tx, h.ctx]; exact htx, ?_, ?_⟩
    · rw [h.ctx, h.expected, h.store]
      intro hd
      obtain ⟨h1, h2, h3, h4⟩ := hdead hd
      refine ⟨h1, h.highest h2, h3, ?_⟩
      rcases h.hole with e | e | e
      · rw [e]; exact h4
      · exact e
      · rw [hd] at e; cases e
    · rw [h.ctx, h.expected, h.store, h.window]
      exact hlive
  | buffers => exact ⟨htx, hdead, hlive⟩
  | expect e e' store hl he hw =>
    refine ⟨htx, fun hd => ?_, fun _ => ⟨e', rfl, ?_⟩⟩
    · have hd' : x.ctx.live = false := hd
      rw [hl] at hd'
      cases hd'
    · obtain ⟨i, hi, hwin⟩ := hlive hl
      rw [he] at hi
      cases hi
      exact hw hwin
  | emptyStore =>
    refine ⟨htx, fun hd => ?_, fun hl => ?_⟩
    · obtain ⟨h1, h2, -, h4⟩ := hdead hd
      exact ⟨h1, h2, rfl, h4⟩
    · obtain ⟨e, he, -⟩ := hlive hl
      exact ⟨e, he, windowed_nil ..⟩
  | flip c hl hc =>
    refine ⟨fun ht => absurd ht (live_enabled hl), fun hd => ?_, fun _ => hlive hl⟩
    rw [show c.live = false from hd] at hc
    cases hc
  | begin c e hseq hr hc =>
    refine ⟨fun ht => absurd ht (enabled (by rw [hr]; decide)), fun hd => ?_, fun _ => ⟨e, rfl, ?_⟩⟩
    · rw [show c.live = false from hd] at hc
      cases hc
    · obtain ⟨-, -, h3, -⟩ := hdead (by rw [hr]; rfl)
      change windowed e x.window x.store
      rw [h3]
      exact windowed_nil ..
  | resync hl => exact ⟨fun ht => absurd ht (live_enabled hl), fun _ => ⟨rfl, rfl, rfl, rfl⟩, nofun⟩
  | txFlip t hc ht =>
    refine ⟨fun e => ?_, hdead, hlive⟩
    rw [show t = .disabled from e] at ht
    cases ht
  | push c => cases c <;> exact ⟨htx, hdead, hlive⟩
  | pop c => cases c <;> exact ⟨htx, hdead, hlive⟩
  | enable h =>
    have hd : x.ctx.live = false := by rw [htx h]; rfl
    exact ⟨nofun, fun _ => hdead hd, nofun⟩
  | disabling => exact ⟨nofun, hdead, hlive⟩
  | disabled => exact ⟨fun _ => rfl, fun _ => ⟨rfl, rfl, rfl, rfl⟩, nofun⟩
  | loss => exact ⟨htx, hdead, hlive⟩
  | settings h ht =>
    have hd : x.ctx.live = false := by rw [htx ht]; rfl
    rw [h]
    exact ⟨htx, hdead, fun hl => by rw [show x.ctx.live = true from hl] at hd; cases hd⟩

/-- Settles O11: the store and the expected sequence change together, within the window. -/
theorem windowLawKept : Obligations.WindowLawKept := fun s t h hs =>
  step_keeps_of_moves (P := fun u => ∀ g, (u.group g).StoreLawful) (fun _ _ h e => by rw [e]; exact h)
    (fun _ _ _ h => h.groups_keep fun _ _ => GroupMove.storeLawful) afresh_storesLawful h hs

/-! ### The group-hold outputs (R100) -/

/-- The hold output after its judgment agrees with the class queues. -/
theorem judgedHold_agrees (x : GroupState) :
    (x.judgedHold = true → x.holdLevel < x.high.length + 4 ∨ x.holdLevel < x.normal.length + 4) ∧
      (x.judgedHold = false → x.high.length < x.holdLevel ∧ x.normal.length < x.holdLevel) := by
  unfold GroupState.judgedHold
  split <;> simp <;> omega

theorem GroupMove.holdLawful {x x' : GroupState} {k : Aspect} (h : GroupMove x k x') (hx : x.HoldLawful) :
    x'.HoldLawful := by
  obtain ⟨hlevel, hdis, hidle, hon, hoff⟩ := hx
  have enabled_cutting : ∀ {y : GroupState}, y.tx = x.tx → y.disable = x.disable → x.tx.cutting = true →
      (y.disable.isSome = true ↔ y.tx = .disabling) := fun e1 e2 _ => by rw [e1, e2]; exact hdis
  cases h with
  | free h =>
    rw [h.rest]
    exact ⟨hlevel, hdis, hidle, hon, hoff⟩
  | txFlip t hc ht =>
    refine ⟨hlevel, ?_, fun hn => ?_, hon, hoff⟩
    · have hnone : x.disable.isSome = false := by
        by_contra hsome
        rw [hdis.1 (Bool.eq_true_of_not_eq_false hsome)] at hc
        cases hc
      change x.disable.isSome = true ↔ t = .disabling
      rw [hnone]
      refine ⟨nofun, fun h => ?_⟩
      rw [h] at ht
      cases ht
    · rw [show t.cutting = false from hn] at ht
      cases ht
  | push c f ctr ht hl =>
    have hagree := judgedHold_agrees (x.push c f)
    have hcut : x.tx.cutting = true := by rw [ht]; rfl
    cases c <;> exact ⟨hlevel, hdis, fun hn => (Bool.false_ne_true (hn.symm.trans hcut)).elim, hagree⟩
  | pop c ctr hcut =>
    have hagree := judgedHold_agrees (x.pop c)
    cases c <;> exact ⟨hlevel, hdis, fun hn => (Bool.false_ne_true (hn.symm.trans hcut)).elim, hagree⟩
  | enable h =>
    have hnone : ¬ x.disable.isSome = true := fun hs => by rw [hdis.1 hs] at h; cases h
    exact ⟨hlevel, ⟨fun hs => absurd hs hnone, nofun⟩, nofun, hon, hoff⟩
  | disabling d ctr h =>
    have hagree := judgedHold_agrees (x.disabling d)
    refine ⟨hlevel, ⟨fun _ => rfl, fun _ => rfl⟩, fun _ => ⟨rfl, rfl, ?_⟩, hagree⟩
    change (x.disabling d).judgedHold = false
    by_contra hj
    have := hagree.1 (by simpa using hj)
    change x.holdLevel < 0 + 4 ∨ x.holdLevel < 0 + 4 at this
    omega
  | disabled h =>
    have hcut : x.tx.cutting = false := by rw [hdis.1 h]; rfl
    exact ⟨hlevel, ⟨nofun, nofun⟩, fun _ => hidle hcut, hon, hoff⟩
  | loss d d' h =>
    exact ⟨hlevel, ⟨fun _ => hdis.1 (by rw [h]; rfl), fun _ => rfl⟩, hidle, hon, hoff⟩
  | settings h ht hr hh =>
    have hcut : x.tx.cutting = false := by rw [ht]; rfl
    obtain ⟨h1, h2, h3⟩ := hidle hcut
    rw [h]
    refine ⟨hh hlevel, hdis, hidle, fun hb => ?_, fun _ => ?_⟩
    · rw [show x.hold = true from hb] at h3
      cases h3
    · have := (hh hlevel).1
      change x.high.length < x'.holdLevel ∧ x.normal.length < x'.holdLevel
      rw [h1, h2]
      simp only [List.length_nil]
      omega
  | _ => exact ⟨hlevel, hdis, hidle, hon, hoff⟩

/-- Settles O12: the output is judged wherever a class queue changes, and the hold level changes in DISABLED alone. -/
theorem groupHoldLawKept : Obligations.GroupHoldLawKept := fun s t h hs =>
  step_keeps_of_moves (P := fun u => ∀ g, (u.group g).HoldLawful) (fun _ _ h e => by rw [e]; exact h)
    (fun _ _ _ h => h.groups_keep fun _ _ => GroupMove.holdLawful) afresh_holdsLawful h hs

/-! ### The queue of commands, and the power-on reset -/

theorem Move.pending {s t : State} {k : Aspect} (h : Move s k t) : t.pending = s.pending := by
  cases h with
  | plain h => rw [h]
  | noted h => exact h.notesOnly.pending_eq
  | _ => rfl

theorem Effect.pending {c : Instr} {s t : State} (h : Effect c s t) : t.pending = s.pending := by
  cases h with
  | moves h => exact h.keeps (P := fun u => u.pending = s.pending) (fun _ _ _ _ hm hu => hm.pending.trans hu) rfl
  | inhibit => rfl
  | pause => rfl
  | unpause => exact arbitrate_pending _
  | reset _ h =>
    obtain ⟨cause, rfl | rfl⟩ := afterReset_cases h
    · rfl
    · exact post_pending _ _

/-- Settles O3: every command is a chain of moves, a change of a pin or a reset, and none touches the queue. -/
theorem everyCommandCompletes : Obligations.EveryCommandCompletes := fun c s => by
  obtain ⟨t, he, hf⟩ := exec_effect c s
  exact ⟨t, he, hf.pending⟩

/-- The power-on reset of a part is its reset part with RESET-DONE posted (R180). -/
theorem reset_eq_endReset : State.reset = endReset .powerOn State.held := by decide +kernel

/-- Settles O4: the part after a reset holds every law, and the post of RESET-DONE keeps those that speak of the queue. -/
theorem resetIsSafe : Obligations.ResetIsSafe := by
  have hsafe := afresh_safe .powerOn State.held false
  obtain ⟨hpool, hstore, hbounded, hnotes, hsettings, hone, hlanes, hstores, hholds, hops⟩ := hsafe
  have hpost := post_noted (.resetDone .powerOn) (State.afresh .powerOn State.held false)
  have hmove : Move (State.afresh .powerOn State.held false) .common State.reset := by
    rw [reset_eq_endReset]
    exact .noted hpost
  have hl : ∀ l, State.reset.lane l = (State.afresh .powerOn State.held false).lane l := by
    rw [reset_eq_endReset]
    exact post_lane _ _
  have hg : ∀ g, State.reset.group g = (State.afresh .powerOn State.held false).group g := by
    rw [reset_eq_endReset]
    exact post_group _ _
  refine ⟨hmove.poolWhole hpool, hmove.storeWhole hstore, hmove.bounded hsettings hbounded, hmove.notesLawful hnotes,
    hmove.settingsInRange hsettings, fun l => by rw [hl]; exact hone l, fun l => by rw [hl]; exact hlanes l,
    fun g => by rw [hg]; exact hstores g, fun g => by rw [hg]; exact hholds g, ?_⟩
  have hk : ∀ k, State.reset.slot k = (State.afresh .powerOn State.held false).slot k := by
    rw [reset_eq_endReset]
    exact post_slot _ _
  have ho : State.reset.completionOrder = (State.afresh .powerOn State.held false).completionOrder := rfl
  simp only [State.OpsLawful, State.RoleLawful, State.holdsOp] at hops ⊢
  simp only [hl, hg, hk, ho]
  exact hops

end Sys2Proof.Machine
end

section
/-! What every command leaves: segments in flight and lane queues under inhibit (R120), local egress under pause (R76),
settings (R164, R173), captured fields (R31). -/

namespace Sys2Proof.Machine

/- The kernel checks the theorems one after another. -/
set_option Elab.async false

/-! ### Transmit inhibit (R120) -/

/-- Nothing begins and nothing is placed on the lane between `x` and `y`. -/
def LaneState.BeginsNothing (x y : LaneState) : Prop :=
  (y.flight = x.flight ∨ y.flight = none) ∧ (y.queue = x.queue ∨ y.queue = [])

theorem LaneState.BeginsNothing.trans {x y z : LaneState} (h : x.BeginsNothing y) (k : y.BeginsNothing z) :
    x.BeginsNothing z := by
  obtain ⟨hf, hq⟩ := h
  obtain ⟨kf, kq⟩ := k
  exact ⟨kf.elim (fun e => e ▸ hf) .inr, kq.elim (fun e => e ▸ hq) .inr⟩

theorem LaneMove.beginsNothing {s : State} {x x' : LaneState} {k : Aspect} (h : LaneMove s x k x')
    (hi : s.txInhibit = true) : x.BeginsNothing x' := by
  have hopen : s.txInhibit ≠ false := by rw [hi]; decide
  cases h with
  | free h => exact ⟨.inl ((congrArg LaneState.flight h.rest).trans rfl), .inl ((congrArg LaneState.queue h.rest).trans rfl)⟩
  | flight f h => exact ⟨.inr (h.resolve_right hopen), .inl rfl⟩
  | queue q h => exact ⟨.inl rfl, .inr (h.resolve_right hopen)⟩
  | admin h => exact ⟨.inl ((congrArg LaneState.flight h).trans rfl), .inl ((congrArg LaneState.queue h).trans rfl)⟩
  | _ => exact ⟨.inl rfl, .inl rfl⟩

theorem Move.txInhibit {s t : State} {k : Aspect} (h : Move s k t) : t.txInhibit = s.txInhibit := by
  cases h with
  | plain h => rw [h]
  | noted h => exact h.notesOnly.txInhibit_eq
  | _ => rfl

/-- The lane begins nothing between `s` and `u`, and inhibit stays asserted. -/
def State.InhibitedTo (s u : State) : Prop := u.txInhibit = true ∧ ∀ l, (s.lane l).BeginsNothing (u.lane l)

theorem State.inhibitedTo_refl {s : State} (h : s.txInhibit = true) : s.InhibitedTo s :=
  ⟨h, fun _ => ⟨.inl rfl, .inl rfl⟩⟩

theorem Move.inhibitedTo {s u v : State} {k : Aspect} (h : Move u k v) (hu : s.InhibitedTo u) : s.InhibitedTo v := by
  obtain ⟨hi, hl⟩ := hu
  refine ⟨h.txInhibit.trans hi, fun l => ?_⟩
  rcases h.lane_cases l with e | hm
  · rw [e]
    exact hl l
  · exact (hl l).trans (hm.beginsNothing hi)

/-- Settles O14: a move places or begins something only while inhibit is released. -/
theorem inhibitedLanesBeginNothing : Obligations.InhibitedLanesBeginNothing := by
  refine ⟨fun _ => ⟨rfl, rfl⟩, fun c s t hi he => ?_⟩
  suffices h : ∀ l, (s.lane l).BeginsNothing (t.lane l) from ⟨fun l => (h l).1, fun l => (h l).2⟩
  intro l
  cases effect_of_exec he with
  | moves hm => exact (hm.keeps (fun _ _ _ _ hm hu => hm.inhibitedTo hu) (State.inhibitedTo_refl hi)).2 l
  | inhibit => exact ⟨.inl rfl, .inl rfl⟩
  | pause => exact ⟨.inl rfl, .inl rfl⟩
  | unpause => rw [arbitrate_fields]; exact ⟨.inl rfl, .inl rfl⟩
  | reset _ h => rw [afterReset_lane h]; exact ⟨.inr rfl, .inr rfl⟩

/-! ### Egress pause (R76) -/

/-- Egress pause is asserted, and local egress sends what it sent in `s` or nothing. -/
def State.PausedTo (s u : State) : Prop :=
  u.egressPause = true ∧ (u.egressBusy = s.egressBusy ∨ u.egressBusy = none)

theorem NotesOnly.pausedTo {s u v : State} (h : NotesOnly u v) (hu : s.PausedTo u) : s.PausedTo v := by
  obtain ⟨hp, hb⟩ := hu
  refine ⟨by rw [h.1]; exact hp, ?_⟩
  rcases h.2.2.2 with e | ⟨-, e, -⟩
  · rwa [e]
  · exact absurd (hp.symm.trans e) (by decide)

theorem Move.pausedTo {s u v : State} {k : Aspect} (h : Move u k v) (hu : s.PausedTo u) : s.PausedTo v := by
  cases h with
  | plain h => rw [h]; exact hu
  | egress b g h =>
    obtain ⟨hp, hb⟩ := hu
    exact ⟨hp, (h hp).elim (fun e => e ▸ hb) .inr⟩
  | noted h => exact h.notesOnly.pausedTo hu
  | _ => exact hu

theorem afterReset_pausedTo {s t : State} (h : AfterReset s t) (hp : s.egressPause = true) : s.PausedTo t := by
  obtain ⟨cause, rfl | rfl⟩ := afterReset_cases h
  · exact ⟨hp, .inr rfl⟩
  · exact NotesOnly.pausedTo (post_notesOnly ..) ⟨hp, .inr rfl⟩

/-- Settles O15: a move starts a frame only while pause is released. -/
theorem pausedEgressStartsNothing : Obligations.PausedEgressStartsNothing := by
  refine ⟨fun _ => rfl, fun c s t hp hc he => ?_⟩
  suffices h : s.PausedTo t from h.2
  cases effect_of_exec he with
  | moves hm => exact hm.keeps (fun _ _ _ _ hm hu => hm.pausedTo hu) ⟨hp, .inl rfl⟩
  | inhibit => exact ⟨hp, .inl rfl⟩
  | pause => exact ⟨rfl, .inl rfl⟩
  | unpause h => exact absurd h hc
  | reset _ h => exact afterReset_pausedTo h hp

/-! ### Settings (R164, R167, R173) -/

theorem Move.dev {s t : State} {k : Aspect} (h : Move s k t) (hk : k ≠ .settings) : t.dev = s.dev := by
  cases h with
  | plain h => rw [h]
  | noted h => exact h.notesOnly.dev_eq
  | devSettings => exact absurd rfl hk
  | _ => rfl

theorem LaneMove.weight_eq {s : State} {x x' : LaneState} {k : Aspect} (h : LaneMove s x k x') (hk : k ≠ .settings) :
    x'.weight = x.weight := by
  cases h with
  | free h => exact h.weight
  | weight => exact absurd rfl hk
  | admin h => exact (congrArg LaneState.weight h).trans rfl
  | _ => rfl

theorem LaneMove.diag {s : State} {x x' : LaneState} {k : Aspect} (h : LaneMove s x k x') (hk : k ≠ .mode) :
    x'.diag = x.diag := by
  cases h with
  | free h => exact h.sameService.2.2
  | mode => exact absurd rfl hk
  | admin h => exact (congrArg LaneState.diag h).trans rfl
  | _ => rfl

theorem GroupMove.settings_eq {x x' : GroupState} {k : Aspect} (h : GroupMove x k x') (hk : k ≠ .settings) :
    x' = x'.withSettings x := h.settings_or.resolve_right fun ⟨e, _⟩ => hk e

theorem Move.stream {s t : State} {k : Aspect} (h : Move s k t) (hk : k ≠ .settings) (x : StreamIx) :
    t.stream x = { s.stream x with ctr := (t.stream x).ctr } := (h.stream_cases x).resolve_right fun ⟨e, _⟩ => hk e

/-- A chain without an aspect makes no move of it. -/
theorem ne_of_not_mem {as : List Aspect} {a k : Aspect} (ha : a ∉ as) (hc : a ≠ .common) (h : k = .common ∨ k ∈ as) :
    k ≠ a := by
  rintro rfl
  exact h.elim hc ha

section
variable {as : List Aspect} {s t : State}

theorem Moves.dev (h : Moves as s t) (ha : .settings ∉ as) : t.dev = s.dev :=
  h.keeps (P := fun u => u.dev = s.dev) (fun _ _ _ hk hm hu => (hm.dev (ne_of_not_mem ha nofun hk)).trans hu) rfl

theorem Moves.weight (h : Moves as s t) (ha : .settings ∉ as) (l : LaneIx) : (t.lane l).weight = (s.lane l).weight :=
  h.keeps (P := fun u => ∀ l, (u.lane l).weight = (s.lane l).weight) (fun _ _ _ hk hm hu l => (hm.lane_cases l).elim
    (fun e => e ▸ hu l) fun hl => (hl.weight_eq (ne_of_not_mem ha nofun hk)).trans (hu l)) (fun _ => rfl) l

theorem Moves.diag (h : Moves as s t) (ha : .mode ∉ as) (l : LaneIx) : (t.lane l).diag = (s.lane l).diag :=
  h.keeps (P := fun u => ∀ l, (u.lane l).diag = (s.lane l).diag) (fun _ _ _ hk hm hu l => (hm.lane_cases l).elim
    (fun e => e ▸ hu l) fun hl => (hl.diag (ne_of_not_mem ha nofun hk)).trans (hu l)) (fun _ => rfl) l

theorem Moves.groupSettings (h : Moves as s t) (ha : .settings ∉ as) (g : GroupIx) :
    t.group g = (t.group g).withSettings (s.group g) :=
  h.keeps (P := fun u => u.group g = (u.group g).withSettings (s.group g)) (fun u v k hk hm hu => by
    rcases hm.group_cases g with e | hg
    · rwa [e]
    · rw [hg.settings_eq (ne_of_not_mem ha nofun hk), hu]
      rfl) rfl

theorem Moves.streamSettings (h : Moves as s t) (ha : .settings ∉ as) (x : StreamIx) :
    t.stream x = { s.stream x with ctr := (t.stream x).ctr } :=
  h.keeps (P := fun u => u.stream x = { s.stream x with ctr := (u.stream x).ctr }) (fun u v k hk hm hu => by
    rw [hm.stream (ne_of_not_mem ha nofun hk), hu]) rfl
end

theorem commandAspects_settings {c : Instr} (h : .settings ∈ commandAspects c) :
    (∃ o table index items, c = .writeEntry o table index items) ∨ c = .engineTakeFrame := by
  cases c <;> simp [commandAspects, segmentAspects] at h ⊢

theorem commandAspects_admin {c : Instr} (h : .admin ∈ commandAspects c) :
    (∃ o lane direction, c = .laneService o lane direction) ∨ c = .engineTakeFrame := by
  cases c <;> simp [commandAspects, segmentAspects] at h ⊢

theorem commandAspects_mode {c : Instr} (h : .mode ∈ commandAspects c) :
    (∃ o lane mode, c = .laneDiag o lane mode) ∨ c = .engineTakeFrame := by
  cases c <;> simp [commandAspects, segmentAspects] at h ⊢

theorem commandAspects_release {c : Instr} (h : .release ∈ commandAspects c) :
    (∃ o lane, c = .captureRelease o lane) ∨ c = .engineTakeFrame := by
  cases c <;> simp [commandAspects, segmentAspects] at h ⊢

/-- The settings of the part: every field that a write may change. -/
def State.SettingsStay (s t : State) : Prop :=
  t.dev = s.dev ∧ (∀ l, (t.lane l).weight = (s.lane l).weight) ∧
    (∀ g, t.group g = (t.group g).withSettings (s.group g)) ∧
    ∀ x, t.stream x = { s.stream x with ctr := (t.stream x).ctr }

theorem Moves.settingsStay {as : List Aspect} {s t : State} (h : Moves as s t) (ha : .settings ∉ as) : s.SettingsStay t :=
  ⟨h.dev ha, h.weight ha, h.groupSettings ha, h.streamSettings ha⟩

/-- A command that is no reset is a chain of moves, beside the levels of the pins and what the arbiter chooses. -/
theorem Effect.moves_of_not_reset {c : Instr} {s t : State} (h : Effect c s t) (hc : isReset c = false) :
    ∃ i p, Moves (commandAspects c) { s with txInhibit := i, egressPause := p } t := by
  cases h with
  | moves h => exact ⟨_, _, h⟩
  | inhibit b => exact ⟨b, s.egressPause, .refl _⟩
  | pause => exact ⟨s.txInhibit, true, .refl _⟩
  | unpause => exact ⟨s.txInhibit, false, arbitrate_moves _⟩
  | reset h => rw [hc] at h; cases h

/-- Settles O16: only a move of a write, a LANE-SERVICE or a LANE-DIAG changes what stays here. -/
theorem settingsStayUntilWritten : Obligations.SettingsStayUntilWritten := by
  intro c s t he hw hen h1 h2 h3 h4
  have hc : isReset c = false := by cases c <;> first | rfl | contradiction
  obtain ⟨i, p, hm⟩ := (effect_of_exec he).moves_of_not_reset hc
  obtain ⟨hdev, hweight, hgroup, hstream⟩ := hm.settingsStay fun h =>
    (commandAspects_settings h).elim (fun ⟨_, _, _, _, e⟩ => hw _ _ _ _ e) hen
  refine ⟨hdev, hweight, fun h l => hm.inService (fun ha => ?_) l, fun h l => hm.diag (fun ha => ?_) l, fun g => ?_, fun x => ?_⟩
  · exact (commandAspects_admin ha).elim (fun ⟨_, _, _, e⟩ => h _ _ _ e) hen
  · exact (commandAspects_mode ha).elim (fun ⟨_, _, _, e⟩ => h _ _ _ e) hen
  · rw [hgroup g]
    exact ⟨rfl, rfl, rfl, rfl, rfl, rfl, rfl, rfl, rfl⟩
  · rw [hstream x]
    exact ⟨rfl, rfl, rfl, rfl⟩

/-! ### Captured fields (law L12) -/

/-- A record in UNCORRECTABLE keeps its captured fields between `c` and `d`. -/
def Capture.Kept (c d : Capture) : Prop :=
  c.state = .uncorrectable → d.state = .uncorrectable ∧ d.syndrome = c.syndrome ∧ d.time = c.time ∧ d.kind = c.kind

theorem Capture.Kept.trans {c d e : Capture} (h : c.Kept d) (k : d.Kept e) : c.Kept e := fun hc => by
  obtain ⟨hd, h1, h2, h3⟩ := h hc
  obtain ⟨he, k1, k2, k3⟩ := k hd
  exact ⟨he, k1.trans h1, k2.trans h2, k3.trans h3⟩

theorem LaneMove.captureKept {s : State} {x x' : LaneState} {k : Aspect} (h : LaneMove s x k x') (hk : k ≠ .release) :
    x.capture.Kept x'.capture := by
  cases h with
  | free h => exact h.captured
  | release => exact absurd rfl hk
  | admin h =>
    rw [(congrArg LaneState.capture h).trans rfl]
    exact fun h => ⟨h, rfl, rfl, rfl⟩
  | _ => exact fun h => ⟨h, rfl, rfl, rfl⟩

theorem Moves.captureKept {as : List Aspect} {s t : State} (h : Moves as s t) (ha : .release ∉ as) (l : LaneIx) :
    (s.lane l).capture.Kept (t.lane l).capture :=
  h.keeps (P := fun u => (s.lane l).capture.Kept (u.lane l).capture) (fun _ _ _ hk hm hu => (hm.lane_cases l).elim
    (fun e => e ▸ hu) fun hl => hu.trans (hl.captureKept (ne_of_not_mem ha nofun hk))) fun h => ⟨h, rfl, rfl, rfl⟩

/-- Settles O17: only CAPTURE-RELEASE makes a move that releases a record. -/
theorem captureLawKept : Obligations.CaptureLawKept := by
  intro c s t l hl he hr hen h1 h2 h3 h4
  have hc : isReset c = false := by cases c <;> first | rfl | contradiction
  obtain ⟨i, p, hm⟩ := (effect_of_exec he).moves_of_not_reset hc
  exact hm.captureKept (fun h => (commandAspects_release h).elim (fun ⟨_, _, e⟩ => hr _ _ e) hen) l hl

end Sys2Proof.Machine
end

section
/-! Receive states in closed form (R21 to R27): what an entry into SEARCH, DOWN, LOST or ALIGNED makes of the part and what it
posts; LANE-SERVICE and LANE-DIAG (R157, R182); and the ties of service state, mode and attachments (R121, R126, R133). -/

namespace Sys2Proof.Machine

/- The kernel checks the theorems one after another. -/
set_option Elab.async false

/-! ### The peer report where a lane leaves ALIGNED (R129) -/

theorem NoteBlind.clearReport : NoteBlind Machine.clearReport := by
  refine ⟨fun s v => ?_, fun s => ?_⟩ <;> unfold Machine.clearReport
  · rw [show (s.withUnitOf v).someAligned = s.someAligned from rfl]
    split <;> rfl
  · split <;> rfl

theorem State.someAligned_modLane (s : State) (l : LaneIx) (f : LaneState → LaneState)
    (h : (f (s.lane l)).rx ≠ .aligned ∨ (f (s.lane l)).diag ≠ .none) : (s.modLane l f).someAligned = s.othersAligned l := by
  unfold State.someAligned State.othersAligned
  congr 1
  funext m
  by_cases e : m = l
  · subst e
    rw [State.lane_modLane, if_pos rfl]
    rcases h with h | h <;> simp [h]
  · rw [State.lane_modLane, if_neg e]
    simp [e]

theorem clearReport_modLane (s : State) (l : LaneIx) (f : LaneState → LaneState)
    (h : (f (s.lane l)).rx ≠ .aligned ∨ (f (s.lane l)).diag ≠ .none) :
    clearReport (s.modLane l f) =
      { s.modLane l f with peerReport := if s.othersAligned l then s.peerReport else none } := by
  unfold clearReport
  rw [s.someAligned_modLane l f h]
  split <;> rfl

/-! ### A change of receive state (R27) -/

/-- The part with another peer report. -/
def State.withReport (s : State) (p : Option PeerReport) : State := { s with peerReport := p }

@[simp] theorem State.withReport_modLane (s : State) (p : Option PeerReport) (l : LaneIx) (f : LaneState → LaneState) :
    (s.withReport p).modLane l f = (s.modLane l f).withReport p := rfl

@[simp] theorem State.withReport_lane (s : State) (p : Option PeerReport) (l : LaneIx) :
    (s.withReport p).lane l = s.lane l := rfl

/-- The peer report once lane `l` has left ALIGNED for SEARCH, LOST or DOWN, where it was ALIGNED (R129). -/
def State.reportLeft (s : State) (l : LaneIx) : Option PeerReport :=
  if (s.lane l).rx = .aligned ∧ s.othersAligned l = false then none else s.peerReport

theorem State.reportLeft_of_ne {s : State} {l : LaneIx} (h : (s.lane l).rx ≠ .aligned) : s.reportLeft l = s.peerReport :=
  if_neg fun ⟨e, _⟩ => h e

theorem State.reportLeft_of_eq {s : State} {l : LaneIx} (h : (s.lane l).rx = .aligned) :
    s.reportLeft l = if s.othersAligned l then s.peerReport else none := by
  unfold State.reportLeft
  cases s.othersAligned l <;> simp [h]

theorem State.othersAligned_modLane (s : State) (l : LaneIx) (f : LaneState → LaneState) :
    (s.modLane l f).othersAligned l = s.othersAligned l := by
  unfold State.othersAligned
  congr 1
  funext m
  by_cases e : m = l
  · simp [e]
  · rw [State.lane_modLane, if_neg e]

theorem State.reportLeft_modLane (s : State) (l : LaneIx) (f : LaneState → LaneState)
    (h : (f (s.lane l)).rx = (s.lane l).rx) : (s.modLane l f).reportLeft l = s.reportLeft l := by
  unfold State.reportLeft
  rw [State.othersAligned_modLane, State.lane_modLane, if_pos rfl, h, State.modLane_peerReport]

theorem leftAligned_of_not_member {l : LaneIx} {s : State} (h : (s.lane l).assoc.isMember = false) :
    leftAligned l s = clearReport s := by
  unfold leftAligned
  split
  · next e => rw [e] at h; cases h
  · rfl

/-- A lane that no group loses by it leaves its receive state. -/
theorem setRx_left_emits {l : LaneIx} {new : RxState} {s : State} (r : Reason) (hnew : new ≠ .aligned)
    (h : (s.lane l).rx = .aligned → (s.lane l).assoc.isMember = false) :
    Emits [.laneState l (s.lane l).rx new r]
      ((s.modLane l fun x => { x with rx := new, reason := r }).withReport (s.reportLeft l)) (setRx l new r s) := by
  have hpost := post_emits (.laneState l (s.lane l).rx new r) (s.modLane l fun x => { x with rx := new, reason := r })
  unfold setRx
  dsimp only
  split
  · next hleft =>
    rw [leftAligned_of_not_member, State.reportLeft_of_eq hleft.1]
    · have hclear : clearReport (s.modLane l fun x => { x with rx := new, reason := r }) =
          (s.modLane l fun x => { x with rx := new, reason := r }).withReport
            (if s.othersAligned l then s.peerReport else none) := clearReport_modLane _ _ _ (.inl hnew)
      rw [← hclear]
      exact hpost.map .clearReport
    · rw [post_lane, State.lane_modLane, if_pos rfl]
      exact h hleft.1
  · next hstay =>
    rw [State.reportLeft_of_ne fun e => hstay ⟨e, hnew⟩]
    exact hpost

/-- The same after another update of the lane. -/
theorem setRx_left_modLane_emits {l : LaneIx} {new : RxState} {s : State} {f : LaneState → LaneState} (r : Reason)
    (hnew : new ≠ .aligned) (hf : (f (s.lane l)).rx = (s.lane l).rx ∧ (f (s.lane l)).assoc = (s.lane l).assoc)
    (h : (s.lane l).rx = .aligned → (s.lane l).assoc.isMember = false) :
    Emits [.laneState l (s.lane l).rx new r]
      ((s.modLane l fun x => { f x with rx := new, reason := r }).withReport (s.reportLeft l))
      (setRx l new r (s.modLane l f)) := by
  have hlane : (s.modLane l f).lane l = f (s.lane l) := by rw [State.lane_modLane, if_pos rfl]
  have hset := setRx_left_emits (l := l) (s := s.modLane l f) r hnew (by rw [hlane, hf.1, hf.2]; exact h)
  rwa [hlane, hf.1, State.reportLeft_modLane s l f hf.1, State.modLane_modLane] at hset

theorem enterLost_emits {l : LaneIx} {s : State} (r sr : Reason) (hrx : (s.lane l).rx = .aligned)
    (ha : (s.lane l).assoc.isMember = false) :
    Emits [.laneState l .aligned .lost r] (s.withLost l r sr) (enterLost l r sr s) := by
  have hset := setRx_left_modLane_emits (l := l) (new := .lost) (s := s)
    (f := fun x => { x with good := 0, miss := 0, searchReason := sr, ctr := raiseCounter x.ctr LaneCtr.lostEntries.ix 1 })
    r (by decide) ⟨rfl, rfl⟩ fun _ => ha
  rw [hrx, State.reportLeft_of_eq hrx] at hset
  unfold enterLost State.withLost
  simp only [State.countLane, State.modLane_modLane]
  exact hset

theorem setRx_aligned_emits (l : LaneIx) (r : Reason) (s : State) :
    Emits [.laneState l (s.lane l).rx .aligned r] (s.modLane l fun x => { x with rx := .aligned, reason := r })
      (setRx l .aligned r s) := by
  unfold setRx
  dsimp only
  rw [if_neg fun h => h.2 rfl]
  exact post_emits _ _

theorem enterAligned_emits (l : LaneIx) (s : State) :
    Emits [.laneState l (s.lane l).rx .aligned .restored]
      (s.modLane l fun x => { x with rx := .aligned, reason := .restored, good := 0, miss := 0 }) (enterAligned l s) := by
  have hset := setRx_aligned_emits l .restored (s.modLane l fun x => { x with good := 0, miss := 0 })
  rw [State.lane_modLane, if_pos rfl, State.modLane_modLane] at hset
  exact hset

/-- The lane after its entry into SEARCH (R21). -/
def LaneState.searching (present : Bool) (expiry : Time) (x : LaneState) : LaneState :=
  { x with
    rx := .search, reason := .service, searchReason := if present then .noMarker else .carrier
    good := 0, miss := 0, lastCount := none, interval := ⟨!present, false, none, 0⟩, intervalTimer := some expiry }

theorem State.carrier_modLane (s : State) (l : LaneIx) (f : LaneState → LaneState)
    (h : (f (s.lane l)).cdPresent = (s.lane l).cdPresent ∧ (f (s.lane l)).diag = (s.lane l).diag) :
    (s.modLane l f).carrier l = s.carrier l := by
  unfold State.carrier
  rw [State.lane_modLane, if_pos rfl, h.1, h.2]

theorem enterSearch_emits {l : LaneIx} {s : State} (ha : (s.lane l).rx = .aligned → (s.lane l).assoc.isMember = false) :
    Emits [.laneState l (s.lane l).rx .search .service]
      ((s.modLane l (LaneState.searching (s.carrier l) (s.timebase + BitVec.ofNat 32 s.dev.markerInterval))).withReport
        (s.reportLeft l)) (enterSearch l s) := by
  have hset := setRx_left_modLane_emits (l := l) (new := .search) (s := s)
    (f := fun x => { x with
      good := 0, miss := 0, lastCount := none, searchReason := if s.carrier l then .noMarker else .carrier
      interval := ⟨!s.carrier l, false, none, 0⟩
      intervalTimer := some (s.timebase + BitVec.ofNat 32 s.dev.markerInterval) })
    .service (by decide) ⟨rfl, rfl⟩ ha
  unfold enterSearch startInterval
  dsimp only
  rw [State.carrier_modLane _ _ _ ⟨rfl, rfl⟩, State.modLane_modLane]
  exact hset

/-- The lane after its entry into DOWN (R21). -/
def LaneState.downed (x : LaneState) : LaneState :=
  { x with
    rx := .down, reason := .service, good := 0, miss := 0, lastCount := none, intervalTimer := none
    interval := ⟨false, false, none, 0⟩ }

theorem enterDown_emits {l : LaneIx} {s : State} (ha : (s.lane l).rx = .aligned → (s.lane l).assoc.isMember = false) :
    Emits [.laneState l (s.lane l).rx .down .service] ((s.modLane l LaneState.downed).withReport (s.reportLeft l))
      (enterDown l s) :=
  setRx_left_modLane_emits (l := l) (new := .down) (s := s)
    (f := fun x => { x with good := 0, miss := 0, lastCount := none, intervalTimer := none, interval := .cleared })
    .service (by decide) ⟨rfl, rfl⟩ ha

end Sys2Proof.Machine
end

section
/-! LANE-SERVICE and LANE-DIAG in closed form (R157, R182), and the ties of service state, mode and attachments (R121, R126,
R133). -/

namespace Sys2Proof.Machine

/- The kernel checks the theorems one after another. -/
set_option Elab.async false

/-! ### Entries that the engine admits (R150) -/

theorem laneOf_eq {b : Byte} {l : LaneIx} (h : b.toNat = l.val) : laneOf b = some l := by
  unfold laneOf
  rw [dif_pos (h ▸ l.isLt)]
  exact congrArg some (Fin.ext h)

theorem laneOf_eq_none {b : Byte} (h : 8 ≤ b.toNat) : laneOf b = none := dif_neg (Nat.not_lt.2 h)

theorem groupOf_eq {b : Byte} {g : GroupIx} (h : b.toNat = g.val) : groupOf b = some g := by
  unfold groupOf
  rw [dif_pos (h ▸ g.isLt)]
  exact congrArg some (Fin.ext h)

theorem groupOf_eq_none {b : Byte} (h : 4 ≤ b.toNat) : groupOf b = none := dif_neg (Nat.not_lt.2 h)

theorem NoteBlind.withResult (r : Option EntryResult) : NoteBlind fun s => { s with lastResult := r } :=
  ⟨fun _ _ => rfl, fun _ => rfl⟩

section
variable {o : Origin} {code : Byte} {clears : Bool} {r : Req} {s u p : State} {c : ResultCode} {data : List Byte}

/-- An admitted entry answers what its request gives. -/
theorem entryRow_reply (h : s.Admits o code clears) (hr : r.run s = ⟨c, data, p⟩) :
    entryRow o code clears (some r) s = p.answered code c data := by
  rw [entryRow_of_admits h r.largest_le, hr]
  rfl

/-- An admitted entry whose request changes the part and posts. -/
theorem entryRow_emits {bodies : List NoteBody} (h : s.Admits o code clears) (hr : r.run s = ⟨c, data, p⟩)
    (he : Emits bodies u p) : Emits bodies (u.answered code c data) (entryRow o code clears (some r) s) := by
  rw [entryRow_reply h hr]
  exact he.map (.withResult _)
end

/-- What a command makes of the part, as the statements put it. -/
theorem exists_next_of_emits {out : Host.Outcome State Fault Refusal} {s t u : State} {bodies : List NoteBody} {n : Nat}
    (hc : out = .next t) (h : Emits bodies u t) (hn : bodies.length ≤ n)
    (hu : u.notes = s.notes ∧ u.nextNote = s.nextNote ∧ u.tally = s.tally) :
    ∃ t, out = .next t ∧ NotesOnly u t ∧ (s.HasRoom n → Posted bodies s t) := by
  obtain ⟨h1, h2, h3⟩ := hu
  refine ⟨t, hc, h.notesOnly, fun hr => ?_⟩
  obtain ⟨hfree, htally⟩ := hr
  have hroom : u.HasRoom bodies.length := ⟨by rw [h1]; omega, by rw [h3, htally]⟩
  have hp := h.posted hroom
  unfold Posted at hp ⊢
  rwa [h1, h2, h3] at hp

/-! ### LANE-SERVICE (R157) -/

/-- The lane once it is in service (R21, R121). -/
def LaneState.servedIn (present : Bool) (expiry : Time) (x : LaneState) : LaneState :=
  { x.searching present expiry with inService := true, markerTimer := some expiry, debt := 0 }

theorem putInService_emits {l : LaneIx} {s : State} (h : (s.lane l).rx = .down) :
    Emits [.laneState l .down .search .service]
      (s.modLane l (LaneState.servedIn (s.carrier l) (s.timebase + BitVec.ofNat 32 s.dev.markerInterval)))
      (putInService l s) := by
  have hlane : ∀ f, (s.modLane l f).lane l = f (s.lane l) := fun f => by rw [State.lane_modLane, if_pos rfl]
  have hin := enterSearch_emits (l := l) (s := s.modLane l fun x => { x with inService := true, debt := 0 })
    (by rw [hlane]; intro e; rw [h] at e; cases e)
  rw [State.reportLeft_modLane s l _ rfl, State.reportLeft_of_ne (by rw [h]; decide), State.carrier_modLane s l _ ⟨rfl, rfl⟩,
    hlane, State.modLane_modLane] at hin
  rw [h] at hin
  have hdev := hin.notesOnly.dev_eq
  unfold putInService startMarkerTimer
  dsimp only
  rw [hdev]
  have hmap := hin.map (.modLane l fun x =>
    { x with markerTimer := some (s.timebase + BitVec.ofNat 32 s.dev.markerInterval) })
  rw [State.withReport_modLane, State.modLane_modLane] at hmap
  exact hmap

/-- The lane once it is out of service (R21, R121, R184). -/
def LaneState.servedOut (x : LaneState) : LaneState :=
  { x.downed with inService := false, markerTimer := none, debt := 0, returnQueue := [] }

theorem NoteBlind.dropReturns (l : LaneIx) : NoteBlind (Machine.dropReturns l) := ⟨fun _ _ => rfl, fun _ => rfl⟩

theorem dropReturns_modLane (s : State) (l : LaneIx) (f : LaneState → LaneState) :
    Machine.dropReturns l (s.modLane l f) =
      (s.modLane l fun x => { f x with returnQueue := [] }).countLane l .loopDropped (f (s.lane l)).returnQueue.length := by
  unfold Machine.dropReturns
  rw [State.lane_modLane, if_pos rfl, State.modLane_modLane]

theorem takeOutOfService_emits {l : LaneIx} {s : State} (h : (s.lane l).assoc.isMember = false) :
    Emits [.laneState l (s.lane l).rx .down .service]
      (((s.modLane l LaneState.servedOut).countLane l .loopDropped (s.lane l).returnQueue.length).withReport
        (s.reportLeft l)) (takeOutOfService l s) := by
  have hlane : ∀ f, (s.modLane l f).lane l = f (s.lane l) := fun f => by rw [State.lane_modLane, if_pos rfl]
  have hdown := enterDown_emits (l := l)
    (s := s.modLane l fun x => { x with inService := false, debt := 0, markerTimer := none }) (by rw [hlane]; exact fun _ => h)
  rw [State.reportLeft_modLane s l _ rfl, hlane, State.modLane_modLane] at hdown
  have hmap := hdown.map (.dropReturns l)
  rw [show ∀ (u : State) p, Machine.dropReturns l (u.withReport p) = (Machine.dropReturns l u).withReport p from
    fun _ _ => rfl, dropReturns_modLane] at hmap
  exact hmap

theorem State.laneFree_eq_false (s : State) (l : LaneIx) :
    s.laneFree l = false ↔
      ((s.lane l).role ≠ .off ∨ (s.lane l).assoc ≠ .none ∨ (s.lane l).op ≠ none ∨ s.inDisableSet l = true) := by
  have hfree := s.laneFree_iff l
  rw [← Bool.not_eq_true, hfree, State.engaged]
  cases (s.lane l).op <;> cases s.inDisableSet l <;> simp <;> tauto

theorem State.not_isMember_of_free {s : State} {l : LaneIx} (h : s.laneFree l = true) :
    (s.lane l).assoc.isMember = false := by
  rw [((s.laneFree_iff l).1 h).2.1]
  rfl

theorem reqLaneService_in {s : State} {l : LaneIx} {lane : Byte} (hl : lane.toNat = l.val) :
    (Req.laneService lane 1).run s = ⟨.ok, [], if (s.lane l).inService then s else putInService l s⟩ := by
  change reqLaneService lane 1 s = _
  unfold reqLaneService
  rw [laneOf_eq hl]
  rfl

theorem reqLaneService_out {s : State} {l : LaneIx} {lane : Byte} (hl : lane.toNat = l.val) :
    (Req.laneService lane 2).run s = if s.laneFree l then
      ⟨.ok, [], if (s.lane l).inService then takeOutOfService l s else s⟩ else refuse .state s := by
  change reqLaneService lane 2 s = _
  unfold reqLaneService
  rw [laneOf_eq hl]
  change (if !s.laneFree l then refuse .state s else _) = _
  cases s.laneFree l <;> rfl

/-- Settles O53: IN and OUT of a lane, by what the lane is. -/
theorem laneServiceTaken : Obligations.LaneServiceTaken := by
  intro s o l lane hl hadm
  refine ⟨?_, ?_⟩
  · cases hin : (s.lane l).inService with
    | true =>
      have hr : (Req.laneService lane 1).run s = ⟨.ok, [], s⟩ := by rw [reqLaneService_in hl, hin]; rfl
      exact congrArg _ (entryRow_reply hadm hr)
    | false =>
      intro hdown
      have hr : (Req.laneService lane 1).run s = ⟨.ok, [], putInService l s⟩ := by rw [reqLaneService_in hl, hin]; rfl
      exact exists_next_of_emits (exec_laneService s o lane 1) (entryRow_emits hadm hr (putInService_emits hdown)) le_rfl
        ⟨rfl, rfl, rfl⟩
  · rw [if_congr (s.laneFree_eq_false l).symm rfl rfl]
    cases hfree : s.laneFree l with
    | false =>
      have hr : (Req.laneService lane 2).run s = refuse .state s := by rw [reqLaneService_out hl, hfree]; rfl
      exact congrArg _ (entryRow_reply hadm hr)
    | true =>
      cases hin : (s.lane l).inService with
      | false =>
        have hr : (Req.laneService lane 2).run s = ⟨.ok, [], s⟩ := by rw [reqLaneService_out hl, hfree, hin]; rfl
        exact congrArg _ (entryRow_reply hadm hr)
      | true =>
        have hr : (Req.laneService lane 2).run s = ⟨.ok, [], takeOutOfService l s⟩ := by
          rw [reqLaneService_out hl, hfree, hin]; rfl
        exact exists_next_of_emits (exec_laneService s o lane 2)
          (entryRow_emits hadm hr (takeOutOfService_emits (State.not_isMember_of_free hfree))) le_rfl ⟨rfl, rfl, rfl⟩

/-! ### LANE-DIAG (R157, R182) -/

/-- The lane in diagnostic mode `m`, before any restart (R182, R184, R185, R186). -/
def LaneState.moded (m : Diag) (y : LaneState) : LaneState :=
  { y with
    diag := m
    returnQueue := if y.diag = .loopRemote then [] else y.returnQueue
    testSeq := if m = .test then 0 else y.testSeq
    test := if m = .test then ⟨0, 0, 0, 0⟩ else y.test }

/-- The part with a lane in diagnostic mode `m`, before any restart. -/
def State.moded (s : State) (l : LaneIx) (m : Diag) : State :=
  (s.modLane l (LaneState.moded m)).countLane l .loopDropped
    (if (s.lane l).diag = .loopRemote then (s.lane l).returnQueue.length else 0)

theorem changeDiag_eq (l : LaneIx) (m : Diag) (s : State) :
    changeDiag l m s = if (s.lane l).inService then enterSearch l (s.moded l m) else s.moded l m := by
  have hmode : ((if (s.lane l).diag = .loopRemote then Machine.dropReturns l s else s).modLane l fun x =>
      if m = .test then { x with diag := m, testSeq := 0, test := .zero } else { x with diag := m }) = s.moded l m := by
    unfold State.moded Machine.dropReturns State.countLane
    split
    · next h =>
      rw [State.modLane_modLane, State.modLane_modLane, State.modLane_modLane]
      refine State.modLane_congr ?_
      by_cases hm : m = .test <;> simp [LaneState.moded, h, hm, TestRecord.zero]
    · next h =>
      rw [State.modLane_modLane]
      refine State.modLane_congr ?_
      by_cases hm : m = .test <;> simp [LaneState.moded, h, hm, TestRecord.zero, raiseCounter]
  unfold changeDiag
  dsimp only
  rw [hmode]

theorem State.lane_moded (s : State) (l : LaneIx) (m : Diag) :
    ∃ ctr, (s.moded l m).lane l = { (s.lane l).moded m with ctr := ctr } := by
  unfold State.moded
  rw [State.lane_countLane, if_pos rfl, State.lane_modLane, if_pos rfl]
  exact ⟨_, rfl⟩

theorem changeDiag_emits {l : LaneIx} {m : Diag} {s : State} (hin : (s.lane l).inService = true)
    (h : (s.lane l).assoc.isMember = false) :
    Emits [.laneState l (s.lane l).rx .search .service]
      (((s.moded l m).modLane l (LaneState.searching ((s.lane l).cdPresent || decide (m = .loopLocal))
        (s.timebase + BitVec.ofNat 32 s.dev.markerInterval))).withReport (s.reportLeft l)) (changeDiag l m s) := by
  obtain ⟨ctr, hlane⟩ := s.lane_moded l m
  have hsearch := enterSearch_emits (l := l) (s := s.moded l m) (by rw [hlane]; exact fun _ => h)
  have hcarrier : (s.moded l m).carrier l = ((s.lane l).cdPresent || decide (m = .loopLocal)) := by
    unfold State.carrier
    rw [hlane]
    rfl
  have hreport : (s.moded l m).reportLeft l = s.reportLeft l := by
    unfold State.moded State.countLane
    rw [State.modLane_modLane, State.reportLeft_modLane s l _ rfl]
  rw [changeDiag_eq, if_pos hin]
  rw [hcarrier, hreport, hlane] at hsearch
  exact hsearch

theorem diagOf_eq {mode : Byte} {m : Diag} (h : mode.toNat = m.code) : diagOf mode = some m := by
  unfold diagOf
  rw [h]
  cases m <;> rfl

theorem reqLaneDiag_run {s : State} {l : LaneIx} {m : Diag} {lane mode : Byte} (hl : lane.toNat = l.val)
    (hm : mode.toNat = m.code) :
    (Req.laneDiag lane mode).run s = if s.laneFree l then
      ⟨.ok, [], if (s.lane l).diag = m then s else changeDiag l m s⟩ else refuse .state s := by
  change reqLaneDiag lane mode s = _
  unfold reqLaneDiag
  rw [laneOf_eq hl, diagOf_eq hm]
  change (if !s.laneFree l then refuse .state s else _) = _
  cases s.laneFree l <;> rfl

/-- Settles O54: a change of mode by what the lane is. -/
theorem diagnosticModeSet : Obligations.DiagnosticModeSet := by
  intro s o l lane mode m hl hm hadm
  dsimp only
  rw [if_congr (s.laneFree_eq_false l).symm rfl rfl]
  cases hfree : s.laneFree l with
  | false =>
    have hr : (Req.laneDiag lane mode).run s = refuse .state s := by rw [reqLaneDiag_run hl hm, hfree]; rfl
    exact congrArg _ (entryRow_reply hadm hr)
  | true =>
    rw [if_neg (by decide)]
    split
    · next hmode =>
      have hr : (Req.laneDiag lane mode).run s = ⟨.ok, [], s⟩ := by
        rw [reqLaneDiag_run hl hm, hfree, if_pos rfl, if_pos hmode]
      exact congrArg _ (entryRow_reply hadm hr)
    · next hmode =>
      have hr : (Req.laneDiag lane mode).run s = ⟨.ok, [], changeDiag l m s⟩ := by
        rw [reqLaneDiag_run hl hm, hfree, if_pos rfl, if_neg hmode]
      cases hin : (s.lane l).inService with
      | false =>
        rw [if_pos rfl, exec_laneDiag, entryRow_reply hadm hr, changeDiag_eq, hin]
        rfl
      | true =>
        rw [if_neg (by decide)]
        exact exists_next_of_emits (exec_laneDiag s o lane mode)
          (entryRow_emits hadm hr (changeDiag_emits hin (State.not_isMember_of_free hfree))) le_rfl ⟨rfl, rfl, rfl⟩

end Sys2Proof.Machine
end

section
/-! What the requests of a frame keep, one after another; and the ties of service state, mode and attachments (R121, R126,
R133). -/

namespace Sys2Proof.Machine

/- The kernel checks the theorems one after another. -/
set_option Elab.async false

/-! ### What every request keeps -/

section
variable {P : State → Prop} (hmove : ∀ u v, Move u .common v → P u → P v) (hreq : ∀ (r : Req) u, P u → P (r.run u).part)
include hmove

/-- What every common move keeps, a common chain keeps. -/
theorem Moves.keeps_common {s t : State} (h : Moves [] s t) (hs : P s) : P t :=
  h.keeps (fun u v _ hk hm => hmove u v (hk.elim (fun e => e ▸ hm) fun h => absurd h List.not_mem_nil)) hs

include hreq

theorem judgeEntry_keeps (o : Origin) (code : Byte) (clears : Bool) (req : Option Req) (used later : Nat) {s : State}
    (hs : P s) : P (judgeEntry o code clears req used later s).part := by
  rcases judgeEntry_cases o code clears req used later s with e | e | ⟨r, -, e⟩
  · rw [e]; exact (countDev_moves ..).keeps_common hmove hs
  · rwa [e]
  · rw [e]; exact hreq r s hs

/-- What the common moves and every request keep, an entry command keeps. -/
theorem entryRow_keeps (o : Origin) (code : Byte) (clears : Bool) (req : Option Req) {s : State} (hs : P s) :
    P (entryRow o code clears req s) := by
  unfold entryRow
  split
  · exact hs
  · exact hmove _ _ (.plain rfl) (judgeEntry_keeps hmove hreq o code clears req 8 0 hs)

/-- What the common moves and every request keep, the taking of a frame keeps. -/
theorem engineTakes_keeps {s : State} (hs : P s) : P (engineTakes s) := by
  unfold engineTakes
  split
  · next f rest _ hq =>
    have htaken : P { s with requestQueue := rest } :=
      hmove _ _ (.requests rest (.inl (by rw [hq]; exact Nat.le_succ _))) hs
    unfold processFrame
    split
    · exact (countDev_moves ..).keeps_common hmove htaken
    · next entries _ =>
      have hrun := runEntries_keeps (o := f.origin) (stop := frameStop f.bytes)
        (fun code clears req used later u => judgeEntry_keeps hmove hreq f.origin code clears req used later) entries
        (r := ⟨{ s with requestQueue := rest }, [], false, false⟩) htaken
      exact ((countDev_moves ..).trans (offerResponse_moves ..)).keeps_common hmove hrun
  · exact hs
end

/-! ### Service state, mode and attachments -/

theorem LaneMove.attached {s : State} {x x' : LaneState} {k : Aspect} (h : LaneMove s x k x') (hk : k ≠ .admin)
    (hx : x.Attached) : x'.Attached := by
  obtain ⟨hout, hin, hdiag, hmem⟩ := hx
  have hserv : x'.inService = x.inService := h.inService hk
  cases h with
  | free h =>
    obtain ⟨hrx, -, hd⟩ := h.sameService
    refine ⟨fun e => ?_, fun e => ?_, fun e => ?_, fun e => ?_⟩
    · rw [hserv] at e
      obtain ⟨o1, o2, o3, o4, o5, o6⟩ := hout e
      refine ⟨hrx.trans o1, ?_, ?_, ?_, h.role.trans o5, h.assoc.trans o6⟩
      · exact h.intervalTimer.elim (fun t => t.trans o2) fun ⟨_, t⟩ => by simp [o2, e] at t
      · exact h.markerTimer.elim (fun t => t.trans o3) fun ⟨_, t⟩ => by simp [o3, e] at t
      · exact h.debt.elim (fun t => by omega) fun ⟨_, t⟩ => by simp [o3] at t
    · rw [hserv] at e
      obtain ⟨i1, i2, i3⟩ := hin e
      exact ⟨by rwa [hrx], h.intervalTimer.elim (fun t => by rwa [t]) And.left,
        h.markerTimer.elim (fun t => by rwa [t]) And.left⟩
    · rw [h.role, h.assoc]
      exact hdiag (by rwa [hd] at e)
    · rw [hrx]
      exact hmem (by rwa [h.assoc] at e)
  | leave a hold ha =>
    rcases ha with rfl | ⟨g, m, j, e, rfl⟩
    · exact ⟨fun e => ⟨(hout e).1, (hout e).2.1, (hout e).2.2.1, (hout e).2.2.2.1, (hout e).2.2.2.2.1, rfl⟩, hin,
        fun e => ⟨(hdiag e).1, rfl⟩, nofun⟩
    · exact ⟨fun o => by simp [(hout o).2.2.2.2.2] at e, hin, fun d => by simp [(hdiag d).2] at e, nofun⟩
  | strikes j _ => cases ha : x.assoc <;> simp_all [LaneState.Attached, Assoc.withStrikes, Assoc.isMember]
  | raise q => cases ha : x.assoc <;> simp_all [LaneState.Attached, Assoc.withMark, Assoc.isMember]
  | join g q hrx hd hrole =>
    refine ⟨fun e => ?_, hin, fun e => absurd hd e, fun _ => hrx⟩
    have hdown := (hout e).1
    rw [hrx] at hdown
    cases hdown
  | rx new r a hold hnew ha hm =>
    refine ⟨fun e => ?_, fun e => ⟨hnew, (hin e).2⟩, fun e => ⟨(hdiag e).1, ?_⟩, fun e => ?_⟩
    · rcases hold with h | h
      · exact absurd (hout e).1 h
      · exact absurd (h.symm.trans e) (by decide)
    · rcases ha with rfl | ⟨g, m, j, e', -⟩
      · exact (hdiag e).2
      · rw [(hdiag e).2] at e'
        cases e'
    · refine hm e ?_
      rcases ha with rfl | ⟨g, m, j, -, rfl⟩
      · exact hmem e
      · cases e
  | role r hg hr =>
    have hoff : ∀ (_ : x.role = .off) (_ : ¬ (x.inService = true ∧ x.diag = .none)), r = .off := fun h1 h2 => by
      by_contra h
      exact (hr h).elim (fun h => h h1) h2
    exact ⟨fun e => ⟨(hout e).1, (hout e).2.1, (hout e).2.2.1, (hout e).2.2.2.1,
        hoff (hout e).2.2.2.2.1 fun h => absurd (h.1.symm.trans e) (by decide), (hout e).2.2.2.2.2⟩, hin,
      fun e => ⟨hoff (hdiag e).1 fun h => e h.2, (hdiag e).2⟩, hmem⟩
  | mode m hr ha => exact ⟨hout, hin, fun _ => ⟨hr, ha⟩, hmem⟩
  | admin => exact absurd rfl hk
  | _ => exact ⟨hout, hin, hdiag, hmem⟩

theorem Move.lanesAttached {s t : State} {k : Aspect} (h : Move s k t) (hk : k ≠ .admin) (hs : s.LanesAttached) :
    t.LanesAttached := h.lanes_keep (P := LaneState.Attached) (fun _ _ hm => hm.attached hk) hs

theorem LaneState.attached_servedIn {x : LaneState} (present : Bool) (expiry : Time) (hx : x.Attached)
    (h : x.inService = false) : (x.servedIn present expiry).Attached := by
  obtain ⟨-, -, -, -, hrole, hassoc⟩ := hx.1 h
  exact ⟨nofun, fun _ => ⟨nofun, rfl, rfl⟩, fun _ => ⟨hrole, hassoc⟩, fun e => by
    rw [show (x.servedIn present expiry).assoc = x.assoc from rfl, hassoc] at e
    cases e⟩

theorem LaneState.attached_servedOut {x : LaneState} (hrole : x.role = .off) (hassoc : x.assoc = .none) (ctr) :
    ({ x.servedOut with ctr := ctr } : LaneState).Attached :=
  ⟨fun _ => ⟨rfl, rfl, rfl, rfl, hrole, hassoc⟩, nofun, fun _ => ⟨hrole, hassoc⟩, fun e => by
    rw [show ({ x.servedOut with ctr := ctr } : LaneState).assoc = x.assoc from rfl, hassoc] at e
    cases e⟩

theorem putInService_attached {s : State} {l : LaneIx} (h : s.LanesAttached) (hout : (s.lane l).inService = false) :
    (putInService l s).LanesAttached := fun m => by
  rw [(putInService_emits ((h l).1 hout).1).notesOnly.lane_eq, State.lane_modLane]
  split
  · exact LaneState.attached_servedIn _ _ (h l) hout
  · exact h m

theorem takeOutOfService_attached {s : State} {l : LaneIx} (h : s.LanesAttached) (hfree : s.laneFree l = true) :
    (takeOutOfService l s).LanesAttached := fun m => by
  obtain ⟨hrole, hassoc, -⟩ := (s.laneFree_iff l).1 hfree
  rw [(takeOutOfService_emits (State.not_isMember_of_free hfree)).notesOnly.lane_eq, State.withReport_lane,
    State.lane_countLane, State.lane_modLane, if_pos rfl, State.lane_modLane]
  split
  · exact LaneState.attached_servedOut hrole hassoc _
  · exact h m

theorem reqLaneService_attached (lane direction : Byte) {s : State} (h : s.LanesAttached) :
    (reqLaneService lane direction s).part.LanesAttached := by
  unfold reqLaneService
  split
  · exact h
  · next l _ =>
    split
    · cases hin : (s.lane l).inService with
      | true => exact h
      | false => exact putInService_attached h hin
    · cases hfree : s.laneFree l with
      | false => exact h
      | true =>
        cases hin : (s.lane l).inService with
        | true => exact takeOutOfService_attached h hfree
        | false => exact h
    · exact h

theorem Req.run_attached (r : Req) (s : State) (h : s.LanesAttached) : (r.run s).part.LanesAttached := by
  by_cases ha : .admin ∈ r.aspects
  · cases r with
    | laneService lane direction => exact reqLaneService_attached lane direction h
    | _ => simp [Req.aspects] at ha
  · exact (r.run_moves s).keeps (fun _ _ _ hk hm => hm.lanesAttached (ne_of_not_mem ha nofun hk)) h

theorem exec_attached {c : Instr} {s t : State} (h : s.LanesAttached) (he : exec c s = .next t) : t.LanesAttached := by
  have hmove : ∀ u v, Move u .common v → u.LanesAttached → v.LanesAttached := fun _ _ hm => hm.lanesAttached nofun
  cases effect_of_exec he with
  | moves hm =>
    by_cases ha : .admin ∈ commandAspects c
    · rcases commandAspects_admin ha with ⟨o, lane, direction, rfl⟩ | rfl
      · rw [exec_laneService] at he
        cases he
        exact entryRow_keeps hmove Req.run_attached o _ _ _ h
      · rw [exec_engineTakeFrame] at he
        cases he
        exact engineTakes_keeps hmove Req.run_attached h
    · exact hm.keeps (fun _ _ _ hk hm => hm.lanesAttached (ne_of_not_mem ha nofun hk)) h
  | inhibit => exact h
  | pause => exact h
  | unpause => rw [arbitrate_fields]; exact h
  | reset _ hr =>
    obtain ⟨cause, rfl | rfl⟩ := afterReset_cases hr
    · exact afresh_lanesAttached cause s true
    · exact (post_moves (as := []) (.resetDone cause) _).keeps_common hmove (afresh_lanesAttached cause s false)

/-- Settles O10: only LANE-SERVICE changes the admin state, and it leaves the lane tied. -/
theorem lanesStayAttached : Obligations.LanesStayAttached := fun s t h hs => by
  refine step_keeps (P := State.LanesAttached) (fun _ _ h => h) (fun s h => ?_) (fun c s t => exec_attached) h hs
  unfold tick
  split <;> exact h

end Sys2Proof.Machine
end

section
/-! The byte forms of chapter 13: segments, markers and request entries read back, and single-bit correction of headers. -/

namespace Sys2Proof.Machine

/- The kernel checks the theorems one after another. -/
set_option Elab.async false

/-! ### Numbers in bytes -/

theorem be_two (n : Nat) : be 2 n = [byte (n / 256), byte n] := by simp [be, byte]

theorem byte_toNat {n : Nat} (h : n < 256) : (byte n).toNat = n := by
  unfold byte
  rw [BitVec.toNat_ofNat]
  exact Nat.mod_eq_of_lt h

theorem ofBe_two (a b : Byte) : ofBe [a, b] = 256 * a.toNat + b.toNat := by simp [ofBe]

/-- A 16-bit number is read back from its two bytes. -/
theorem ofBe_be_two (q : BitVec 16) : BitVec.ofNat 16 (ofBe [byte (q.toNat / 256), byte q.toNat]) = q := by
  have hq := q.isLt
  rw [ofBe_two, byte_toNat (by omega)]
  unfold byte
  rw [BitVec.toNat_ofNat]
  refine BitVec.eq_of_toNat_eq ?_
  rw [BitVec.toNat_ofNat]
  omega

theorem be_length (k n : Nat) : (be k n).length = k := by
  induction k with
  | zero => rfl
  | succ k ih => simp [be, ih]

/-! ### Checks (R7, R13) -/

/-- A check over a message is linear in register and message. -/
theorem crcBit_xor {w : Nat} (poly r r' : BitVec w) (b b' : Bool) :
    crcBit poly (r ^^^ r') (b ^^ b') = crcBit poly r b ^^^ crcBit poly r' b' := by
  have hmsb : ((r ^^^ r').msb ^^ (b ^^ b')) = ((r.msb ^^ b) ^^ (r'.msb ^^ b')) := by
    rw [BitVec.msb_xor]
    cases r.msb <;> cases r'.msb <;> cases b <;> cases b' <;> rfl
  unfold crcBit
  rw [hmsb, BitVec.shiftLeft_xor_distrib]
  cases (r.msb ^^ b) <;> cases (r'.msb ^^ b')
  · rfl
  · exact BitVec.xor_assoc ..
  · simp only [Bool.true_xor, Bool.not_false, ↓reduceIte]
    rw [BitVec.xor_assoc, BitVec.xor_comm (r' <<< 1), ← BitVec.xor_assoc]
    rfl
  · simp only [Bool.xor_self, Bool.false_eq_true, ↓reduceIte]
    rw [BitVec.xor_assoc, ← BitVec.xor_assoc poly, BitVec.xor_comm poly, BitVec.xor_assoc, BitVec.xor_self, BitVec.xor_zero]

theorem crcByte_xor {w : Nat} (poly r r' : BitVec w) (x x' : Byte) :
    crcByte poly (r ^^^ r') (x ^^^ x') = crcByte poly r x ^^^ crcByte poly r' x' := by
  simp only [crcByte, List.foldl_cons, List.foldl_nil, BitVec.getLsbD_xor, crcBit_xor]

theorem crc_zipWith_xor {w : Nat} (poly : BitVec w) : ∀ (m m' : List Byte) (r r' : BitVec w), m.length = m'.length →
    crc poly (r ^^^ r') (List.zipWith (· ^^^ ·) m m') = crc poly r m ^^^ crc poly r' m'
  | [], [], _, _, _ => rfl
  | x :: m, x' :: m', r, r', h => by
    have hrec := crc_zipWith_xor poly m m' (crcByte poly r x) (crcByte poly r' x') (Nat.succ.inj h)
    rw [← crcByte_xor] at hrec
    exact hrec

theorem byte_zero_xor (b : Byte) : 0 ^^^ b = b := BitVec.zero_xor

theorem headerCheck_zipWith_xor {m m' : List Byte} (h : m.length = m'.length) :
    headerCheck (List.zipWith (· ^^^ ·) m m') = headerCheck m ^^^ headerCheck m' :=
  crc_zipWith_xor 0x07 m m' 0 0 h

/-- The check of a register with itself leaves nothing. -/
theorem crcByte_self (r : Byte) : crcByte (0x07 : Byte) r r = 0 := by
  revert r
  decide +kernel

theorem headerCheck_append_self (h : List Byte) : headerCheck (h ++ [headerCheck h]) = 0 := by
  unfold headerCheck crc
  rw [List.foldl_append]
  exact crcByte_self _

/-! ### Headers (R6, R7, 13.1) -/

/-- Byte 0 of a header is read back. -/
theorem headerByte_read (kind : SegKind) (g : GroupIx) (first last : Bool) :
    let b := byte (64 + 16 * kind.code + 4 * g.val + 2 * first.toNat + last.toNat)
    b.toNat / 64 = 1 ∧ kindOf (b.toNat / 16 % 4) = some kind ∧ Fin.ofNat 4 (b.toNat / 4) = g ∧
      b.getLsbD 1 = first ∧ b.getLsbD 0 = last := by
  cases kind <;> revert g first last <;> decide

/-- The six header bytes of a segment as sent. -/
theorem segmentBytes_eq (kind : SegKind) (g : GroupIx) (first last : Bool) (field : Nat) (seq : Seq) (payload : List Byte) :
    segmentBytes kind g first last field seq payload =
      (headerBytes kind g first last field seq payload.length ++
        [headerCheck (headerBytes kind g first last field seq payload.length)]) ++ payload := by
  simp [segmentBytes]

theorem headerBytes_length (kind : SegKind) (g : GroupIx) (first last : Bool) (field : Nat) (seq : Seq) (n : Nat) :
    (headerBytes kind g first last field seq n).length = 5 := by simp [headerBytes, be_length]

theorem segmentBytes_take (kind : SegKind) (g : GroupIx) (first last : Bool) (field : Nat) (seq : Seq) (payload : List Byte) :
    (segmentBytes kind g first last field seq payload).take 6 = headerBytes kind g first last field seq payload.length ++
      [headerCheck (headerBytes kind g first last field seq payload.length)] := by
  rw [segmentBytes_eq]
  exact List.take_left' (by simp [headerBytes_length])

theorem segmentBytes_drop (kind : SegKind) (g : GroupIx) (first last : Bool) (field : Nat) (seq : Seq) (payload : List Byte) :
    (segmentBytes kind g first last field seq payload).drop 6 = payload := by
  rw [segmentBytes_eq]
  exact List.drop_left' (by simp [headerBytes_length])

theorem segmentBytes_length (kind : SegKind) (g : GroupIx) (first last : Bool) (field : Nat) (seq : Seq)
    (payload : List Byte) : (segmentBytes kind g first last field seq payload).length = 6 + payload.length := by
  rw [segmentBytes_eq]
  simp only [List.length_append, headerBytes_length, List.length_singleton]

theorem readHeader_headerBytes (kind : SegKind) (g : GroupIx) (first last : Bool) (field : Fin 64) (seq : Seq) (n : Nat)
    (hn : n < 256) (c : Byte) :
    readHeader (headerBytes kind g first last field.val seq n ++ [c]) = ⟨1, some kind, g, first, last, field, seq, n⟩ := by
  obtain ⟨hversion, hkind, hgroup, hfirst, hlast⟩ := headerByte_read kind g first last
  have hfield : Fin.ofNat 64 (byte field.val).toNat = field := by
    rw [byte_toNat (by omega)]
    exact Fin.ext (Nat.mod_eq_of_lt field.isLt)
  have hseq := ofBe_be_two seq
  have hlen := byte_toNat hn
  unfold readHeader headerBytes
  rw [be_two]
  exact Header.mk.injEq .. ▸ ⟨hversion, hkind, hgroup, hfirst, hlast, hfield, hseq, hlen⟩

/-- A segment as sent has a good header, where its length is one its kind has (R16, R17). -/
theorem judgeHeader_segmentBytes {kind : SegKind} {g : GroupIx} {first last : Bool} {field : Fin 64} {seq : Seq}
    {payload : List Byte} (h1 : 1 ≤ payload.length) (h2 : payload.length ≤ 192)
    (hmarker : kind = .marker → payload.length = 10) (htest : kind = .test → payload.length = 64) :
    judgeHeader (segmentBytes kind g first last field.val seq payload) =
      .good ⟨1, some kind, g, first, last, field, seq, payload.length⟩ := by
  unfold judgeHeader
  rw [segmentBytes_take, segmentBytes_length, if_neg (by omega)]
  dsimp only
  rw [if_pos (headerCheck_append_self _), readHeader_headerBytes _ _ _ _ _ _ _ (by omega), if_pos]
  cases kind <;> simp_all [contentAcceptable]

/-- Settles O19: the header of a segment as sent is good and reads back. -/
theorem segmentsReadBack : Obligations.SegmentsReadBack := by
  refine ⟨fun d h1 h2 => ⟨judgeHeader_segmentBytes h1 h2 nofun nofun, segmentBytes_drop ..⟩, fun q => ?_⟩
  have hlen : (testPattern q).length = 64 := by simp [testPattern]
  refine ⟨?_, segmentBytes_drop ..⟩
  have hgood := judgeHeader_segmentBytes (kind := .test) (g := 0) (first := false) (last := false) (field := 0) (seq := q)
    (payload := testPattern q) (by omega) (by omega) nofun fun _ => hlen
  rwa [hlen] at hgood

/-! ### Markers (R10 to R13, R19, 13.2) -/

theorem Role.code_le (r : Role) : r.code ≤ 4 := by cases r <;> simp [Role.code]

theorem roleOf_code (r : Role) : roleOf r.code r.group? = some r := by cases r <;> rfl

theorem MarkerBody.fields_length (m : MarkerBody) : m.fields.length = 8 := by simp [MarkerBody.fields, be_length]

theorem MarkerBody.bytes_length (m : MarkerBody) : m.bytes.length = 10 := by
  simp [MarkerBody.bytes, MarkerBody.fields_length, be_length]

/-- The nibble that names the group of a role, 15 for none. -/
def groupNibble (g : Option GroupIx) : Nat :=
  match g with
  | some g => g.val
  | none => 15

/-- Byte 0 of a marker body names lane and group. -/
theorem markerByte_read (l : LaneIx) (g : Option GroupIx) :
    let b := byte (16 * l.val + groupNibble g)
    Fin.ofNat 8 (b.toNat / 16) = l ∧ b.toNat % 16 = groupNibble g := by
  cases g with
  | none => revert l; decide
  | some g => revert l g; decide

theorem readMarker_bytes (m : MarkerBody) (field : Fin 64) (h : field.val = m.role.code) :
    readMarker field m.bytes = some m := by
  obtain ⟨hlane, hnibble⟩ := markerByte_read m.lane m.role.group?
  have htake : m.bytes.take 8 = m.fields := List.take_left' m.fields_length
  have hdrop : m.bytes.drop 8 = be 2 (bodyCheck m.fields).toNat := List.drop_left' m.fields_length
  obtain ⟨check, hbytes⟩ : ∃ check, m.bytes = byte (16 * m.lane.val + groupNibble m.role.group?) :: byte m.role.code ::
      m.count :: m.aligned :: m.accepted :: byte (m.token.toNat / 256) :: byte m.token.toNat :: check := by
    unfold MarkerBody.bytes MarkerBody.fields groupNibble
    rw [be_two]
    exact ⟨_, rfl⟩
  have hcode : (byte m.role.code).toNat = m.role.code := byte_toNat (by have := m.role.code_le; omega)
  have h0 : byteAt m.bytes 0 = byte (16 * m.lane.val + groupNibble m.role.group?) := by rw [hbytes]; rfl
  have h1 : byteAt m.bytes 1 = byte m.role.code := by rw [hbytes]; rfl
  have h2 : byteAt m.bytes 2 = m.count := by rw [hbytes]; rfl
  have h3 : byteAt m.bytes 3 = m.aligned := by rw [hbytes]; rfl
  have h4 : byteAt m.bytes 4 = m.accepted := by rw [hbytes]; rfl
  have h5 : byteAt m.bytes 5 = byte (m.token.toNat / 256) := by rw [hbytes]; rfl
  have h6 : byteAt m.bytes 6 = byte m.token.toNat := by rw [hbytes]; rfl
  have hgroup : (if h : groupNibble m.role.group? < 4 then some (some (⟨groupNibble m.role.group?, h⟩ : GroupIx))
      else if groupNibble m.role.group? = 15 then some none else none) = some m.role.group? := by
    cases m.role.group? with
    | none => rfl
    | some g => exact dif_pos g.isLt
  unfold readMarker
  rw [htake, hdrop, if_neg (not_not.2 rfl), h0, h1, h2, h3, h4, h5, h6, hnibble]
  dsimp only
  rw [hgroup]
  dsimp only
  rw [hcode, roleOf_code]
  dsimp only
  rw [if_pos h.symm, hlane, ofBe_be_two]

/-- Settles O20: a marker as sent has a good header, and its body reads back. -/
theorem markersReadBack : Obligations.MarkersReadBack := by
  intro m seq
  have hlen := m.bytes_length
  cases hg : m.role.group? with
  | some g =>
    have hbytes : markerBytes m seq = segmentBytes .marker g false false m.role.code seq m.bytes := by
      unfold markerBytes
      rw [hg]
    have hfield : m.role.code < 64 := by have := m.role.code_le; omega
    refine ⟨⟨1, some .marker, g, false, false, ⟨m.role.code, hfield⟩, seq, 10⟩, ?_, rfl, rfl, rfl, rfl, ?_, nofun, ?_⟩
    · rw [hbytes, ← hlen]
      exact judgeHeader_segmentBytes (field := ⟨m.role.code, hfield⟩) (by omega) (by omega) (fun _ => hlen) nofun
    · intro g' e
      exact ⟨Option.some.inj e, rfl⟩
    · rw [hbytes, segmentBytes_drop]
      exact readMarker_bytes m _ rfl
  | none =>
    have hcode : m.role.code = 0 := by cases hr : m.role <;> simp_all [Role.group?, Role.code]
    have hbytes : markerBytes m seq = segmentBytes .marker 0 false false 0 0 m.bytes := by
      unfold markerBytes
      rw [hg]
    refine ⟨⟨1, some .marker, 0, false, false, 0, 0, 10⟩, ?_, rfl, rfl, rfl, hcode.symm, nofun, fun _ => ⟨rfl, rfl⟩, ?_⟩
    · rw [hbytes, ← hlen]
      exact judgeHeader_segmentBytes (field := 0) (by omega) (by omega) (fun _ => hlen) nofun
    · rw [hbytes, segmentBytes_drop]
      exact readMarker_bytes m 0 hcode.symm

/-! ### Single-bit errors (R16) -/

/-- Six bytes with bit `k` alone set. -/
def headerBit (k : Nat) : List Byte := flipHeaderBit (List.replicate 6 0) k

theorem modify_eq_zipWith_xor (m : List Byte) (i : Nat) (b : Byte) :
    m.modify i (fun x => x ^^^ b) = List.zipWith (· ^^^ ·) m ((List.replicate m.length 0).modify i fun x => x ^^^ b) := by
  refine List.ext_getElem? fun j => ?_
  rw [List.getElem?_modify, List.getElem?_zipWith, List.getElem?_modify]
  by_cases hj : j < m.length
  · rw [List.getElem?_eq_getElem hj, List.getElem?_eq_getElem (by simpa using hj)]
    by_cases e : i = j <;> simp [e]
  · rw [List.getElem?_eq_none (by omega), List.getElem?_eq_none (by simpa using Nat.le_of_not_lt hj)]
    rfl

theorem headerCheck_flip {m : List Byte} (hm : m.length = 6) (k : Nat) :
    headerCheck (flipHeaderBit m k) = headerCheck m ^^^ headerCheck (headerBit k) := by
  unfold headerBit flipHeaderBit
  rw [modify_eq_zipWith_xor, hm, headerCheck_zipWith_xor (by simp [hm])]

/-- The syndromes of the 48 single flipped bits differ from each other and from 0. -/
theorem headerBit_checks :
    ((List.range 48).map fun k => headerCheck (headerBit k)).Nodup ∧
      ∀ k ∈ List.range 48, headerCheck (headerBit k) ≠ 0 := by decide +kernel

theorem headerBit_check_inj {j k : Nat} (hj : j < 48) (hk : k < 48)
    (h : headerCheck (headerBit j) = headerCheck (headerBit k)) : j = k :=
  List.inj_on_of_nodup_map headerBit_checks.1 (List.mem_range.2 hj) (List.mem_range.2 hk) h

theorem flipHeaderBit_flipHeaderBit (m : List Byte) (k : Nat) : flipHeaderBit (flipHeaderBit m k) k = m := by
  unfold flipHeaderBit
  rw [List.modify_modify_eq]
  refine (congrArg (m.modify (k / 8)) (funext fun b => ?_)).trans (List.modify_id ..)
  simp

/-- The flipped bit is the one whose inversion leaves no syndrome. -/
theorem correctHeader_flip {m : List Byte} (hm : m.length = 6) (h0 : headerCheck m = 0) {k : Nat} (hk : k < 48) :
    correctHeader (flipHeaderBit m k) = some m := by
  have hlen : (flipHeaderBit m k).length = 6 := by simp [flipHeaderBit, hm]
  have hcheck : ∀ j, headerCheck (flipHeaderBit (flipHeaderBit m k) j) =
      headerCheck (headerBit k) ^^^ headerCheck (headerBit j) := fun j => by
    rw [headerCheck_flip hlen, headerCheck_flip hm, h0, byte_zero_xor]
  unfold correctHeader
  rw [List.findSome?_eq_some_iff]
  refine ⟨List.range k, k, ((List.range (47 - k)).map Nat.succ).map (k + ·), ?_, ?_, ?_⟩
  · rw [show 48 = k + (47 - k + 1) from by omega, List.range_add, List.range_succ_eq_map]
    rfl
  · dsimp only
    rw [flipHeaderBit_flipHeaderBit, if_pos h0]
  · intro j hj
    have hjk : j < k := List.mem_range.1 hj
    dsimp only
    rw [hcheck, if_neg]
    intro e
    have := headerBit_check_inj hk (by omega : j < 48) (BitVec.xor_eq_zero_iff.1 e)
    omega

theorem judgeHeader_good {bytes : List Byte} {h : Header} (hg : judgeHeader bytes = .good h) :
    6 ≤ bytes.length ∧ headerCheck (bytes.take 6) = 0 ∧ readHeader (bytes.take 6) = h ∧
      contentAcceptable h bytes.length = true := by
  unfold judgeHeader at hg
  dsimp only at hg
  split_ifs at hg with h1 h2 h3
  · cases hg
    exact ⟨Nat.le_of_not_lt h1, h2, rfl, h3⟩
  · split at hg
    · cases hg
    · split at hg <;> cases hg

/-- Settles O21: the syndrome of a flipped bit is its own, and leads back to the header as sent. -/
theorem singleBitErrorsCorrected : Obligations.SingleBitErrorsCorrected := by
  intro bytes h hg
  obtain ⟨hlen, hcheck, hread, hcontent⟩ := judgeHeader_good hg
  have htaken : (bytes.take 6).length = 6 := by simpa using hlen
  have hflip : ∀ k, k < 48 → (flipHeaderBit bytes k).take 6 = flipHeaderBit (bytes.take 6) k := fun k hk => by
    unfold flipHeaderBit
    rw [List.take_modify]
  have hsyn : ∀ k, k < 48 → headerCheck ((flipHeaderBit bytes k).take 6) = headerCheck (headerBit k) := fun k hk => by
    rw [hflip k hk, headerCheck_flip htaken, hcheck, byte_zero_xor]
  refine ⟨fun k hk => ⟨headerCheck (headerBit k), headerBit_checks.2 k (List.mem_range.2 hk), ?_, ?_⟩, fun j k hj hk e => ?_⟩
  · have hlen' : (flipHeaderBit bytes k).length = bytes.length := by simp [flipHeaderBit]
    have hne := headerBit_checks.2 k (List.mem_range.2 hk)
    unfold judgeHeader
    rw [hlen', if_neg (Nat.not_lt.2 hlen)]
    dsimp only
    rw [hsyn k hk, if_neg hne, hflip k hk, correctHeader_flip htaken hcheck hk]
    dsimp only
    rw [hread, if_pos hcontent]
  · unfold flipHeaderBit
    exact List.drop_modify_of_lt _ _ _ _ (by omega)
  · rw [hsyn j hj, hsyn k hk] at e
    exact headerBit_check_inj hj hk e

/-! ### Request entries (R148, 13.3) -/

theorem entryBytes_cons (c : Byte) (ps : List Byte) (es : List (Byte × List Byte)) :
    entryBytes ((c, ps) :: es) = c :: byte ps.length :: (ps ++ entryBytes es) := by simp [entryBytes]

theorem parseEntries_append (extra : List Byte) : ∀ entries : List (Byte × List Byte), (∀ e ∈ entries, e.2.length ≤ 255) →
    parseEntries entries.length (entryBytes entries ++ extra) = some entries
  | [], _ => rfl
  | (c, ps) :: es, h => by
    have hps : (byte ps.length).toNat = ps.length :=
      byte_toNat (Nat.lt_succ_of_le (h (c, ps) List.mem_cons_self))
    have hrec := parseEntries_append extra es fun e he => h e (List.mem_cons_of_mem _ he)
    rw [entryBytes_cons]
    change parseEntries (es.length + 1) (c :: byte ps.length :: (ps ++ entryBytes es ++ extra)) = _
    unfold parseEntries
    rw [hps, if_neg (by simp), List.append_assoc, List.drop_left, List.take_left, hrec]

theorem parseEntries_take : ∀ (entries : List (Byte × List Byte)) (n : Nat), (∀ e ∈ entries, e.2.length ≤ 255) →
    n < (entryBytes entries).length → parseEntries entries.length ((entryBytes entries).take n) = none
  | [], n, _, hn => absurd hn (Nat.not_lt_zero n)
  | (c, ps) :: es, 0, _, _ => rfl
  | (c, ps) :: es, 1, _, _ => by rw [entryBytes_cons]; rfl
  | (c, ps) :: es, n + 2, h, hn => by
    have hps : (byte ps.length).toNat = ps.length :=
      byte_toNat (Nat.lt_succ_of_le (h (c, ps) List.mem_cons_self))
    rw [entryBytes_cons] at hn ⊢
    simp only [List.length_cons, List.length_append] at hn
    change parseEntries (es.length + 1) (c :: byte ps.length :: (ps ++ entryBytes es).take n) = none
    unfold parseEntries
    rw [hps]
    by_cases hshort : n < ps.length
    · rw [if_pos (by simp; omega)]
    · rw [if_neg (by simp; omega), List.take_append, List.take_of_length_le (by omega), List.drop_left]
      rw [parseEntries_take es (n - ps.length) (fun e he => h e (List.mem_cons_of_mem _ he)) (by omega)]

/-- Settles O22: the entries are read one after another, each whole or not at all. -/
theorem requestEntriesReadBack : Obligations.RequestEntriesReadBack := fun entries extra h =>
  ⟨parseEntries_append extra entries h, fun n hn => parseEntries_take entries n h hn⟩

end Sys2Proof.Machine
end

section
/-! What the receive context and the Frame Assembler of a group leave: lanes, slots, and the groups that are not UP. -/

namespace Sys2Proof.Machine

/- The kernel checks the theorems one after another. -/
set_option Elab.async false

/-- The receive context of a group: state, sequences, store, the frame being built, and the lanes it wants. -/
def GroupState.context (x : GroupState) : CtxState × Option Seq × Option Seq × List DataSeg × Option Building × Nat :=
  (x.ctx, x.expected, x.highest, x.store, x.building, x.minLanes)

/-- All that the delivery side of `g` may change: its own group but for transmit state and disable record, groups that are
UP, buffers, bytes, counters, queues for egress and requests, and the Notification Unit. -/
structure Delivers (g : GroupIx) (s t : State) : Prop where
  rest : t = { s with
    devCtr := t.devCtr, groups := t.groups, streams := t.streams, poolFree := t.poolFree, storeFree := t.storeFree
    storeLow := t.storeLow, mgmtOut := t.mgmtOut, egressBusy := t.egressBusy, lastServed := t.lastServed
    requestQueue := t.requestQueue, notes := t.notes, nextNote := t.nextNote, tally := t.tally, retry := t.retry
    resendPending := t.resendPending } := by rfl
  tx : ∀ h, (t.group h).tx = (s.group h).tx := by exact fun _ => rfl
  disable : ∀ h, (t.group h).disable = (s.group h).disable := by exact fun _ => rfl
  other : ∀ h, h ≠ g → (s.group h).tx ≠ .up → t.group h = s.group h := by exact fun _ _ _ => rfl
  elsewhere : ∀ h, h ≠ g → (t.group h).context = (s.group h).context := by exact fun _ _ => rfl

namespace Delivers
variable {g : GroupIx} {s t u : State}

theorem refl (s : State) : Delivers g s s := {}

theorem trans (h : Delivers g s t) (k : Delivers g t u) : Delivers g s u where
  rest := k.rest.trans (by rw [h.rest])
  tx i := (k.tx i).trans (h.tx i)
  disable i := (k.disable i).trans (h.disable i)
  other i hi hup := (k.other i hi (by rwa [h.tx i])).trans (h.other i hi hup)
  elsewhere i hi := (k.elsewhere i hi).trans (h.elsewhere i hi)

theorem lanes (h : Delivers g s t) : t.lanes = s.lanes := (congrArg State.lanes h.rest).trans rfl

theorem lane (h : Delivers g s t) (l : LaneIx) : t.lane l = s.lane l := by simp only [State.lane, h.lanes]

theorem slot (h : Delivers g s t) (k : SlotIx) : t.slot k = s.slot k := by
  simp only [State.slot, (congrArg State.slots h.rest).trans rfl]

theorem peerReport (h : Delivers g s t) : t.peerReport = s.peerReport := (congrArg State.peerReport h.rest).trans rfl

theorem timebase (h : Delivers g s t) : t.timebase = s.timebase := (congrArg State.timebase h.rest).trans rfl

theorem completionOrder (h : Delivers g s t) : t.completionOrder = s.completionOrder :=
  (congrArg State.completionOrder h.rest).trans rfl

/-- An update of the group itself. -/
theorem modGroup (s : State) (f : GroupState → GroupState)
    (h : ∀ x, (f x).tx = x.tx ∧ (f x).disable = x.disable := by exact fun _ => ⟨rfl, rfl⟩) : Delivers g s (s.modGroup g f) where
  tx i := by
    rw [State.group_modGroup]
    split
    · next e => rw [(h _).1, e]
    · rfl
  disable i := by
    rw [State.group_modGroup]
    split
    · next e => rw [(h _).2, e]
    · rfl
  other i hi _ := by rw [State.group_modGroup, if_neg hi]
  elsewhere i hi := by rw [State.group_modGroup, if_neg hi]

/-- An update of a group that is UP. -/
theorem modUp {i : GroupIx} (s : State) (f : GroupState → GroupState) (hup : (s.group i).tx = .up)
    (h : ∀ x, (f x).tx = x.tx ∧ (f x).disable = x.disable ∧ (f x).context = x.context := by
      exact fun _ => ⟨rfl, rfl, rfl⟩) : Delivers g s (s.modGroup i f) where
  tx j := by
    rw [State.group_modGroup]
    split
    · next e => rw [(h _).1, e]
    · rfl
  disable j := by
    rw [State.group_modGroup]
    split
    · next e => rw [(h _).2.1, e]
    · rfl
  other j _ hj := by rw [State.group_modGroup, if_neg (by rintro rfl; exact hj hup)]
  elsewhere j _ := by
    rw [State.group_modGroup]
    split
    · next e => rw [(h _).2.2, e]
    · rfl

theorem countGroup (c : GroupCtr) (n : Nat) (s : State) : Delivers g s (s.countGroup g c n) :=
  modGroup s _

theorem ofNotes (h : NotesOnly s t) : Delivers g s t where
  rest := h.1.trans (by rw [h.1])
  tx i := by rw [h.group_eq]
  disable i := by rw [h.group_eq]
  other i _ _ := h.group_eq i
  elsewhere i _ := by rw [h.group_eq]

theorem arbitrate (s : State) : Delivers g s (Machine.arbitrate s) where
  rest := (arbitrate_fields s).trans (by rw [arbitrate_fields])
  tx i := by rw [arbitrate_group]
  disable i := by rw [arbitrate_group]
  other i _ _ := arbitrate_group s i
  elsewhere i _ := by rw [arbitrate_group]

theorem mgmtJoin (f : MgmtFrame) (s : State) : Delivers g s (Machine.mgmtJoin f s) :=
  trans (t := { s with mgmtOut := s.mgmtOut ++ [f] }) {} (arbitrate _)

theorem releaseBuffers (n : Nat) (s : State) : Delivers g s (Machine.releaseBuffers g n s) :=
  have hpool : Delivers g s { s with poolFree := s.poolFree + min n (s.group g).heldCount } := {}
  have hheld := hpool.trans (modGroup _ fun x => { x with heldCount := x.heldCount - min n (s.group g).heldCount })
  hheld.trans (countGroup ..)

theorem setBuilding (b : Option Building) (s : State) : Delivers g s (Machine.setBuilding g b s) :=
  modGroup s _

theorem setAwaiting (b : Bool) (s : State) : Delivers g s (Machine.setAwaiting g b s) :=
  modGroup s _

/-- A frame joins a class queue of a group that is UP. -/
theorem enqueueTx {i : GroupIx} (c : Cls) (x : StreamIx) (payload : List Byte) (hup : (s.group i).tx = .up) :
    Delivers g s (Machine.enqueueTx i c x payload s) := by
  let f : TxFrame := ⟨x, payload ++ be 4 (frameCheck x payload).toNat⟩
  let s1 : State := { s with
    storeFree := s.storeFree - f.bonded.length
    storeLow := min s.storeLow (s.storeFree - f.bonded.length) }
  let push : GroupState → GroupState := fun y =>
    match c with
    | .high => { y with high := y.high ++ [f] }
    | .normal => { y with normal := y.normal ++ [f] }
  let s2 := ((s1.modGroup i push).countGroup i .framesAdmitted).countGroup i .bytesAdmitted payload.length
  have hpush : Delivers g s (s1.modGroup i push) := trans (t := s1) {} (modUp s1 push hup fun y => by cases c <;> exact ⟨rfl, rfl, rfl⟩)
  have hcount : ∀ (u : State) k n, (u.group i).tx = .up → Delivers g u (u.countGroup i k n) := fun u k n h =>
    modUp u _ h
  have hup1 := (hpush.tx i).trans hup
  have h2 : Delivers g s s2 :=
    (hpush.trans (hcount _ _ _ hup1)).trans (hcount _ _ _ (((hcount _ _ _ hup1).tx i).trans hup1))
  have hup2 := (h2.tx i).trans hup
  refine h2.trans ?_
  change Delivers g s2 (judgeHold i s2)
  rcases judgeHold_cases i s2 with e | e | e <;> rw [e]
  · exact refl s2
  · exact modUp s2 _ hup2
  · have h3 : Delivers g s2 (s2.modGroup i fun y => { y with hold := true }) := modUp s2 _ hup2
    exact h3.trans (hcount _ _ _ ((h3.tx i).trans hup2))

theorem admitFrame {i : GroupIx} (c : Cls) (x : StreamIx) (payload : List Byte) (hup : (s.group i).tx = .up) :
    Delivers g s (Machine.admitFrame i c x payload s) :=
  trans (t := (s.countStream x .ingressFrames).countStream x .ingressBytes payload.length) {}
    (enqueueTx c x payload hup)

theorem remoteRequest (frame : List Byte) (s : State) : Delivers g s (Machine.remoteRequest frame s) := by
  unfold Machine.remoteRequest
  split
  · exact {}
  · dsimp only
    split
    · next i h =>
      exact trans (t := s.countDev .remoteRefused) {} (admitFrame _ _ _ (judgeOffer_taken h).2.1)
    · exact {}

theorem bondIntake (frame : List Byte) (s : State) : Delivers g s (Machine.bondIntake frame s) := by
  have hup : Delivers g s (bondIntake.relayUp frame s) := by
    unfold bondIntake.relayUp
    split
    · exact trans (t := s.countDev .relayedUp) {} (mgmtJoin ..)
    · exact {}
  unfold Machine.bondIntake
  split
  · exact {}
  · split
    · exact remoteRequest frame s
    · exact hup
    · exact hup
    · exact {}

theorem judgeFrame (p : Building) (s : State) : Delivers g s (Machine.judgeFrame g p s) := by
  have hdiscard : ∀ c, Delivers g s ((Machine.releaseBuffers g p.chain.length s).countGroup g c) := fun c =>
    (releaseBuffers ..).trans (countGroup ..)
  have hdata : Delivers g s (handOnData g ⟨p.stream, p.chain⟩ s) := by
    unfold handOnData egressJoin
    split
    · exact ((modGroup s _).trans (countGroup ..)).trans (arbitrate _)
    · exact (modGroup s _).trans (countGroup ..)
  have hmgmt : ∀ payload, Delivers g s (handOnManagement g p.chain.length payload s) := fun payload => by
    unfold handOnManagement
    dsimp only
    split
    · exact (hdiscard _).trans (bondIntake ..)
    · exact hdiscard _
  unfold Machine.judgeFrame
  dsimp only
  generalize (if p.stream = 0 then 12 else 20) = shortest
  split
  · exact hdiscard _
  · split
    · exact hdiscard _
    · split
      · exact hdiscard _
      · split
        · exact hmgmt _
        · exact hdata

theorem breakFrame (p : Building) (n : Nat) (s : State) : Delivers g s (Machine.breakFrame g p n s) :=
  ((releaseBuffers ..).trans (setBuilding ..)).trans (countGroup ..)

theorem extendFrame (p : Building) (last : Bool) (s : State) : Delivers g s (Machine.extendFrame g p last s) := by
  unfold Machine.extendFrame
  split
  · exact (setBuilding ..).trans (judgeFrame ..)
  · exact setBuilding ..

theorem assemble (d : DataSeg) (s : State) : Delivers g s (Machine.assemble g d s) := by
  unfold Machine.assemble
  split
  · unfold assembleFirst
    dsimp only
    split
    · exact ((breakFrame ..).trans (setAwaiting ..)).trans (extendFrame ..)
    · exact (setAwaiting ..).trans (extendFrame ..)
  · unfold assembleRest
    split
    · exact (releaseBuffers ..).trans (countGroup ..)
    · split
      · exact (releaseBuffers ..).trans (countGroup ..)
      · split
        · exact (breakFrame ..).trans (setAwaiting ..)
        · exact extendFrame ..

theorem lossNotice (s : State) : Delivers g s (Machine.lossNotice g s) := by
  unfold Machine.lossNotice
  split
  · exact (breakFrame ..).trans (setAwaiting ..)
  · exact setAwaiting ..

theorem deliver (d : DataSeg) (s : State) : Delivers g s (Machine.deliver g d s) := by
  have hstore : Delivers g s (s.modGroup g fun x =>
      { x with store := x.store.filter fun y => decide (y.seq ≠ d.seq), expected := some (d.seq + 1) }) := modGroup s _
  exact (hstore.trans (countGroup ..)).trans (assemble ..)

theorem skipFast (e : Seq) (s : State) : Delivers g s (Machine.skipFast g e s) := by
  have hstore : Delivers g s (s.modGroup g fun x => { x with expected := some (e + 1) }) := modGroup s _
  exact (hstore.trans (countGroup ..)).trans (lossNotice _)

theorem resolveOnce (h : Machine.resolveOnce g s = some t) : Delivers g s t := by
  obtain ⟨-, e, -, ⟨d, -, -, -, rfl⟩ | ⟨-, -, rfl⟩⟩ := resolveOnce_cases h
  · exact deliver d s
  · exact skipFast e s

theorem resolve (s : State) : Delivers g s (Machine.resolve g s) :=
  resolve_keeps (P := Delivers g s) (refl s) (fun _ _ hu h => hu.trans (Delivers.resolveOnce h)) fun u hu => by
    obtain ⟨timer, e⟩ := setHoleTimer_cases g u
    rw [e]
    exact hu.trans (modGroup u _)

theorem resolveIfLive (s : State) : Delivers g s (Machine.resolveIfLive g s) := by
  unfold Machine.resolveIfLive
  split
  · exact resolve s
  · exact refl s

theorem setCtx (new : CtxState) (s : State) : Delivers g s (Machine.setCtx g new s) :=
  have hctx : Delivers g s (s.modGroup g fun x => { x with ctx := new }) := modGroup s _
  hctx.trans (ofNotes (setCtx_emits g new s).notesOnly)

end Delivers

/-! ### Departures (R40) -/

theorem clearStrikes_lane (g : GroupIx) (s : State) (l : LaneIx) :
    (clearStrikes g s).lane l =
      if s.isMember g l then { s.lane l with assoc := (s.lane l).assoc.withStrikes 0 } else s.lane l := by
  simp only [clearStrikes, State.lane, State.isMember, Fin.getElem_fin, Vector.getElem_map]
  rfl

theorem memberCount_eq_zero {s : State} {g : GroupIx} (h : s.memberCount g = 0) (l : LaneIx) : s.isMember g l = false := by
  unfold State.memberCount laneCountOf at h
  have hnone := List.filter_eq_nil_iff.1 (List.length_eq_zero_iff.1 h) l (mem_allLanes l)
  simpa using hnone

/-- The last member leaves no strikes to clear. -/
theorem clearStrikes_of_no_member {g : GroupIx} {s : State} (h : s.memberCount g = 0) : clearStrikes g s = s := by
  have hlanes : (clearStrikes g s).lanes = s.lanes := Vector.ext fun i hi => by
    have hlane := clearStrikes_lane g s ⟨i, hi⟩
    rw [memberCount_eq_zero h, if_neg (by decide)] at hlane
    exact hlane
  exact congrArg (fun v => { s with lanes := v }) hlanes

namespace Delivers
variable {g : GroupIx}

theorem discardStore (c : GroupCtr) (s : State) : Delivers g s (Machine.discardStore g c s) :=
  ((releaseBuffers ..).trans (modGroup _ _)).trans (countGroup ..)

theorem discardInstruction (s : State) : Delivers g s (Machine.discardInstruction g s) := by
  have hbuilding : Delivers g s (match (s.group g).building with
      | some p => (Machine.setBuilding g none (Machine.releaseBuffers g p.chain.length s)).countGroup g .assemblyDiscard
      | none => s) := by
    split
    · exact ((releaseBuffers ..).trans (setBuilding ..)).trans (countGroup ..)
    · exact refl s
  unfold Machine.discardInstruction
  dsimp only
  split
  · exact ((hbuilding.trans (releaseBuffers ..)).trans ((modGroup _ _).trans (countGroup ..))).trans (setAwaiting ..)
  · exact hbuilding.trans (setAwaiting ..)

theorem enterResync {s : State} (h : s.memberCount g = 0) : Delivers g s (Machine.enterResync g s) := by
  have hclear : Delivers g s (clearSequences g (Machine.discardInstruction g (Machine.discardStore g .resyncDiscard s))) :=
    ((discardStore ..).trans (discardInstruction _)).trans (modGroup _ _)
  unfold Machine.enterResync
  rw [clearStrikes_of_no_member]
  · exact hclear.trans (setCtx ..)
  · unfold State.memberCount State.isMember
    simp only [hclear.lane]
    exact h

/-- A departure is of the delivery side. -/
theorem departed (s : State) : Delivers g s (Machine.departed g s) := by
  unfold Machine.departed
  split
  · exact refl s
  · split
    · next h => exact enterResync h
    · split
      · exact (setCtx _ s).trans (resolve _)
      · exact resolve s

end Delivers

/-- A departure changes no lane. -/
theorem departed_lane (g : GroupIx) (s : State) (l : LaneIx) : (departed g s).lane l = s.lane l :=
  (Delivers.departed s).lane l

end Sys2Proof.Machine
end

section
/-! The carrier-detect input and the judgment of intervals (R15, R22 to R26). -/

namespace Sys2Proof.Machine

/- The kernel checks the theorems one after another. -/
set_option Elab.async false

/-! ### One lane after an update of it -/

theorem State.lane_modLane_same (s : State) (l : LaneIx) (f : LaneState → LaneState) :
    (s.modLane l f).lane l = f (s.lane l) := by rw [State.lane_modLane, if_pos rfl]

theorem State.lane_countLane_same (s : State) (l : LaneIx) (c : LaneCtr) (n : Nat) :
    (s.countLane l c n).lane l = { s.lane l with ctr := raiseCounter (s.lane l).ctr c.ix n } := by
  rw [State.lane_countLane, if_pos rfl]

/-- A counter raised under a condition. -/
theorem countLane_ite (s : State) (l : LaneIx) (c : LaneCtr) (b : Bool) :
    (if b then s.countLane l c else s) = s.countLane l c (if b then 1 else 0) := by
  cases b with
  | true => rfl
  | false => exact (State.modLane_self (by simp)).symm

/-! ### Receive states change one lane (R27, R133) -/

theorem clearReport_lane (s : State) (l : LaneIx) : (clearReport s).lane l = s.lane l := by
  unfold clearReport
  split <;> rfl

theorem suspend_lane (l : LaneIx) (g : GroupIx) (c : SetCause) (s : State) (m : LaneIx) :
    (suspend l g c s).lane m = if m = l then { s.lane l with assoc := .suspended g } else s.lane m := by
  unfold suspend
  rw [departed_lane, post_lane, State.lane_modLane]

theorem LaneState.rxChanged_of_left {new : RxState} {x : LaneState} (r : Reason) (h : x.rx = .aligned ∧ new ≠ .aligned) :
    x.rxChanged new r = { x with rx := new, reason := r, assoc := x.assoc.lost } := by
  unfold LaneState.rxChanged
  rw [if_pos h]

theorem LaneState.rxChanged_of_stay {new : RxState} {x : LaneState} (r : Reason) (h : ¬ (x.rx = .aligned ∧ new ≠ .aligned)) :
    x.rxChanged new r = { x with rx := new, reason := r } := by
  unfold LaneState.rxChanged
  rw [if_neg h]

theorem setRx_lane (l : LaneIx) (new : RxState) (r : Reason) (s : State) (m : LaneIx) :
    (setRx l new r s).lane m = if m = l then (s.lane l).rxChanged new r else s.lane m := by
  have hlane : ∀ b, (post b (s.modLane l fun x => { x with rx := new, reason := r })).lane m =
      if m = l then { s.lane l with rx := new, reason := r } else s.lane m := fun b => by
    rw [post_lane, State.lane_modLane]
  unfold setRx leftAligned
  dsimp only
  split
  · next hleft =>
    rw [LaneState.rxChanged_of_left r hleft, clearReport_lane, post_lane, State.lane_modLane_same]
    cases ha : (s.lane l).assoc with
    | none => rw [hlane, show Assoc.none.lost = .none from rfl]; dsimp only; rw [ha]
    | suspended g => rw [hlane, show (Assoc.suspended g).lost = .suspended g from rfl]; dsimp only; rw [ha]
    | member g q k =>
      dsimp only
      rw [suspend_lane, post_lane, State.lane_modLane_same, hlane]
      split
      · rfl
      · rfl
  · next hstay => rw [LaneState.rxChanged_of_stay r hstay, hlane]

theorem enterLost_lane (l : LaneIx) (r sr : Reason) (s : State) (m : LaneIx) :
    (enterLost l r sr s).lane m = if m = l then ({ s.lane l with
      good := 0, miss := 0, searchReason := sr
      ctr := raiseCounter (s.lane l).ctr LaneCtr.lostEntries.ix 1 } : LaneState).rxChanged .lost r else s.lane m := by
  unfold enterLost
  rw [setRx_lane]
  split
  · rw [State.lane_countLane_same, State.lane_modLane_same]
  · next h => rw [State.lane_countLane, if_neg h, State.lane_modLane, if_neg h]

/-! ### The carrier-detect input (R15, R25, R26) -/

/-- The part once the carrier is gone from a receiver that sees its line. -/
def State.carrierGone (s : State) (l : LaneIx) (mid : Bool) : State :=
  ((s.modLane l fun x => { x with cdPresent := false }).countLane l .truncated (if mid then 1 else 0)).modLane l fun x =>
    { x with interval := { x.interval with carrierAbsent := true } }

theorem carrierGoes_eq {s : State} {l : LaneIx} {mid : Bool} (hcd : (s.lane l).cdPresent = true)
    (h : ¬ ((s.lane l).rx = .down ∨ (s.lane l).diag = .loopLocal)) :
    carrierGoes l mid s = if (s.lane l).rx = .aligned then enterLost l .carrier .carrier (s.carrierGone l mid)
      else (s.carrierGone l mid).modLane l fun x => { x with searchReason := .carrier } := by
  unfold carrierGoes loseCarrier
  dsimp only
  rw [hcd, if_neg (by decide), if_neg h, countLane_ite, State.lane_modLane_same]
  rfl

theorem State.lane_carrierGone (s : State) (l m : LaneIx) (mid : Bool) :
    (s.carrierGone l mid).lane m = if m = l then { s.lane l with
      cdPresent := false, interval := { (s.lane l).interval with carrierAbsent := true }
      ctr := raiseCounter (s.lane l).ctr LaneCtr.truncated.ix (if mid then 1 else 0) } else s.lane m := by
  unfold State.carrierGone
  rw [State.lane_modLane]
  split
  · rw [State.lane_countLane_same, State.lane_modLane_same]
  · next h => rw [State.lane_countLane, if_neg h, State.lane_modLane, if_neg h]

/-- Settles O28: the input alone, or with it what the Lane Receiver makes of a lost carrier. -/
theorem carrierInputFollowed : Obligations.CarrierInputFollowed := by
  refine fun s l => ⟨rfl, fun mid => ?_⟩
  dsimp only
  rw [exec_carrierLoss]
  cases hcd : (s.lane l).cdPresent with
  | false =>
    unfold carrierGoes
    rw [hcd]
    rfl
  | true =>
    rw [if_neg (by decide)]
    split
    · next h =>
      unfold carrierGoes
      rw [hcd]
      dsimp only
      rw [if_neg (by decide), if_pos h]
    · next h =>
      split
      · next hrx => rw [carrierGoes_eq hcd h, if_neg hrx]; rfl
      · next hrx =>
        have hrx : (s.lane l).rx = .aligned := not_not.1 hrx
        have hlane := s.lane_carrierGone l l mid
        rw [if_pos rfl] at hlane
        have hgoes : carrierGoes l mid s = enterLost l .carrier .carrier (s.carrierGone l mid) := by
          rw [carrierGoes_eq hcd h, if_pos hrx]
        refine ⟨fun ha => ?_, fun g m k ha => ⟨_, congrArg Host.Outcome.next hgoes, ?_⟩⟩
        · have hlost := enterLost_emits (s := s.carrierGone l mid) (l := l) .carrier .carrier (by rw [hlane]; exact hrx)
            (by rw [hlane]; exact ha)
          exact exists_next_of_emits (congrArg Host.Outcome.next hgoes) hlost le_rfl (by simp [State.withLost])
        · have hafter := enterLost_lane l .carrier .carrier (s.carrierGone l mid)
          have hl := hafter l
          rw [if_pos rfl, hlane] at hl
          rw [hl]
          refine ⟨rfl, rfl, rfl, ?_, rfl, fun n hn => ?_⟩
          · change (if (s.lane l).rx = .aligned ∧ RxState.lost ≠ .aligned then (s.lane l).assoc.lost else _) = _
            rw [if_pos ⟨hrx, by decide⟩, ha]
            rfl
          · rw [hafter, if_neg hn, s.lane_carrierGone, if_neg hn]

/-! ### Intervals (R22 to R24) -/

theorem intervalGood_iff (r : IntervalRecord) (n : Nat) :
    intervalGood r n = true ↔
      (r.carrierAbsent = false ∧ r.markerSeen = true ∧ r.originFault = none ∧ r.errorCount < n) := by
  simp [intervalGood, and_assoc]

theorem badReason_eq (r : IntervalRecord) (old : Reason) :
    badReason r old = if r.carrierAbsent then .carrier
      else if r.originFault = some .crossed then .crossed
      else if r.originFault = some .looped then .looped
      else if r.markerSeen then old else .noMarker := by
  unfold badReason
  split
  · rfl
  · cases r.originFault with
    | none => rfl
    | some f => cases f <;> rfl

theorem NoteBlind.startInterval (l : LaneIx) (e : Time) : NoteBlind (Machine.startInterval l e) :=
  ⟨fun _ _ => rfl, fun _ => rfl⟩

/-- The part with the next interval of the lane begun at `e` (R22). -/
def State.nextInterval (s : State) (l : LaneIx) (e : Time) : State :=
  s.modLane l fun y => { y with
    interval := ⟨!s.carrier l, false, none, 0⟩
    intervalTimer := some (e + BitVec.ofNat 32 s.dev.markerInterval) }

/-- The start of the next interval after an update that leaves carrier, record and timer. -/
theorem startInterval_modLane (s : State) (l : LaneIx) (e : Time) (f : LaneState → LaneState)
    (hc : (f (s.lane l)).cdPresent = (s.lane l).cdPresent ∧ (f (s.lane l)).diag = (s.lane l).diag) :
    startInterval l e (s.modLane l f) = s.modLane l fun y => { f y with
      interval := ⟨!s.carrier l, false, none, 0⟩
      intervalTimer := some (e + BitVec.ofNat 32 s.dev.markerInterval) } := by
  unfold startInterval
  dsimp only
  rw [State.carrier_modLane s l f hc, State.modLane_modLane]
  rfl

theorem startInterval_withLost (s : State) (l : LaneIx) (e : Time) (r sr : Reason) :
    startInterval l e (s.withLost l r sr) = (s.nextInterval l e).withLost l r sr := by
  have hothers := State.othersAligned_modLane s l fun y => { y with
    interval := ⟨!s.carrier l, false, none, 0⟩
    intervalTimer := some (e + BitVec.ofNat 32 s.dev.markerInterval) }
  have hlost : s.withLost l r sr = (s.modLane l fun x => { x with
      rx := .lost, reason := r, searchReason := sr, good := 0, miss := 0
      ctr := raiseCounter x.ctr LaneCtr.lostEntries.ix 1 }).withReport
        (if s.othersAligned l then s.peerReport else none) := by
    unfold State.withLost State.countLane
    rw [State.modLane_modLane]
    rfl
  have hcomm : ∀ (u : State) p, startInterval l e (u.withReport p) = (startInterval l e u).withReport p := fun _ _ => rfl
  rw [hlost, hcomm, startInterval_modLane s l e _ ⟨rfl, rfl⟩]
  unfold State.withLost State.nextInterval State.countLane
  rw [hothers, State.modLane_modLane, State.modLane_modLane]
  rfl

/-- Settles O27: the ending interval is judged by the receive state, and the next begins at the expiry. -/
theorem intervalJudged : Obligations.IntervalJudged := by
  intro s l hdown
  refine ⟨fun hnone => ?_, fun e he => ?_⟩
  · rw [exec_intervalExpiry]
    unfold intervalExpires
    rw [hnone]
  · have hexp : intervalExpires l s = startInterval l e (if (s.lane l).rx = .aligned then judgeAligned l (s.passTo e)
        else judgeSearching l (s.passTo e)) := by
      unfold intervalExpires
      rw [he]
      cases hrx : (s.lane l).rx with
      | down => exact absurd hrx hdown
      | _ => rfl
    rw [exec_intervalExpiry, hexp]
    dsimp only
    split
    · next hrx =>
      unfold judgeAligned
      rw [State.lane_passTo, State.passTo_dev]
      dsimp only
      split
      · rw [startInterval_modLane _ l e _ ⟨rfl, rfl⟩, State.modLane_modLane]
        rfl
      · split
        · next hmiss =>
          rw [if_neg (Nat.not_le.2 hmiss), startInterval_modLane _ l e _ ⟨rfl, rfl⟩, State.modLane_modLane]
          rfl
        · next hmiss =>
          intro ha
          rw [if_pos (Nat.le_of_not_lt hmiss)]
          have hlost := (enterLost_emits (s := s.passTo e) (l := l) .markerMiss .noMarker hrx ha).map (.startInterval l e)
          rw [startInterval_withLost] at hlost
          exact exists_next_of_emits rfl hlost le_rfl (by simp [State.withLost])
    · unfold judgeSearching
      rw [State.lane_passTo, State.passTo_dev]
      dsimp only
      rw [← if_congr (intervalGood_iff _ _) rfl rfl]
      split
      · split
        · next hgood =>
          rw [if_neg (Nat.not_le.2 hgood), startInterval_modLane _ l e _ ⟨rfl, rfl⟩, State.modLane_modLane]
          rfl
        · next hgood =>
          rw [if_pos (Nat.le_of_not_lt hgood)]
          have hal := (enterAligned_emits l (s.passTo e)).map (.startInterval l e)
          rw [startInterval_modLane _ l e _ ⟨rfl, rfl⟩] at hal
          rw [State.modLane_modLane]
          exact exists_next_of_emits rfl hal le_rfl ⟨rfl, rfl, rfl⟩
      · rw [startInterval_modLane _ l e _ ⟨rfl, rfl⟩, State.modLane_modLane, ← badReason_eq]
        exact congrArg Host.Outcome.next (State.modLane_congr rfl)

end Sys2Proof.Machine
end

section
/-! What a Lane Receiver makes of the segments of its line (R15 to R20, R28, R31, R34, R184, R186). -/

namespace Sys2Proof.Machine

/- The kernel checks the theorems one after another. -/
set_option Elab.async false

/-! ### Whether the receiver takes segments (R15) -/

theorem lineSegment_of_ignored {s : State} {l : LaneIx} (bytes : List Byte)
    (h : (s.lane l).rx = .down ∨ (s.lane l).cdPresent = false ∨ (s.lane l).diag = .loopLocal) : lineSegment l bytes s = s := by
  unfold lineSegment
  refine if_pos ?_
  rcases h with h | h | h
  · exact .inl h
  · by_cases hd : (s.lane l).diag = .loopLocal
    · exact .inr (.inr hd)
    · exact .inr (.inl (by simp [State.carrier, h, hd]))
  · exact .inr (.inr h)

theorem lineSegment_of_taken {s : State} {l : LaneIx} (bytes : List Byte) (hrx : (s.lane l).rx ≠ .down)
    (hcd : (s.lane l).cdPresent = true) (hdiag : (s.lane l).diag ≠ .loopLocal) :
    lineSegment l bytes s = receiveSegment l bytes s := by
  unfold lineSegment
  refine if_neg ?_
  simp [State.carrier, hrx, hcd, hdiag]

/-! ### Errors and the capture record (R18, R22, R25, R31) -/

/-- The part with the error of an interval counted (R18). -/
def State.withError (s : State) (l : LaneIx) : State :=
  s.modLane l fun y => { y with interval := { y.interval with errorCount := min ((s.lane l).interval.errorCount + 1) 255 } }

theorem intervalError_emits {l : LaneIx} {s : State} (hrx : (s.lane l).rx = .aligned)
    (hlimit : s.dev.errorLimit ≤ min ((s.lane l).interval.errorCount + 1) 255) (ha : (s.lane l).assoc.isMember = false) :
    Emits [.laneState l .aligned .lost .errors] ((s.withError l).withLost l .errors .noMarker) (intervalError l s) := by
  have hlane : (s.withError l).lane l = _ := s.lane_modLane_same l _
  unfold intervalError
  dsimp only
  rw [if_pos ⟨hrx, hlimit⟩]
  exact enterLost_emits _ _ (by rw [hlane]; exact hrx) (by rw [hlane]; exact ha)

theorem intervalError_of_below {l : LaneIx} {s : State}
    (h : ¬ ((s.lane l).rx = .aligned ∧ s.dev.errorLimit ≤ min ((s.lane l).interval.errorCount + 1) 255)) :
    intervalError l s = s.withError l := by
  unfold intervalError
  exact if_neg h

/-- The lane after an uncorrectable header at its capture record (R31). -/
def LaneState.captured (syndrome : Byte) (now : Time) (y : LaneState) : LaneState :=
  { y with capture :=
      if y.capture.state = .uncorrectable then { y.capture with suppressed := min (y.capture.suppressed + 1) 255 }
      else ⟨.uncorrectable, syndrome, now, none, 0⟩ }

/-- The part after an uncorrectable header at the capture record. -/
def State.captured (s : State) (l : LaneIx) (syndrome : Byte) : State := s.modLane l (LaneState.captured syndrome s.timebase)

theorem NoteBlind.captured (l : LaneIx) (syndrome : Byte) : NoteBlind fun s => s.captured l syndrome :=
  ⟨fun _ _ => rfl, fun _ => rfl⟩

/-- The record an uncorrectable header posts (R31). -/
def State.captureRecord (s : State) (l : LaneIx) (syndrome : Byte) : List NoteBody :=
  if (s.lane l).capture.state = .uncorrectable then [] else [.capture l .uncorrectable syndrome]

theorem captureEvent_uncorrectable_emits (l : LaneIx) (syndrome : Byte) (s : State) :
    Emits (s.captureRecord l syndrome) (s.captured l syndrome) (captureEvent l .uncorrectable syndrome none s) := by
  unfold captureEvent State.captured State.captureRecord
  dsimp only
  by_cases hc : (s.lane l).capture.state = .uncorrectable
  · rw [if_pos hc, if_neg (by simp [hc])]
    exact .of_eq (State.modLane_congr (by simp [LaneState.captured, hc]))
  · have htakes : (s.lane l).capture.state = .empty ∨
        ((s.lane l).capture.state = .corrected ∧ CaptureState.uncorrectable = .uncorrectable) := by
      cases h : (s.lane l).capture.state <;> simp_all
    have hpost := post_emits (.capture l .uncorrectable syndrome)
      (s.modLane l fun x => { x with capture := ⟨.uncorrectable, syndrome, s.timebase, none, 0⟩ })
    have hsame : s.modLane l (LaneState.captured syndrome s.timebase) =
        s.modLane l fun x => { x with capture := ⟨.uncorrectable, syndrome, s.timebase, none, 0⟩ } :=
      State.modLane_congr (by simp [LaneState.captured, hc])
    rw [if_neg hc, if_pos htakes, hsame]
    exact hpost

theorem captureEvent_corrected (l : LaneIx) (syndrome : Byte) (kind : Option SegKind) (s : State) :
    captureEvent l .corrected syndrome kind s =
      if (s.lane l).capture.state = .empty then
        post (.capture l .corrected syndrome)
          (s.modLane l fun y => { y with capture := ⟨.corrected, syndrome, s.timebase, kind, 0⟩ })
      else s.modLane l fun y => { y with capture := { y.capture with suppressed := min (y.capture.suppressed + 1) 255 } } := by
  unfold captureEvent
  dsimp only
  rw [if_congr (Q := (s.lane l).capture.state = .empty) (by simp) rfl rfl]

/-- What an uncorrectable header makes of an ALIGNED lane at the error limit (R25, R31; log 15). -/
theorem errorCaptured_lost_emits {l : LaneIx} {s : State} (syndrome : Byte) (hrx : (s.lane l).rx = .aligned)
    (hlimit : s.dev.errorLimit ≤ min ((s.lane l).interval.errorCount + 1) 255) (ha : (s.lane l).assoc.isMember = false) :
    Emits (.laneState l .aligned .lost .errors :: s.captureRecord l syndrome)
      (((s.withError l).withLost l .errors .noMarker).captured l syndrome)
      (captureEvent l .uncorrectable syndrome none (intervalError l s)) := by
  have herr := intervalError_emits hrx hlimit ha
  have hlane : ((intervalError l s).lane l).capture = (s.lane l).capture := by
    rw [herr.notesOnly.lane_eq]
    unfold State.withLost State.withError
    change ((((s.modLane l _).modLane l _).countLane l .lostEntries).lane l).capture = _
    rw [State.lane_countLane_same, State.lane_modLane_same, State.lane_modLane_same]
  have hrec : (intervalError l s).captureRecord l syndrome = s.captureRecord l syndrome := by
    unfold State.captureRecord
    rw [hlane]
  have hcap := captureEvent_uncorrectable_emits l syndrome (intervalError l s)
  rw [hrec] at hcap
  exact (herr.map (.captured l syndrome)).trans hcap

/-- What an uncorrectable header makes of any other lane (R18, R31). -/
theorem errorCaptured_emits {l : LaneIx} {s : State} (syndrome : Byte)
    (h : ¬ ((s.lane l).rx = .aligned ∧ s.dev.errorLimit ≤ min ((s.lane l).interval.errorCount + 1) 255)) :
    Emits (s.captureRecord l syndrome) ((s.withError l).captured l syndrome)
      (captureEvent l .uncorrectable syndrome none (intervalError l s)) := by
  have hlane : ((s.withError l).lane l).capture = (s.lane l).capture := by
    unfold State.withError
    rw [State.lane_modLane_same]
  have hrec : (s.withError l).captureRecord l syndrome = s.captureRecord l syndrome := by
    unfold State.captureRecord
    rw [hlane]
  rw [intervalError_of_below h, ← hrec]
  exact captureEvent_uncorrectable_emits l syndrome _

theorem receiveSegment_uncorrectable {l : LaneIx} {bytes : List Byte} {syndrome : Byte} {s : State}
    (h : judgeHeader bytes = .uncorrectable syndrome) :
    receiveSegment l bytes s = captureEvent l .uncorrectable syndrome none
      (intervalError l ((s.countLane l .segmentsReceived).countLane l .uncorrectable)) := by
  unfold receiveSegment
  rw [h]

/-- Settles O24: a segment goes on by its header, and each fault is counted, marked and recorded. -/
theorem faultySegmentsTaken : Obligations.FaultySegmentsTaken := by
  refine ⟨fun s l bytes => ?_, fun s l bytes h hk hbody => ?_⟩
  · dsimp only
    rw [exec_segmentTaken]
    split
    · next h => rw [lineSegment_of_ignored bytes h]
    · next h =>
      have hrx : (s.lane l).rx ≠ .down := fun e => h (.inl e)
      have hcd : (s.lane l).cdPresent = true := by
        by_contra e
        exact h (.inr (.inl (by simpa using e)))
      rw [lineSegment_of_taken bytes hrx hcd fun e => h (.inr (.inr e))]
      refine ⟨fun hd hg => ?_, fun syndrome hd hg => ?_, fun syndrome hg => ?_⟩
      · unfold receiveSegment
        rw [hg]
      · unfold receiveSegment
        rw [hg]
        dsimp only
        rw [captureEvent_corrected, State.lane_countLane_same, State.lane_countLane_same]
        rfl
      · rw [receiveSegment_uncorrectable hg]
        have hw : ((s.countLane l .segmentsReceived).countLane l .uncorrectable).lane l = { s.lane l with
            ctr := raiseCounter (raiseCounter (s.lane l).ctr LaneCtr.segmentsReceived.ix 1) LaneCtr.uncorrectable.ix 1 } := by
          rw [State.lane_countLane_same, State.lane_countLane_same]
        have hunit : ((s.countLane l .segmentsReceived).countLane l .uncorrectable).notes = s.notes ∧
            ((s.countLane l .segmentsReceived).countLane l .uncorrectable).nextNote = s.nextNote ∧
            ((s.countLane l .segmentsReceived).countLane l .uncorrectable).tally = s.tally ∧
            ((s.countLane l .segmentsReceived).countLane l .uncorrectable).dev = s.dev ∧
            ((s.countLane l .segmentsReceived).countLane l .uncorrectable).timebase = s.timebase := by simp
        generalize (s.countLane l .segmentsReceived).countLane l .uncorrectable = w at hw hunit ⊢
        obtain ⟨hnotes, hnext, htally, hdev, htime⟩ := hunit
        have herr : w.withError l = w.modLane l fun y =>
            { y with interval := { y.interval with errorCount := min ((s.lane l).interval.errorCount + 1) 255 } } := by
          unfold State.withError
          rw [hw]
        have hrec : w.captureRecord l syndrome =
            if (s.lane l).capture.state = .uncorrectable then [] else [.capture l .uncorrectable syndrome] := by
          unfold State.captureRecord
          rw [hw]
        rw [← herr, ← hrec, ← htime]
        have hlen : (w.captureRecord l syndrome).length ≤ 1 := by
          unfold State.captureRecord
          split <;> simp
        split
        · next hlost =>
          intro ha
          have hemit := errorCaptured_lost_emits (s := w) (l := l) syndrome (by rw [hw]; exact hlost.1)
            (by rw [hw, hdev]; exact hlost.2) (by rw [hw]; exact ha)
          exact exists_next_of_emits rfl hemit (Nat.succ_le_succ hlen)
            (by simp [State.withLost, State.withError, hnotes, hnext, htally])
        · next hstay =>
          have hemit := errorCaptured_emits (s := w) (l := l) syndrome (by rw [hw, hdev]; exact hstay)
          exact exists_next_of_emits rfl hemit hlen (by simp [State.withError, hnotes, hnext, htally])
  · have hgoes : segmentGoesOn l h bytes s = intervalError l (s.countLane l .markerBodyError) := by
      unfold segmentGoesOn
      rw [hk]
      dsimp only
      unfold takeMarkerSegment
      rw [hbody]
    have hw := s.lane_countLane_same l .markerBodyError 1
    have herr : (s.countLane l .markerBodyError).withError l = (s.countLane l .markerBodyError).modLane l fun y =>
        { y with interval := { y.interval with errorCount := min ((s.lane l).interval.errorCount + 1) 255 } } := by
      unfold State.withError
      rw [hw]
    dsimp only
    rw [hgoes, ← herr]
    split
    · next hlost =>
      intro ha
      have hemit := intervalError_emits (s := s.countLane l .markerBodyError) (l := l) (by rw [hw]; exact hlost.1)
        (by rw [hw]; exact hlost.2) (by rw [hw]; exact ha)
      obtain ⟨t, ht, hnotes, hposted⟩ := exists_next_of_emits (s := s) rfl hemit le_rfl
        (by simp [State.withLost, State.withError])
      cases ht
      exact ⟨hnotes, hposted⟩
    · next hstay => exact intervalError_of_below (by rw [hw]; exact hstay)

end Sys2Proof.Machine
end

section
/-! What a Lane Receiver makes of markers, and of any segment in a diagnostic mode (R20, R26, R28, R34, R182 to R186). -/

namespace Sys2Proof.Machine

/- The kernel checks the theorems one after another. -/
set_option Elab.async false

/-! ### Segments as sent, at the receiver -/

theorem receiveSegment_good {l : LaneIx} {bytes : List Byte} {h : Header} {s : State} (hg : judgeHeader bytes = .good h) :
    receiveSegment l bytes s = segmentGoesOn l h bytes (s.countLane l .segmentsReceived) := by
  unfold receiveSegment
  rw [hg]

/-- A marker as sent, by its origin; `q` is its sequence where it names a group. -/
theorem receiveSegment_marker (l : LaneIx) (m : MarkerBody) (S : Seq) (s : State) :
    ∃ q, (∀ g, m.role.group? = some g → q = S) ∧ receiveSegment l (markerBytes m S) s =
      if (s.countLane l .segmentsReceived).isLooped l m then
        originFault l .looped ((loopCopy l (markerBytes m S) (s.countLane l .segmentsReceived)).countLane l .looped)
      else if m.lane ≠ l then
        originFault l .crossed ((loopCopy l (markerBytes m S) (s.countLane l .segmentsReceived)).countLane l .crossed)
      else takeValid l m q (loopCopy l (markerBytes m S) (s.countLane l .segmentsReceived)) := by
  obtain ⟨h, hg, hkind, -, -, -, hnamed, -, hbody⟩ := markersReadBack m S
  refine ⟨h.seq, fun g hm => (hnamed g hm).2, ?_⟩
  rw [receiveSegment_good hg]
  unfold segmentGoesOn
  rw [hkind]
  dsimp only
  unfold takeMarkerSegment
  rw [hbody]

theorem loopCopy_of_ne {l : LaneIx} {s : State} (bytes : List Byte) (h : (s.lane l).diag ≠ .loopRemote) :
    loopCopy l bytes s = s := if_pos h

theorem State.isLooped_countLane (s : State) (l : LaneIx) (c : LaneCtr) (m : MarkerBody)
    (hd : (s.lane l).diag ≠ .loopLocal) : (s.countLane l c).isLooped l m = true ↔
      (s.dev.stationToken ≠ 0 ∧ m.token = s.dev.stationToken) := by
  unfold State.isLooped
  rw [State.lane_countLane_same]
  simp only [Bool.and_eq_true, decide_eq_true_eq]
  exact ⟨fun ⟨⟨h1, _⟩, h2⟩ => ⟨h1, h2⟩, fun ⟨h1, h2⟩ => ⟨⟨h1, hd⟩, h2⟩⟩

/-- The markers a marker gap stands for (R34). -/
def missingMarkers (last : Option Byte) (count : Byte) : Nat :=
  match last with
  | some c => (count.toNat + 255 - c.toNat) % 256
  | none => 0

theorem markerGap_missing (a c : Byte) : (a - c - 1).toNat = (a.toNat + 255 - c.toNat) % 256 := by
  have ha := a.isLt
  have hc := c.isLt
  simp only [BitVec.toNat_sub, BitVec.reduceToNat]
  omega

/-- A valid marker as the receiver keeps it (R20, R34). -/
def State.markerTaken (s : State) (l : LaneIx) (m : MarkerBody) : State :=
  ((s.countLane l .validMarkers).countLane l .markerGap (missingMarkers (s.lane l).lastCount m.count)).modLane l fun y =>
    { y with interval := { y.interval with markerSeen := true }, lastCount := some m.count }

theorem takeValid_eq (l : LaneIx) (m : MarkerBody) (S : Seq) (s : State) :
    takeValid l m S s = if (s.lane l).rx = .aligned ∧ (s.lane l).diag = .none then takeMarker l m S (s.markerTaken l m)
      else s.markerTaken l m := by
  have hgap : markerGap l m.count ((s.countLane l .validMarkers).modLane l fun x =>
      { x with interval := { x.interval with markerSeen := true } }) = s.markerTaken l m := by
    have hlane : (((s.countLane l .validMarkers).modLane l fun x =>
        { x with interval := { x.interval with markerSeen := true } }).lane l).lastCount = (s.lane l).lastCount := by
      rw [State.lane_modLane_same, State.lane_countLane_same]
    unfold markerGap State.markerTaken missingMarkers
    dsimp only
    rw [hlane]
    cases (s.lane l).lastCount with
    | none => simp only [State.countLane, State.modLane_modLane]
    | some c =>
      dsimp only
      rw [markerGap_missing]
      simp only [State.countLane, State.modLane_modLane]
  unfold takeValid
  dsimp only
  rw [hgap]

/-! ### CROSSED and LOOPED markers (R20, R25, R26) -/

/-- The part with the fault kept in the interval record (R22). -/
def State.withFault (s : State) (l : LaneIx) (f : OriginFault) : State :=
  s.modLane l fun x => { x with interval := { x.interval with originFault := some f } }

theorem State.lane_withFault (s : State) (l : LaneIx) (f : OriginFault) :
    (s.withFault l f).lane l = { s.lane l with interval := { (s.lane l).interval with originFault := some f } } :=
  s.lane_modLane_same l _

theorem originFault_aligned_emits {l : LaneIx} {f : OriginFault} {s : State} (hrx : (s.lane l).rx = .aligned)
    (ha : (s.lane l).assoc.isMember = false) :
    Emits [.laneState l .aligned .lost f.reason] ((s.withFault l f).withLost l f.reason f.reason) (originFault l f s) := by
  unfold originFault
  rw [hrx]
  exact enterLost_emits _ _ (by rw [s.lane_withFault]; exact hrx) (by rw [s.lane_withFault]; exact ha)

theorem originFault_searching (l : LaneIx) (f : OriginFault) {s : State} (hdown : (s.lane l).rx ≠ .down)
    (hal : (s.lane l).rx ≠ .aligned) :
    originFault l f s = if (s.lane l).searchReason = f.reason then s.withFault l f
      else post (.laneState l (s.lane l).rx (s.lane l).rx f.reason)
        ((s.withFault l f).modLane l fun x => { x with searchReason := f.reason }) := by
  unfold originFault
  cases hrx : (s.lane l).rx with
  | down => exact absurd hrx hdown
  | aligned => exact absurd hrx hal
  | _ => rfl

/-- A fault on a lane that receives, MEMBER of no group, as an outcome. -/
theorem originFault_outcome {l : LaneIx} {s w : State} {out : Host.Outcome State Fault Refusal} (f : OriginFault)
    (hout : out = .next (originFault l f w))
    (hw : (w.lane l).rx = (s.lane l).rx ∧ (w.lane l).assoc = (s.lane l).assoc ∧
      (w.lane l).searchReason = (s.lane l).searchReason)
    (hunit : w.notes = s.notes ∧ w.nextNote = s.nextNote ∧ w.tally = s.tally) (hrx : (s.lane l).rx ≠ .down)
    (ha : (s.lane l).assoc.isMember = false) :
    if (s.lane l).rx = .aligned then
      ∃ t, out = .next t ∧ NotesOnly ((w.withFault l f).withLost l f.reason f.reason) t ∧
        (s.HasRoom 1 → Posted [.laneState l .aligned .lost f.reason] s t)
    else if (s.lane l).searchReason = f.reason then out = .next (w.withFault l f)
    else
      ∃ t, out = .next t ∧ NotesOnly ((w.withFault l f).modLane l fun x => { x with searchReason := f.reason }) t ∧
        (s.HasRoom 1 → Posted [.laneState l (s.lane l).rx (s.lane l).rx f.reason] s t) := by
  obtain ⟨hwrx, hwa, hwr⟩ := hw
  split
  · next hal =>
    exact exists_next_of_emits hout (originFault_aligned_emits (hwrx.trans hal) (hwa ▸ ha)) le_rfl
      (by simp [State.withLost, State.withFault, hunit])
  · next hal =>
    rw [originFault_searching l f (hwrx ▸ hrx) (hwrx ▸ hal), hwr, hwrx] at hout
    split
    · next hr => rw [hout, if_pos hr]
    · next hr =>
      rw [if_neg hr] at hout
      exact exists_next_of_emits hout (post_emits _ _) le_rfl (by simp [State.withFault, hunit])

/-- Settles O25: a marker is LOOPED, CROSSED or valid, and taken as such. -/
theorem markerJudged : Obligations.MarkerJudged := by
  intro s l m S hdiag hcd hrx ha
  have hdl : (s.lane l).diag ≠ .loopLocal := by rw [hdiag]; decide
  obtain ⟨q, -, hrecv⟩ := receiveSegment_marker l m S s
  have hu := s.lane_countLane_same l .segmentsReceived 1
  rw [loopCopy_of_ne _ (by rw [hu]; dsimp only; rw [hdiag]; decide)] at hrecv
  have hlooped := s.isLooped_countLane l .segmentsReceived m hdl
  have hcounted : ∀ c, (((s.countLane l .segmentsReceived).countLane l c).lane l).rx = (s.lane l).rx ∧
      (((s.countLane l .segmentsReceived).countLane l c).lane l).assoc = (s.lane l).assoc ∧
      (((s.countLane l .segmentsReceived).countLane l c).lane l).searchReason = (s.lane l).searchReason := fun c => by
    rw [State.lane_countLane_same, hu]
    exact ⟨rfl, rfl, rfl⟩
  dsimp only
  rw [exec_segmentTaken, lineSegment_of_taken _ hrx hcd hdl, hrecv]
  by_cases hl : s.dev.stationToken ≠ 0 ∧ m.token = s.dev.stationToken
  · rw [if_pos (.inl hl), if_pos (hlooped.2 hl)]
    simp only [if_pos hl]
    exact originFault_outcome .looped rfl (hcounted .looped) (by simp) hrx ha
  · rw [if_neg fun h => hl (hlooped.1 h)]
    by_cases hm : m.lane ≠ l
    · rw [if_pos (.inr hm), if_pos hm]
      simp only [if_neg hl]
      exact originFault_outcome .crossed rfl (hcounted .crossed) (by simp) hrx ha
    · rw [if_neg fun h => h.elim hl hm, if_neg hm]
      intro hal
      rw [takeValid_eq, hu, if_neg fun h => hal h.1]
      unfold State.markerTaken
      rw [hu]
      rfl

/-! ### Diagnostic modes (R28, R182 to R186) -/

/-- What LOOP-REMOTE makes of a segment that goes on (R184). -/
def State.copied (s : State) (l : LaneIx) (bytes : List Byte) : State :=
  if (s.lane l).diag ≠ .loopRemote then s.countLane l .segmentsReceived
  else if (s.lane l).returnQueue.length < 8 then
    (s.countLane l .segmentsReceived).modLane l fun y => { y with returnQueue := y.returnQueue ++ [bytes] }
  else (s.countLane l .segmentsReceived).countLane l .loopDropped

theorem loopCopy_counted (s : State) (l : LaneIx) (bytes : List Byte) :
    loopCopy l bytes (s.countLane l .segmentsReceived) = s.copied l bytes := by
  unfold loopCopy State.copied
  rw [State.lane_countLane_same]
  rfl

theorem State.lane_copied (s : State) (l : LaneIx) (bytes : List Byte) :
    ∃ q ctr, (s.copied l bytes).lane l = { s.lane l with returnQueue := q, ctr := ctr } := by
  unfold State.copied
  split
  · rw [State.lane_countLane_same]
    exact ⟨_, _, rfl⟩
  · split
    · rw [State.lane_modLane_same, State.lane_countLane_same]
      exact ⟨_, _, rfl⟩
    · rw [State.lane_countLane_same, State.lane_countLane_same]
      exact ⟨_, _, rfl⟩

theorem testGap_eq (t : TestRecord) (q : Seq) :
    testGap t q = if t.received ≠ 0 ∧ 1 ≤ dist (t.last + 1) q ∧ dist (t.last + 1) q ≤ 32767 then dist (t.last + 1) q else 0 := by
  unfold testGap aheadOf
  by_cases h : t.received = 0
  · rw [if_pos h, if_neg fun k => k.1 h]
  · rw [if_neg h]
    refine if_congr ?_ rfl rfl
    simp only [Bool.and_eq_true, decide_eq_true_eq]
    exact ⟨fun ⟨h1, h2⟩ => ⟨h, h1, Nat.le_of_lt_succ h2⟩, fun ⟨_, h1, h2⟩ => ⟨h1, Nat.lt_succ_of_le h2⟩⟩

theorem checkTest_eq (l : LaneIx) (q : Seq) (payload : List Byte) (s : State) :
    checkTest l q payload s =
      let t := (s.lane l).test
      let wrong := if payload = testPattern q then 0 else 1
      (((s.countLane l .testReceived).countLane l .testGaps (testGap t q)).countLane l .testPatternErrors wrong).modLane l
        fun y => { y with test :=
          ⟨t.received + 1, t.gaps + BitVec.ofNat 32 (testGap t q), t.patternErrors + BitVec.ofNat 32 wrong, q⟩ } := by
  unfold checkTest State.countLane
  simp only [State.modLane_modLane]

/-- What an origin fault leaves of its lane: the return queue, and every counter but the entries into LOST. -/
theorem originFault_lane (l : LaneIx) (f : OriginFault) (s : State) :
    ((originFault l f s).lane l).returnQueue = (s.lane l).returnQueue ∧
      (originFault l f s).laneCount l .loopDropped = s.laneCount l .loopDropped := by
  have hdrop : LaneCtr.loopDropped.ix ≠ LaneCtr.lostEntries.ix := by decide
  have hlost : ((enterLost l f.reason f.reason (s.withFault l f)).lane l).returnQueue = (s.lane l).returnQueue ∧
      ((enterLost l f.reason f.reason (s.withFault l f)).lane l).ctr[LaneCtr.loopDropped.ix] =
        (s.lane l).ctr[LaneCtr.loopDropped.ix] := by
    rw [enterLost_lane, if_pos rfl, s.lane_withFault]
    exact ⟨rfl, (raiseCounter_get _ _ _ 1).trans (if_neg hdrop)⟩
  have hsearch : ∀ b, ((post b ((s.withFault l f).modLane l fun x => { x with searchReason := f.reason })).lane l) =
      { s.lane l with
        interval := { (s.lane l).interval with originFault := some f }, searchReason := f.reason } := fun b => by
    rw [post_lane, State.lane_modLane_same, s.lane_withFault]
  unfold State.laneCount
  by_cases hal : (s.lane l).rx = .aligned
  · have he : originFault l f s = enterLost l f.reason f.reason (s.withFault l f) := by
      unfold originFault
      rw [hal]
      rfl
    rw [he]
    exact hlost
  · by_cases hdown : (s.lane l).rx = .down
    · have he : originFault l f s = s.withFault l f := by
        unfold originFault
        rw [hdown]
        rfl
      rw [he, s.lane_withFault]
      exact ⟨rfl, rfl⟩
    · by_cases hreason : (s.lane l).searchReason = f.reason
      · have he : originFault l f s = s.withFault l f :=
          (originFault_searching l f hdown hal).trans (if_pos hreason)
        rw [he, s.lane_withFault]
        exact ⟨rfl, rfl⟩
      · rw [(originFault_searching l f hdown hal).trans (if_neg hreason), hsearch]
        exact ⟨rfl, rfl⟩

/-- Settles O26: a data, a test and a marker segment by the mode of the lane. -/
theorem diagnosticSegmentsTaken : Obligations.DiagnosticSegmentsTaken := by
  intro s l hrx hcd hdl
  have hu := s.lane_countLane_same l .segmentsReceived 1
  refine ⟨fun d h1 h2 => ?_, fun q payload hlen => ?_, fun m S hdiag => ?_⟩
  · have hgood := (segmentsReadBack.1 d h1 h2).1
    have hrecv : exec (.segmentTaken l d.bytes) s =
        .next (takeData l ⟨1, some .data, d.group, d.first, d.last, d.stream, d.seq, d.payload.length⟩ (d.bytes.drop 6)
          (s.copied l d.bytes)) := by
      rw [exec_segmentTaken, lineSegment_of_taken _ hrx hcd hdl, receiveSegment_good hgood, ← loopCopy_counted]
      rfl
    obtain ⟨rq, ctr, hcopied⟩ := s.lane_copied l d.bytes
    refine ⟨fun hdiag => ?_, fun hdiag hal => ?_⟩
    · rw [hrecv]
      unfold takeData
      rw [hcopied, if_pos hdiag]
      rfl
    · have hplain : s.copied l d.bytes = s.countLane l .segmentsReceived := by
        unfold State.copied
        rw [hdiag]
        rfl
      rw [hrecv, hplain]
      unfold takeData
      rw [hu, if_neg (not_not.2 hdiag), if_neg hal]
  · have hgood := judgeHeader_segmentBytes (kind := .test) (g := 0) (first := false) (last := false) (field := 0) (seq := q)
      (payload := payload) (by omega) (by omega) nofun fun _ => hlen
    have hdrop := segmentBytes_drop .test 0 false false 0 q payload
    have hrecv : exec (.segmentTaken l (segmentBytes .test 0 false false 0 q payload)) s =
        .next (takeTest l q payload (s.copied l (segmentBytes .test 0 false false 0 q payload))) := by
      rw [exec_segmentTaken, lineSegment_of_taken _ hrx hcd hdl]
      rw [show segmentBytes .test 0 false false 0 q payload = segmentBytes .test 0 false false (0 : Fin 64).val q payload
        from rfl, receiveSegment_good hgood, ← loopCopy_counted]
      unfold segmentGoesOn
      dsimp only
      rw [segmentBytes_drop]
    obtain ⟨rq, ctr, hcopied⟩ := s.lane_copied l (segmentBytes .test 0 false false 0 q payload)
    dsimp only
    rw [hrecv]
    unfold takeTest
    rw [hcopied]
    dsimp only
    split
    · next hdiag =>
      have hplain : s.copied l (segmentBytes .test 0 false false 0 q payload) = s.countLane l .segmentsReceived := by
        unfold State.copied
        rw [hdiag]
        rfl
      rw [hplain, checkTest_eq, hu]
      dsimp only
      rw [testGap_eq]
    · rfl
  · dsimp only
    obtain ⟨q, -, hrecv⟩ := receiveSegment_marker l m S s
    have hlooped := s.isLooped_countLane l .segmentsReceived m hdl
    obtain ⟨rq, ctr, hcopied⟩ := s.lane_copied l (markerBytes m S)
    rw [loopCopy_counted] at hrecv
    rw [exec_segmentTaken, lineSegment_of_taken _ hrx hcd hdl, hrecv]
    have fault : ∀ f c, c.ix ≠ LaneCtr.loopDropped.ix → ∃ t,
        (.next (originFault l f ((s.copied l (markerBytes m S)).countLane l c)) : Host.Outcome State Fault Refusal) = .next t ∧
        (t.lane l).returnQueue = ((s.copied l (markerBytes m S)).lane l).returnQueue ∧
        t.laneCount l .loopDropped = (s.copied l (markerBytes m S)).laneCount l .loopDropped := fun f c hc => by
      obtain ⟨h1, h2⟩ := originFault_lane l f ((s.copied l (markerBytes m S)).countLane l c)
      refine ⟨_, rfl, h1.trans ?_, h2.trans ?_⟩
      · rw [State.lane_countLane_same]
      · unfold State.laneCount
        rw [State.lane_countLane_same]
        exact (raiseCounter_get _ _ _ 1).trans (if_neg hc.symm)
    split
    · next h =>
      rw [if_neg fun e => h.1 (hlooped.1 e), if_neg (not_not.2 h.2), takeValid_eq, hcopied,
        if_neg fun e => hdiag e.2]
      unfold State.markerTaken
      rw [hcopied]
      rfl
    · next h =>
      split
      · exact fault .looped .looped (by decide)
      · next hl =>
        rw [if_pos fun e => h ⟨fun k => hl (hlooped.2 k), e⟩]
        exact fault .crossed .crossed (by decide)

end Sys2Proof.Machine
end

section
/-! The Notification Unit (R175 to R179) and the resets (R162, R173, R180). -/

namespace Sys2Proof.Machine

/- The kernel checks the theorems one after another. -/
set_option Elab.async false

/-! ### Offering, frame by frame (R177, R178) -/

theorem offerUpTo_of_none {s : State} (h : offerOnce s = none) (n : Nat) : offerUpTo n s = s := by
  cases n with
  | zero => rfl
  | succ n =>
    unfold offerUpTo
    rw [h]

theorem offerUpTo_succ {s t : State} (h : offerOnce s = some t) (n : Nat) : offerUpTo (n + 1) s = offerUpTo n t := by
  rw [offerUpTo, h]

theorem mgmtJoin_mgmtOut (f : MgmtFrame) (s : State) : (mgmtJoin f s).mgmtOut = s.mgmtOut ++ [f] := arbitrate_mgmtOut _

theorem takeResend_mgmtOut (s : State) :
    (takeResend s).mgmtOut = s.mgmtOut ++ [⟨notificationFrame s.resendNotes, false⟩] := mgmtJoin_mgmtOut _ _

theorem takeFirstSend_mgmtOut (s : State) :
    (takeFirstSend s).mgmtOut = s.mgmtOut ++ [⟨notificationFrame s.unsentNotes, false⟩] := by
  unfold takeFirstSend
  split
  · exact mgmtJoin_mgmtOut _ _
  · exact mgmtJoin_mgmtOut _ _

/-- Each frame taken fills one of the 8 places. -/
theorem offerOnce_length {s t : State} (h : offerOnce s = some t) :
    s.mgmtOut.length < 8 ∧ t.mgmtOut.length = s.mgmtOut.length + 1 := by
  obtain ⟨hr, rfl | rfl⟩ := offerOnce_cases h
  · exact ⟨s.mgmtRoom_iff.1 hr, by rw [takeResend_mgmtOut, List.length_append, List.length_singleton]⟩
  · exact ⟨s.mgmtRoom_iff.1 hr, by rw [takeFirstSend_mgmtOut, List.length_append, List.length_singleton]⟩

/-- The offers end with the places of the output queue, so the bound of the model's recursion cuts none. -/
theorem offerUpTo_enough {s : State} {n m : Nat} (hn : 8 ≤ s.mgmtOut.length + n) (hm : 8 ≤ s.mgmtOut.length + m) :
    offerUpTo n s = offerUpTo m s := by
  induction n generalizing s m with
  | zero =>
    cases h : offerOnce s with
    | none => rw [offerUpTo_of_none h, offerUpTo_of_none h]
    | some t => exact absurd (offerOnce_length h).1 (by omega)
  | succ n ih =>
    cases h : offerOnce s with
    | none => rw [offerUpTo_of_none h, offerUpTo_of_none h]
    | some t =>
      obtain ⟨hlt, hlen⟩ := offerOnce_length h
      obtain ⟨m, rfl⟩ := Nat.exists_eq_succ_of_ne_zero (n := m) (by omega)
      rw [offerUpTo_succ h, offerUpTo_succ h]
      exact ih (by omega) (by omega)

theorem offerNotes_of_none {s : State} (h : offerOnce s = none) : offerNotes s = s := offerUpTo_of_none h _

theorem offerNotes_of_some {s t : State} (h : offerOnce s = some t) : offerNotes s = offerNotes t :=
  have hlen := offerOnce_length h
  (offerUpTo_succ h 7).trans (offerUpTo_enough (by omega) (by rw [Config.mgmtOutMax]; omega))

/-- With a frame in its output queue, management is the arbiter's next choice (R75). -/
theorem mgmtJoin_eq (f : MgmtFrame) (s : State) :
    mgmtJoin f s =
      { s with
        mgmtOut := s.mgmtOut ++ [f]
        egressBusy := if s.egressBusy.isSome || s.egressPause then s.egressBusy else some .management } := by
  unfold mgmtJoin arbitrate
  dsimp only
  split
  · rfl
  · rw [if_pos (by simp)]

theorem startRetry_mgmtJoin (f : MgmtFrame) (s : State) : startRetry (mgmtJoin f s) = mgmtJoin f (startRetry s) := by
  rw [mgmtJoin_eq, mgmtJoin_eq]
  rfl

/-- The records of `notes` not sent. -/
def unsentOf (notes : List Note) : List Note := notes.filter fun r => !r.sent

theorem markSent_zero (notes : List Note) : markSent 0 notes = notes := by rw [markSent]

/-- The first `n` unsent records are those of an initial part with no more of them, and those after it. -/
theorem markSent_append {first rest : List Note} {n : Nat} (h : (unsentOf first).length ≤ n) :
    markSent n (first ++ rest) =
      (first.map fun r => { r with sent := true }) ++ markSent (n - (unsentOf first).length) rest := by
  induction first generalizing n with
  | nil => rfl
  | cons r first ih =>
    by_cases hr : r.sent = true
    · have hu : unsentOf (r :: first) = unsentOf first := List.filter_cons_of_neg (by simp [hr])
      have hsame : ({ r with sent := true } : Note) = r := by rw [← hr]
      rw [hu] at h ⊢
      rw [List.map_cons, hsame, List.cons_append, List.cons_append, ← ih h]
      cases n with
      | zero => rw [markSent_zero, markSent_zero]
      | succ n => exact if_pos hr
    · have hu : unsentOf (r :: first) = r :: unsentOf first := List.filter_cons_of_pos (by simp [hr])
      rw [hu, List.length_cons] at h ⊢
      obtain ⟨n, rfl⟩ := Nat.exists_eq_succ_of_ne_zero (n := n) (by omega)
      rw [List.map_cons, List.cons_append, List.cons_append, Nat.succ_sub_succ, ← ih (by omega)]
      exact if_neg hr

theorem markSent_of_unsent_nil {notes : List Note} (n : Nat) (h : unsentOf notes = []) : markSent n notes = notes := by
  induction notes with
  | nil => cases n <;> simp only [markSent]
  | cons r notes ih =>
    have hr : r.sent = true := by
      have := List.filter_eq_nil_iff.1 h r List.mem_cons_self
      simpa using this
    cases n with
    | zero => exact markSent_zero _
    | succ n =>
      have hu : unsentOf (r :: notes) = unsentOf notes := List.filter_cons_of_neg (by simp [hr])
      exact (if_pos hr).trans (congrArg (r :: ·) (ih (hu.symm.trans h)))

theorem offerOnce_of_full {s : State} (h : 8 ≤ s.mgmtOut.length) : offerOnce s = none :=
  if_pos (by rw [Bool.not_eq_true', ← Bool.not_eq_true, s.mgmtRoom_iff]; omega)

section
variable {s : State} (hroom : s.mgmtOut.length < 8)
include hroom

theorem offerOnce_of_resend (hp : s.resendPending = true) (h : s.resendNotes ≠ []) :
    offerOnce s = some (takeResend s) := by
  unfold offerOnce
  rw [s.mgmtRoom_iff.2 hroom, hp, List.isEmpty_eq_false_iff.2 h]
  rfl

/-- Without a resend to send, the unsent records are next. -/
theorem offerOnce_of_no_resend (h : s.resendPending = false ∨ s.resendNotes = []) :
    offerOnce s = if s.unsentNotes = [] then none else some (takeFirstSend s) := by
  have hno : (s.resendPending && !s.resendNotes.isEmpty) = false := by
    rcases h with h | h
    · rw [h, Bool.false_and]
    · rw [h, List.isEmpty_nil, Bool.not_true, Bool.and_false]
  unfold offerOnce
  rw [s.mgmtRoom_iff.2 hroom, hno]
  by_cases hu : s.unsentNotes = []
  · rw [if_pos hu, hu]
    rfl
  · rw [if_neg hu, List.isEmpty_eq_false_iff.2 hu]
    rfl
end

/-- A first-send frame is of `first`, the oldest records as far as they fill the frame or the queue. -/
theorem takeFirstSend_eq {s : State} {first rest : List Note} (hnotes : s.notes = first ++ rest)
    (hle : (unsentOf first).length ≤ 8) (hall : (unsentOf first).length = 8 ∨ unsentOf rest = []) :
    s.unsentNotes = unsentOf first ∧
      markSent 8 s.notes = (first.map fun r => { r with sent := true }) ++ rest := by
  have hun : unsentOf s.notes = unsentOf first ++ unsentOf rest := by
    rw [hnotes]
    exact List.filter_append _ _
  constructor
  · change (unsentOf s.notes).take 8 = _
    rw [hun]
    rcases hall with h8 | hrest
    · exact List.take_left' h8
    · rw [hrest, List.append_nil]
      exact List.take_of_length_le hle
  · rw [hnotes, markSent_append hle]
    rcases hall with h8 | hrest
    · rw [h8, Nat.sub_self, markSent_zero]
    · rw [markSent_of_unsent_nil _ hrest]

/-- Settles O57: the frames offered one by one, and the retry timer's expiry. -/
theorem notificationFramesOffered : Obligations.NotificationFramesOffered := by
  intro s
  dsimp only
  simp only [exec_notificationOffer, exec_retryExpiry, Host.Outcome.next.injEq]
  refine ⟨fun h => ?_, fun hroom hpend hsent => ?_, fun first rest hroom hpend hnotes hne hle hall => ?_, fun h => ?_,
    fun e h => ?_⟩
  · apply offerNotes_of_none
    by_cases hfull : 8 ≤ s.mgmtOut.length
    · exact offerOnce_of_full hfull
    · obtain ⟨hun, hre⟩ := h.resolve_left hfull
      rw [offerOnce_of_no_resend (Nat.lt_of_not_le hfull) hre, if_pos]
      unfold State.unsentNotes
      rw [hun, List.take_nil]
  · rw [offerNotes_of_some (offerOnce_of_resend hroom hpend hsent)]
    unfold takeResend
    rw [startRetry_mgmtJoin]
    rfl
  · obtain ⟨htake, hmark⟩ := takeFirstSend_eq hnotes hle hall
    have hsome : offerOnce s = some (takeFirstSend s) :=
      (offerOnce_of_no_resend hroom hpend).trans (if_neg (htake ▸ hne))
    rw [offerNotes_of_some hsome]
    unfold takeFirstSend
    dsimp only
    rw [htake, startRetry_mgmtJoin, show Config.notesPerFrame = 8 from rfl, hmark]
    by_cases hr : s.retry = none ∧ s.resendPending = false
    · rw [if_pos (by simp [hr]), if_pos hr]
      rfl
    · rw [if_neg (by simpa using hr), if_neg hr]
      rfl
  · rw [retryExpires, h]
  · rw [retryExpires, h]
    rfl

/-! ### Posts (R175, R176) -/

/-- A record as it was queued. -/
def Note.queued (r : Note) : Note := { r with sent := false }

/-- The same records, tally and counts of posts: what an offer leaves of the queue. -/
structure SameRecords (s t : State) : Prop where
  notes : t.notes.map Note.queued = s.notes.map Note.queued
  next : t.nextNote = s.nextNote
  tally : t.tally = s.tally
  posted : t.devCount .notificationsPosted = s.devCount .notificationsPosted
  lost : t.devCount .notificationsLost = s.devCount .notificationsLost
  acknowledged : t.devCount .recordsAcknowledged = s.devCount .recordsAcknowledged

theorem SameRecords.refl (s : State) : SameRecords s s := ⟨rfl, rfl, rfl, rfl, rfl, rfl⟩

theorem SameRecords.trans {s t u : State} (h : SameRecords s t) (k : SameRecords t u) : SameRecords s u :=
  ⟨k.notes.trans h.notes, k.next.trans h.next, k.tally.trans h.tally, k.posted.trans h.posted, k.lost.trans h.lost,
    k.acknowledged.trans h.acknowledged⟩

theorem markSent_queued (n : Nat) (notes : List Note) : (markSent n notes).map Note.queued = notes.map Note.queued := by
  induction n, notes using markSent.induct with
  | case1 notes => rw [markSent_zero]
  | case2 n => simp only [markSent]
  | case3 n r rest hr ih => rw [markSent, if_pos hr, List.map_cons, List.map_cons, ih]
  | case4 n r rest hr ih =>
    rw [markSent, if_neg hr, List.map_cons, List.map_cons, ih]
    rfl

theorem SameRecords.countDev (s : State) (c : DevCtr) (n : Nat) (hp : c ≠ .notificationsPosted)
    (hl : c ≠ .notificationsLost) (ha : c ≠ .recordsAcknowledged) : SameRecords s (s.countDev c n) where
  notes := rfl
  next := rfl
  tally := rfl
  posted := by rw [State.devCount_countDev, if_neg hp.symm]
  lost := by rw [State.devCount_countDev, if_neg hl.symm]
  acknowledged := by rw [State.devCount_countDev, if_neg ha.symm]

theorem SameRecords.startRetry (s : State) : SameRecords s (startRetry s) :=
  ⟨rfl, rfl, rfl, rfl, rfl, rfl⟩

theorem SameRecords.mgmtJoin (f : MgmtFrame) (s : State) : SameRecords s (mgmtJoin f s) := by
  rw [mgmtJoin_eq]
  exact ⟨rfl, rfl, rfl, rfl, rfl, rfl⟩

theorem SameRecords.offerOnce {s t : State} (h : offerOnce s = some t) : SameRecords s t := by
  obtain ⟨-, rfl | rfl⟩ := offerOnce_cases h
  · have hclear : SameRecords s { s with resendPending := false } := ⟨rfl, rfl, rfl, rfl, rfl, rfl⟩
    exact (((hclear.trans (.countDev _ .resendFramesQueued 1 nofun nofun nofun)).trans
      (.countDev _ .recordsResent _ nofun nofun nofun)).trans (.mgmtJoin _ _)).trans (.startRetry _)
  · have hmark : SameRecords s { s with notes := markSent Config.notesPerFrame s.notes } :=
      ⟨markSent_queued _ _, rfl, rfl, rfl, rfl, rfl⟩
    have hjoin := (hmark.trans (.countDev _ .notificationFramesQueued 1 nofun nofun nofun)).trans
      (.mgmtJoin ⟨notificationFrame s.unsentNotes, false⟩ _)
    unfold takeFirstSend
    dsimp only
    split
    · exact hjoin.trans (.startRetry _)
    · exact hjoin

theorem SameRecords.offerUpTo (n : Nat) (s : State) : SameRecords s (offerUpTo n s) := by
  induction n generalizing s with
  | zero => exact .refl s
  | succ n ih =>
    cases h : Machine.offerOnce s with
    | none =>
      rw [offerUpTo_of_none h]
      exact .refl s
    | some t => exact offerUpTo_succ h n ▸ (SameRecords.offerOnce h).trans (ih t)

theorem SameRecords.offerNotes (s : State) : SameRecords s (offerNotes s) := .offerUpTo _ s

/-- What a record that is queued changes. -/
theorem queueNote_records (b : NoteBody) (s : State) :
    (queueNote b s).notes = s.notes ++ [⟨s.nextNote, b, s.timebase, false⟩] ∧
      (queueNote b s).nextNote = s.nextNote + 1 ∧ (queueNote b s).tally = s.tally ∧
      (queueNote b s).devCount .notificationsPosted = s.devCount .notificationsPosted + 1 ∧
      (queueNote b s).devCount .notificationsLost = s.devCount .notificationsLost := by
  refine ⟨rfl, rfl, rfl, ?_, ?_⟩
  · rw [queueNote, State.devCount_countDev, if_pos rfl]
    rfl
  · rw [queueNote, State.devCount_countDev, if_neg nofun]
    rfl

theorem queueOverflow_records (s : State) :
    (queueOverflow s).notes = s.notes ++ [⟨s.nextNote, .overflow s.tally, s.timebase, false⟩] ∧
      (queueOverflow s).nextNote = s.nextNote + 1 ∧ (queueOverflow s).tally = 0 ∧
      (queueOverflow s).devCount .notificationsPosted = s.devCount .notificationsPosted + 1 ∧
      (queueOverflow s).devCount .notificationsLost = s.devCount .notificationsLost := by
  obtain ⟨hnotes, hnext, -, hposted, hlost⟩ := queueNote_records (.overflow s.tally) s
  exact ⟨hnotes, hnext, rfl, hposted, hlost⟩

theorem loseNote_records (s : State) :
    (loseNote s).devCount .notificationsPosted = s.devCount .notificationsPosted ∧
      (loseNote s).devCount .notificationsLost = s.devCount .notificationsLost + 1 := by
  unfold loseNote
  rw [State.devCount_countDev, State.devCount_countDev, if_neg nofun, if_pos rfl]
  exact ⟨rfl, rfl⟩

/-- Settles O55: the rows of a post. -/
theorem postsHandled : Obligations.PostsHandled := by
  intro s b
  dsimp only
  refine ⟨post_notesOnly b s, ?_⟩
  by_cases hfull : 32 ≤ s.notes.length
  · rw [if_pos hfull, post, if_pos (by rw [Bool.not_eq_true', ← Bool.not_eq_true, s.noteRoom_iff]; omega)]
    rfl
  rw [if_neg hfull]
  have hroom : s.noteRoom = true := s.noteRoom_iff.2 (Nat.lt_of_not_le hfull)
  by_cases htally : s.tally = 0
  · have hp : post b s = offerNotes (queueNote b s) := by
      rw [post, hroom, if_neg (by simp), if_pos htally]
    obtain ⟨hnotes, hnext, hsame, hposted, hlost⟩ := queueNote_records b s
    have hoff := SameRecords.offerNotes (queueNote b s)
    rw [if_pos htally, hp]
    refine ⟨hoff.notes.trans ?_, hoff.next.trans hnext, hoff.tally.trans (hsame.trans htally),
      hoff.posted.trans hposted, hoff.lost.trans hlost⟩
    rw [hnotes, List.map_append]
    rfl
  rw [if_neg htally]
  obtain ⟨hnotes, hnext, hzero, hposted, hlost⟩ := queueOverflow_records s
  have hlen : (queueOverflow s).notes.length = s.notes.length + 1 := by rw [hnotes, List.length_append]; rfl
  have hp : post b s = offerNotes (if (queueOverflow s).noteRoom then queueNote b (queueOverflow s)
      else loseNote (queueOverflow s)) := by
    rw [post, hroom, if_neg (by simp), if_neg htally]
  by_cases hone : s.notes.length = 31
  · rw [if_neg (by rw [(queueOverflow s).noteRoom_iff]; omega)] at hp
    obtain ⟨hposted', hlost'⟩ := loseNote_records (queueOverflow s)
    have hoff := SameRecords.offerNotes (loseNote (queueOverflow s))
    rw [if_pos hone, hp]
    refine ⟨hoff.notes.trans ?_, hoff.next.trans hnext, hoff.tally.trans ?_, hoff.posted.trans (hposted'.trans hposted),
      hoff.lost.trans (hlost'.trans (congrArg (· + 1) hlost))⟩
    · change (queueOverflow s).notes.map Note.queued = _
      rw [hnotes, List.map_append]
      rfl
    · change min ((queueOverflow s).tally + 1) 4294967295 = 1
      rw [hzero]
      rfl
  · rw [if_pos ((queueOverflow s).noteRoom_iff.2 (by omega))] at hp
    obtain ⟨hnotes', hnext', htally', hposted', hlost'⟩ := queueNote_records b (queueOverflow s)
    have hoff := SameRecords.offerNotes (queueNote b (queueOverflow s))
    rw [if_neg hone, hp]
    refine ⟨hoff.notes.trans ?_, hoff.next.trans ?_, hoff.tally.trans (htally'.trans hzero), hoff.posted.trans ?_,
      hoff.lost.trans (hlost'.trans hlost)⟩
    · rw [hnotes', hnotes, hnext, List.append_assoc, List.map_append]
      rfl
    · rw [hnext', hnext, BitVec.add_assoc]
      rfl
    · rw [hposted', hposted, BitVec.add_assoc]
      rfl

/-! ### NOTIFY-ACK (R179) -/

/-- Where a property once reached lasts, dropping what comes before it is filtering. -/
theorem dropWhile_eq_filter {α : Type} {p : α → Bool} {l : List α} (h : l.Pairwise fun a b => p a = true → p b = true) :
    l.dropWhile (fun a => !p a) = l.filter p := by
  induction l with
  | nil => rfl
  | cons a l ih =>
    obtain ⟨ha, hl⟩ := List.pairwise_cons.1 h
    by_cases hp : p a = true
    · rw [List.dropWhile_cons_of_neg (by simp [hp]), List.filter_cons_of_pos hp, List.filter_eq_self.2 fun b hb => ha b hb hp]
    · rw [List.dropWhile_cons_of_pos (by simpa using hp), List.filter_cons_of_neg hp, ih hl]

theorem consecutive_seq_of_mem {next : BitVec 32} {notes : List Note} (h : consecutive next notes) {r : Note}
    (hr : r ∈ notes) : ∃ k < notes.length, r.seq = next - BitVec.ofNat 32 (k + 1) := by
  induction notes with
  | nil => cases hr
  | cons a rest ih =>
    obtain ⟨ha, hrest⟩ := h
    rcases List.mem_cons.1 hr with rfl | hr
    · exact ⟨rest.length, Nat.lt_succ_self _, ha⟩
    · obtain ⟨k, hk, e⟩ := ih hrest hr
      exact ⟨k, Nat.lt_succ_of_lt hk, e⟩

/-- The record of sequence `next - (k + 1)` stays after NOTIFY-ACK `n`, at distance `m` behind the newest. -/
theorem stays_iff {next n : BitVec 32} {k : Nat} (hk : k < 32)
    (hn : ¬(1 ≤ dist (next - 1) n ∧ dist (next - 1) n < 2147483648)) (hhalf : dist (next - 1) n ≠ 2147483648) :
    (1 ≤ dist n (next - BitVec.ofNat 32 (k + 1)) ∧ dist n (next - BitVec.ofNat 32 (k + 1)) < 2147483648) ↔
      k < dist n (next - 1) := by
  unfold dist at *
  simp only [BitVec.toNat_sub, BitVec.toNat_ofNat, BitVec.ofNat_eq_ofNat] at *
  omega

/-- The records ahead of `n` are the newest ones. -/
theorem ahead_pairwise {next n : BitVec 32} {notes : List Note} (h : consecutive next notes) (hl : notes.length ≤ 32)
    (hn : ¬(1 ≤ dist (next - 1) n ∧ dist (next - 1) n < 2147483648)) (hhalf : dist (next - 1) n ≠ 2147483648) :
    notes.Pairwise fun a b => decide (1 ≤ dist n a.seq ∧ dist n a.seq < 2147483648) = true →
      decide (1 ≤ dist n b.seq ∧ dist n b.seq < 2147483648) = true := by
  induction notes with
  | nil => exact .nil
  | cons a rest ih =>
    obtain ⟨ha, hrest⟩ := h
    rw [List.length_cons] at hl
    refine List.pairwise_cons.2 ⟨fun b hb hpa => ?_, ih hrest (by omega)⟩
    obtain ⟨k, hk, e⟩ := consecutive_seq_of_mem hrest hb
    rw [decide_eq_true_iff, ha, stays_iff (by omega) hn hhalf] at hpa
    rw [decide_eq_true_iff, e, stays_iff (by omega) hn hhalf]
    omega

/-- The records left by NOTIFY-ACK `n`: those ahead of it. -/
def State.keptNotes (s : State) (n : BitVec 32) : List Note :=
  s.notes.filter fun r => decide (1 ≤ dist n r.seq ∧ dist n r.seq < 2147483648)

/-- NOTIFY-ACK `n` but for the OVERFLOW record of a tally: the records, their count and the retry timer. -/
def State.acked (s : State) (n : BitVec 32) : State :=
  { s.countDev .recordsAcknowledged (s.notes.length - (s.keptNotes n).length) with
    notes := s.keptNotes n
    resendPending := ((s.keptNotes n).any fun r => r.sent) && s.resendPending
    retry :=
      if !((s.keptNotes n).any fun r => r.sent) then none
      else if 0 < s.notes.length - (s.keptNotes n).length ∧ s.resendPending = false then
        some (s.timebase + BitVec.ofNat 32 (1000 * s.dev.retryInterval))
      else s.retry }

section
variable {s : State} {n : BitVec 32} (hl : s.NotesLawful)
  (hn : ¬(1 ≤ dist s.newestNote n ∧ dist s.newestNote n < 2147483648)) (hhalf : dist s.newestNote n ≠ 2147483648)
include hl hn hhalf

theorem dropWhile_eq_keptNotes : (s.notes.dropWhile fun r => !aheadOf r.seq n) = s.keptNotes n := by
  obtain ⟨hlen, hcons, -⟩ := hl
  have hahead : ∀ r : Note, aheadOf r.seq n = decide (1 ≤ dist n r.seq ∧ dist n r.seq < 2147483648) := fun r =>
    (Bool.decide_and _ _).symm
  unfold State.keptNotes
  rw [← dropWhile_eq_filter (ahead_pairwise hcons hlen hn hhalf)]
  exact congrArg (fun p => s.notes.dropWhile p) (funext fun r => congrArg (! ·) (hahead r))

theorem acknowledge_eq : acknowledge n s =
    if s.tally = 0 ∨ s.notes.length - (s.keptNotes n).length = 0 then s.acked n
    else offerNotes (queueOverflow (s.acked n)) := by
  unfold acknowledge
  dsimp only
  rw [dropWhile_eq_keptNotes hl hn hhalf]
  have hacked : (if (!(s.keptNotes n).any fun r => r.sent) = true then
      { ({ s with notes := s.keptNotes n } : State).countDev .recordsAcknowledged
          (s.notes.length - (s.keptNotes n).length) with retry := none, resendPending := false }
      else if (decide (0 < s.notes.length - (s.keptNotes n).length) && !s.resendPending) = true then
        startRetry (({ s with notes := s.keptNotes n } : State).countDev .recordsAcknowledged
          (s.notes.length - (s.keptNotes n).length))
      else ({ s with notes := s.keptNotes n } : State).countDev .recordsAcknowledged
          (s.notes.length - (s.keptNotes n).length)) = s.acked n := by
    unfold State.acked
    cases hsent : (s.keptNotes n).any fun r => r.sent with
    | false => rfl
    | true =>
      by_cases hr : 0 < s.notes.length - (s.keptNotes n).length ∧ s.resendPending = false
      · rw [if_neg (by simp), if_pos (by simpa using hr), if_neg (by simp), if_pos hr]
        rfl
      · rw [if_neg (by simp), if_neg (by simpa using hr), if_neg (by simp), if_neg hr]
        rfl
  rw [hacked]
  by_cases h : s.tally = 0 ∨ s.notes.length - (s.keptNotes n).length = 0
  · rw [if_pos h, if_neg]
    rw [Bool.and_eq_true, decide_eq_true_iff, decide_eq_true_iff]
    omega
  · rw [if_neg h, if_pos]
    · rw [Bool.and_eq_true, decide_eq_true_iff, decide_eq_true_iff]
      omega
end

theorem NotesOnly.answered {s t : State} (h : NotesOnly s t) (code : Byte) (c : ResultCode) (data : List Byte) :
    NotesOnly (s.answered code c data) (t.answered code c data) := by
  obtain ⟨e, hctr, hout, hbusy⟩ := h
  refine ⟨?_, hctr, hout, hbusy⟩
  exact congrArg (fun x : State => x.answered code c data) e

/-- Settles O56: NOTIFY-ACK. -/
theorem recordsAcknowledged : Obligations.RecordsAcknowledged := by
  intro s o n hadm hl
  dsimp only
  have hrun : ∀ c p, reqNotifyAck n s = ⟨c, [], p⟩ → exec (.notifyAck o n) s = .next (p.answered 0x0F c []) :=
    fun c p h => congrArg Host.Outcome.next (entryRow_reply (r := .notifyAck n) hadm h)
  have hahead : aheadOf n s.newestNote = true ↔ 1 ≤ dist s.newestNote n ∧ dist s.newestNote n < 2147483648 := by
    rw [aheadOf, Bool.and_eq_true, decide_eq_true_iff, decide_eq_true_iff]
    rfl
  by_cases hn : 1 ≤ dist s.newestNote n ∧ dist s.newestNote n < 2147483648
  · rw [if_pos hn]
    exact hrun _ _ (if_pos (hahead.2 hn))
  rw [if_neg hn]
  intro hhalf
  have hexec := hrun _ _ (if_neg fun h => hn (hahead.1 h))
  rw [acknowledge_eq hl hn hhalf] at hexec
  change if s.tally = 0 ∨ s.notes.length - (s.keptNotes n).length = 0 then _ else _
  by_cases h : s.tally = 0 ∨ s.notes.length - (s.keptNotes n).length = 0
  · rw [if_pos h] at hexec ⊢
    exact hexec
  · rw [if_neg h] at hexec ⊢
    obtain ⟨hnotes, hnext, hzero, hposted, hlost⟩ := queueOverflow_records (s.acked n)
    have hoff := SameRecords.offerNotes (queueOverflow (s.acked n))
    have hack : (s.acked n).devCount .recordsAcknowledged =
        s.devCount .recordsAcknowledged + BitVec.ofNat 32 (s.notes.length - (s.keptNotes n).length) :=
      (s.devCount_countDev .recordsAcknowledged .recordsAcknowledged _).trans (if_pos rfl)
    have hother : ∀ c, c ≠ .recordsAcknowledged → (s.acked n).devCount c = s.devCount c := fun c hc =>
      (s.devCount_countDev .recordsAcknowledged c _).trans (if_neg hc)
    refine ⟨_, hexec, ((queueOverflow_notesOnly _).trans (offerNotes_notesOnly _)).answered _ _ _, ?_, hoff.next.trans hnext,
      hoff.tally.trans hzero, ?_, hoff.posted.trans (hposted.trans (congrArg (· + 1) (hother _ nofun))),
      hoff.lost.trans (hlost.trans (hother _ nofun))⟩
    · refine hoff.notes.trans ?_
      rw [hnotes, List.map_append]
      rfl
    · refine hoff.acknowledged.trans (Eq.trans ?_ hack)
      rw [queueOverflow, queueNote]
      exact (State.devCount_countDev _ _ _ _).trans (if_neg nofun)

end Sys2Proof.Machine
end

section
/-! The resets (R162, R173, R180), and the Management Engine's responses (R149, R151, R153). -/

namespace Sys2Proof.Machine

/- The kernel checks the theorems one after another. -/
set_option Elab.async false

/-! ### The resets (R173, R180) -/

/-- The part of O59 whose reset has ended: RESET-DONE is its one record, offered as a frame. -/
def State.freshlyReset (s : State) (cause : ResetCause) : State :=
  { s.afresh cause false with
    notes := [⟨1, .resetDone cause, 0, true⟩]
    nextNote := 2
    mgmtOut := [⟨[3, 0, 0, 0, 0, 1, 0, 0, 0, 0, 0, 1, 1, 0, 0, 0, 0, 0, 0, byte cause.code, 0, 0, 0, 0], false⟩]
    egressBusy := if s.egressPause then none else some .management
    retry := some 200000
    devCtr := (State.held.devCtr.set 15 1).set 17 1 }

theorem resetDone_frame (cause : ResetCause) : notificationFrame [⟨1, .resetDone cause, 0, false⟩] =
    [3, 0, 0, 0, 0, 1, 0, 0, 0, 0, 0, 1, 1, 0, 0, 0, 0, 0, 0, byte cause.code, 0, 0, 0, 0] := by
  cases cause <;> rfl

theorem takeFirstSend_resetDone (cause : ResetCause) (s : State) :
    takeFirstSend (queueNote (.resetDone cause) (s.afresh cause false)) = s.freshlyReset cause := by
  have hunsent : (queueNote (.resetDone cause) (s.afresh cause false)).unsentNotes = [⟨1, .resetDone cause, 0, false⟩] := rfl
  unfold takeFirstSend
  rw [hunsent, resetDone_frame]
  refine (if_pos rfl).trans ?_
  rw [mgmtJoin_eq]
  have hbusy : (if (none : Option EgressSource).isSome || s.egressPause then none else some EgressSource.management) =
      if s.egressPause then none else some .management := rfl
  have hctr : raiseCounter (raiseCounter State.held.devCtr DevCtr.notificationsPosted.ix 1)
      DevCtr.notificationFramesQueued.ix 1 = (State.held.devCtr.set 15 1).set 17 1 := by decide
  have hretry : (0 : Time) + BitVec.ofNat 32 (1000 * 200) = 200000 := by decide
  unfold State.freshlyReset
  rw [← hctr, ← hbusy, ← hretry]
  rfl

theorem endReset_eq (cause : ResetCause) (s : State) : endReset cause s = s.freshlyReset cause := by
  have hw : post (.resetDone cause) (s.afresh cause false) =
      offerNotes (queueNote (.resetDone cause) (s.afresh cause false)) := rfl
  have hsome : offerOnce (queueNote (.resetDone cause) (s.afresh cause false)) =
      some (takeFirstSend (queueNote (.resetDone cause) (s.afresh cause false))) := rfl
  have hnone : offerOnce (s.freshlyReset cause) = none := rfl
  rw [takeFirstSend_resetDone] at hsome
  exact hw.trans ((offerNotes_of_some hsome).trans (offerNotes_of_none hnone))

/-- Settles O59: the two resets, from any state. -/
theorem resetsTakeEffect : Obligations.ResetsTakeEffect := by
  intro s
  dsimp only
  refine ⟨rfl, ?_, ?_, fun h => ?_⟩
  · rw [exec_resetInputRelease, endReset_eq]
    rfl
  · rw [exec_deviceResetEffect, endReset_eq]
    rfl
  · rw [exec_egressTransmissionEnd, egressEnds_of_resetResponse h, endReset_eq]
    rfl

/-! ### Admissions (R95, R97, R104) -/

/-- An admission, with the store and the counters in the order of the rules. -/
theorem admitFrame_eq (g : GroupIx) (c : Cls) (x : StreamIx) (payload : List Byte) (s : State) :
    admitFrame g c x payload s = judgeHold g
      (((((({ s with
          storeFree := s.storeFree - (payload.length + 4)
          storeLow := min s.storeLow (s.storeFree - (payload.length + 4)) } : State).modGroup g fun y =>
        y.push c ⟨x, payload ++ be 4 (frameCheck x payload).toNat⟩).countStream x .ingressFrames).countStream x
          .ingressBytes payload.length).countGroup g .framesAdmitted).countGroup g .bytesAdmitted payload.length) := by
  have hlen : ((payload ++ be 4 (frameCheck x payload).toNat).length) = payload.length + 4 := bonded_length x payload
  unfold admitFrame enqueueTx
  dsimp only
  rw [hlen]
  cases c <;> rfl

/-- The answers to an offer, by the conditions of R104. -/
theorem judgeOffer_of_none {s : State} (h : s.dev.mgmtGroup = none) (n : Nat) : s.judgeOffer n = .discarded := by
  rw [State.judgeOffer, h]

section
variable {s : State} {g : GroupIx} {n : Nat} (hg : s.dev.mgmtGroup = some g)
include hg

theorem judgeOffer_of_not_up (h : (s.group g).tx ≠ .up) : s.judgeOffer n = .discarded := by
  rw [State.judgeOffer, hg]
  exact if_pos h

theorem judgeOffer_of_no_room (hup : (s.group g).tx = .up) (h : 32 ≤ (s.group g).high.length ∨ s.storeFree < n + 4) :
    s.judgeOffer n = .refused := by
  rw [State.judgeOffer, hg]
  refine (if_neg (not_not.2 hup)).trans (if_pos (h.imp id fun hs => ?_))
  rw [State.storeRoom, Bool.not_eq_true', decide_eq_false_iff_not]
  omega

theorem judgeOffer_of_room (hup : (s.group g).tx = .up) (h : ¬(32 ≤ (s.group g).high.length ∨ s.storeFree < n + 4)) :
    s.judgeOffer n = .taken g := by
  rw [State.judgeOffer, hg]
  refine (if_neg (not_not.2 hup)).trans (if_neg fun k => h (k.imp id fun hs => ?_))
  rw [State.storeRoom, Bool.not_eq_true', decide_eq_false_iff_not] at hs
  omega
end

/-! ### Responses (R149, R153) -/

theorem offerResponse_local (bytes : List Byte) (reset : Bool) (s : State) :
    offerResponse ⟨.localSide, bytes, reset⟩ s =
      if s.mgmtOut.length < 8 then
        arbitrate { s.countDev .responsesSent with
          engine := if reset then .resetting else .idle, mgmtOut := s.mgmtOut ++ [⟨bytes, reset⟩] }
      else { s with engine := .waiting ⟨.localSide, bytes, reset⟩ } :=
  if_congr s.mgmtRoom_iff rfl rfl

/-- An engine that waits with a response and offers it in vain is as it was. -/
theorem State.waiting_self {s : State} {r : Response} (h : s.engine = .waiting r) : { s with engine := .waiting r } = s := by
  rw [← h]

/-- Settles O50: the WAITING engine offers its response again. -/
theorem responsesReoffered : Obligations.ResponsesReoffered := by
  intro s
  have hexec : exec .responseReoffer s = .next (reoffer s) := rfl
  refine ⟨fun h => ?_, fun o bytes reset hw => ?_⟩
  · rw [hexec, reoffer]
    split
    · next r hr => exact absurd hr (h r)
    · rfl
  have hre : reoffer s = offerResponse ⟨o, bytes, reset⟩ s := by rw [reoffer, hw]
  rw [hexec, hre]
  cases o with
  | localSide =>
    rw [offerResponse_local]
    dsimp only
    split
    · rfl
    · rw [State.waiting_self hw]
  | remoteSide =>
    dsimp only
    have hdisc : s.judgeOffer bytes.length = .discarded →
        offerResponse ⟨.remoteSide, bytes, reset⟩ s = ({ s with engine := .idle } : State).countDev .responsesDiscarded :=
      fun h => by
        unfold offerResponse
        dsimp only
        rw [h]
    cases hg : s.dev.mgmtGroup with
    | none => exact congrArg Host.Outcome.next (hdisc (judgeOffer_of_none hg _))
    | some g =>
      dsimp only
      by_cases hup : (s.group g).tx = .up
      · rw [if_neg (not_not.2 hup)]
        by_cases hroom : 32 ≤ (s.group g).high.length ∨ s.storeFree < bytes.length + 4
        · rw [if_pos hroom]
          unfold offerResponse
          dsimp only
          rw [judgeOffer_of_no_room hg hup hroom]
          exact congrArg Host.Outcome.next (State.waiting_self hw)
        · rw [if_neg hroom]
          unfold offerResponse
          dsimp only
          rw [judgeOffer_of_room hg hup hroom]
          dsimp only
          rw [admitFrame_eq]
          rfl
      · rw [if_pos hup]
        exact congrArg Host.Outcome.next (hdisc (judgeOffer_of_not_up hg hup))

/-- DEVICE-RESET is never allowed to the remote side (R151). -/
theorem reset_denied (a : RemoteAccess) (clears : Bool) : accessAllows .remoteSide a 0x10 clears = false := by
  cases a
  · rfl
  · cases clears <;> rfl
  · rfl

/-- Settles O58: DEVICE-RESET alone in its frame. -/
theorem deviceResetExecuted : Obligations.DeviceResetExecuted := by
  intro s tag hidle hreset
  have hexec : ∀ o, exec (.deviceReset o tag) s = execDeviceReset o tag s := fun _ => rfl
  have hruns : s.executes = true := by rw [State.executes, hidle, hreset]; rfl
  dsimp only
  refine ⟨?_, ?_⟩
  · have hrow : entryRow .remoteSide 0x10 false (some .deviceReset) s = (s.answered 0x10 .denied []).countDev .deniedEntries := by
      unfold entryRow judgeEntry
      rw [hruns, reset_denied]
      rfl
    rw [hexec, execDeviceReset, hruns, reset_denied, hrow]
    rfl
  · have hadm : s.Admits .localSide 0x10 false := ⟨hidle, hreset, rfl⟩
    rw [hexec, execDeviceReset, hruns, entryRow_reply hadm rfl]
    change Host.Outcome.next (answerReset .localSide tag (s.answered 0x10 .ok [])) = _
    rw [answerReset, offerResponse_local]
    rfl

end Sys2Proof.Machine
end

section
/-! The Management Engine: its entries, its frames and their responses (R147 to R153). -/

namespace Sys2Proof.Machine

/- The kernel checks the theorems one after another. -/
set_option Elab.async false

/-! ### Remote access (R151) -/

theorem accessAllows_remote (access : RemoteAccess) (code : Byte) (clears : Bool) :
    accessAllows .remoteSide access code clears = true ↔
      match access with
      | .none => False
      | .read => code = 0x01 ∨ code = 0x02 ∨ (code = 0x04 ∧ clears = false) ∨ code = 0x05 ∨ code = 0x0E
      | .full => code ≠ 0x10 := by
  cases access with
  | none => exact iff_of_false nofun id
  | read => simp only [accessAllows, Bool.or_eq_true, Bool.and_eq_true, decide_eq_true_iff, Bool.not_eq_true', or_assoc]
  | full => exact decide_eq_true_iff

theorem refuse_ne_denied {c : ResultCode} (h : c ≠ .denied) (s : State) : (refuse c s).result ≠ .denied := h

theorem writeSettings_ne_denied (t : TableRef) (items : List (Byte × List Byte)) (s : State) :
    (writeSettings t items s).1 ≠ .denied := by
  unfold writeSettings
  split
  · nofun
  · cases t with
    | device => dsimp only; split <;> nofun
    | lane l => dsimp only; split <;> nofun
    | group g =>
      dsimp only
      split
      · split
        · nofun
        · split <;> nofun
      · nofun
    | stream x => dsimp only; split <;> nofun

/-- A request that runs is allowed: none answers DENIED (R150). -/
theorem Req.run_ne_denied (r : Req) (s : State) : (r.run s).result ≠ .denied := by
  cases r with
  | echo ps => nofun
  | readEntry t i =>
    simp only [Req.run, reqReadEntry]
    split <;> simp [refuse]
  | readCounters t i c =>
    simp only [Req.run, reqReadCounters]
    split <;> simp [refuse]
  | captureRead l =>
    simp only [Req.run, reqCaptureRead]
    split <;> simp [refuse]
  | captureRelease l =>
    simp only [Req.run, reqCaptureRelease]
    split <;> simp [refuse]
  | writeEntry t i items =>
    simp only [Req.run, reqWriteEntry]
    split
    · simp [refuse]
    · split
      · simp [refuse]
      · exact writeSettings_ne_denied _ _ _
  | groupEnable g =>
    simp only [Req.run, reqGroupEnable]
    repeat' split
    all_goals simp [refuse]
  | groupDisable g =>
    simp only [Req.run, reqGroupDisable]
    repeat' split
    all_goals simp [refuse, acceptedReply]
  | groupResync g =>
    simp only [Req.run, reqGroupResync]
    repeat' split
    all_goals simp [refuse]
  | laneAdd g l =>
    simp only [Req.run, reqLaneAdd]
    repeat' split
    all_goals simp [refuse, acceptedReply]
  | laneRemove l =>
    simp only [Req.run, reqLaneRemove]
    repeat' split
    all_goals simp [refuse, acceptedReply]
  | laneService l d =>
    simp only [Req.run, reqLaneService]
    repeat' split
    all_goals simp [refuse]
  | laneDiag l m =>
    simp only [Req.run, reqLaneDiag]
    repeat' split
    all_goals simp [refuse]
  | opQuery t =>
    simp only [Req.run, reqOpQuery]
    repeat' split
    all_goals simp [refuse]
  | notifyAck n =>
    simp only [Req.run, reqNotifyAck]
    split <;> simp [refuse]
  | deviceReset => nofun

theorem judgeEntry_ne_denied {o : Origin} {code : Byte} {clears : Bool} {s : State}
    (h : accessAllows o s.dev.remoteAccess code clears = true) (req : Option Req) (used later : Nat) :
    (judgeEntry o code clears req used later s).result ≠ .denied := by
  unfold judgeEntry
  rw [h]
  cases req with
  | none => exact refuse_ne_denied (by decide) s
  | some r =>
    dsimp only
    rw [if_neg (by simp)]
    split
    · exact r.run_ne_denied s
    · exact refuse_ne_denied (by decide) s

theorem judgeEntry_denied {o : Origin} {code : Byte} {clears : Bool} {s : State}
    (h : accessAllows o s.dev.remoteAccess code clears = false) (req : Option Req) (used later : Nat) :
    judgeEntry o code clears req used later s = ⟨.denied, [], s.countDev .deniedEntries⟩ := by
  unfold judgeEntry
  rw [h]
  rfl

theorem ResultCode.code_byte_ne {c : ResultCode} (h : c ≠ .denied) : byte c.code ≠ 2 := by
  cases c <;> first | exact absurd rfl h | decide

/-! ### The entries of a frame (R149, R150, R152) -/

theorem emptyResult_bytes (code : Byte) (c : ResultCode) :
    (EntryResult.mk code c []).bytes = [code, byte c.code, 0, 0] := by
  rw [EntryResult.bytes, List.length_nil, be_two]
  rfl

section
variable {o : Origin} {stop : Bool} {later : Nat} {code : Byte} {params : List Byte} {r : FrameRun}

theorem runEntry_of_ended (h : r.stopped = true ∨ r.carriesReset = true) :
    runEntry o stop later code params r = { r with built := r.built ++ [code, 9, 0, 0] } := by
  unfold runEntry
  rw [if_pos (by simpa using h), emptyResult_bytes]
  rfl

theorem runEntry_of_not_ended (hs : r.stopped = false) (hr : r.carriesReset = false) :
    runEntry o stop later code params r =
      let a := judgeEntry o code (asksClear params) (parseReq code params) (8 + r.built.length) later r.part
      ⟨a.part, r.built ++ ([code, byte a.result.code] ++ be 2 a.data.length ++ a.data), stop && a.result.isFailure,
        decide (code = 0x10) && decide (a.result = .ok)⟩ := by
  unfold runEntry
  rw [hs, hr]
  rfl

theorem runEntry_access (hs : r.stopped = false) (hr : r.carriesReset = false) :
    (accessAllows o r.part.dev.remoteAccess code (asksClear params) = false →
      runEntry o stop later code params r =
        ⟨r.part.countDev .deniedEntries, r.built ++ [code, 2, 0, 0], stop, false⟩) ∧
    (accessAllows o r.part.dev.remoteAccess code (asksClear params) = true →
      (runEntry o stop later code params r).built[r.built.length + 1]? ≠ some 2) := by
  rw [runEntry_of_not_ended hs hr]
  refine ⟨fun h => ?_, fun h => ?_⟩
  · rw [judgeEntry_denied h, FrameRun.mk.injEq]
    exact ⟨rfl, congrArg (r.built ++ ·) (emptyResult_bytes code .denied), Bool.and_true _, Bool.and_false _⟩
  · dsimp only
    rw [List.getElem?_append_right (Nat.le_add_right _ 1), Nat.add_sub_cancel_left]
    intro h2
    exact ResultCode.code_byte_ne (judgeEntry_ne_denied h _ _ _) (Option.some.inj h2)
end

/-- Settles O48: remote access, entry by entry. -/
theorem remoteAccessJudged : Obligations.RemoteAccessJudged := by
  refine ⟨fun access code clears => ⟨rfl, accessAllows_remote access code clears⟩, fun o stop later code params r hs hr => ?_⟩
  match params with
  | [] => exact runEntry_access (params := []) hs hr
  | [a] => exact runEntry_access (params := [a]) hs hr
  | [a, b] => exact runEntry_access (params := [a, b]) hs hr
  | a :: b :: c :: more => exact runEntry_access (params := a :: b :: c :: more) hs hr

/-! ### Frames (R147 to R149, R153) -/

theorem parseEntries_length : ∀ {n : Nat} {bytes : List Byte} {entries : List (Byte × List Byte)},
    parseEntries n bytes = some entries → entries.length = n
  | 0, _, _, h => by cases h; rfl
  | n + 1, [], _, h => by cases h
  | n + 1, [_], _, h => by cases h
  | n + 1, code :: len :: rest, entries, h => by
    unfold parseEntries at h
    split at h
    · cases h
    · split at h
      · cases h
      · next more hm =>
        cases h
        rw [List.length_cons, parseEntries_length hm]

theorem engineTakes_of_idle {s : State} (h : s.engine ≠ .idle ∨ s.requestQueue = []) : engineTakes s = s := by
  unfold engineTakes
  split
  · next f rest he hq =>
    rcases h with h | h
    · exact absurd he h
    · rw [h] at hq
      cases hq
  · rfl

theorem engineTakes_cons {s : State} {f : RequestFrame} {rest : List RequestFrame} (he : s.engine = .idle)
    (hq : s.requestQueue = f :: rest) : engineTakes s = processFrame f { s with requestQueue := rest } := by
  unfold engineTakes
  rw [he, hq]

theorem frameEntries_of_count {bytes : List Byte} (h1 : 1 ≤ (byteAt bytes 5).toNat) (h2 : (byteAt bytes 5).toNat ≤ 16) :
    frameEntries bytes = parseEntries (byteAt bytes 5).toNat (bytes.drop 8) :=
  if_neg (by omega)

theorem processFrame_malformed {f : RequestFrame} {s : State} (h : frameEntries f.bytes = none) :
    processFrame f s = s.countDev .malformed := by rw [processFrame, h]

theorem processFrame_entries {f : RequestFrame} {s : State} {entries : List (Byte × List Byte)}
    (h : frameEntries f.bytes = some entries) :
    processFrame f s =
      let r := runEntries f.origin (frameStop f.bytes) entries ⟨s, [], false, false⟩
      offerResponse
        ⟨f.origin, responseFrame f.origin (frameTag f.bytes) (frameStop f.bytes) entries.length r.built, r.carriesReset⟩
        (r.part.countDev .framesProcessed) := by rw [processFrame, h]

/-- The flags of a response: the request's stop-on-error bit, and the origin (R153). -/
theorem responseFlags (b : Byte) (o : Origin) : byte (128 * (b.getLsbD 7).toNat + originBit o) =
    (b &&& 0x80) ||| (match o with | .localSide => 0 | .remoteSide => 1) := by
  revert b
  cases o <;> decide

theorem byte_byte_toNat (b : Byte) : byte b.toNat = b := by
  rw [byte, BitVec.ofNat_toNat, BitVec.setWidth_eq]

/-- Two bytes spell a 16-bit number that is written as them. -/
theorem be_ofBe_two (a b : Byte) : be 2 (BitVec.ofNat 16 (ofBe [a, b])).toNat = [a, b] := by
  have ha := a.isLt
  have hb := b.isLt
  have hn : (BitVec.ofNat 16 (ofBe [a, b])).toNat = 256 * a.toNat + b.toNat := by
    rw [BitVec.toNat_ofNat, ofBe_two, Nat.mod_eq_of_lt (by omega)]
  have hhigh : (256 * a.toNat + b.toNat) / 256 = a.toNat := by omega
  have hlow : byte (256 * a.toNat + b.toNat) = b := by
    apply BitVec.eq_of_toNat_eq
    rw [byte, BitVec.toNat_ofNat]
    omega
  rw [hn, be_two, hhigh, hlow, byte_byte_toNat]

theorem responseFrame_eq (o : Origin) (bytes built : List Byte) :
    responseFrame o (frameTag bytes) (frameStop bytes) (byteAt bytes 5).toNat built =
      [2, 0, (byteAt bytes 2 &&& 0x80) ||| (match o with | .localSide => 0 | .remoteSide => 1), byteAt bytes 3,
        byteAt bytes 4, byteAt bytes 5, 0, 0] ++ built := by
  unfold responseFrame mgmtHeader frameTag frameStop
  rw [responseFlags, be_ofBe_two, byte_byte_toNat]
  rfl

/-- No request has a code above 16. -/
theorem parseReq_of_large {code : Byte} {k : Nat} (h : code.toNat = k + 17) (params : List Byte) :
    parseReq code params = none := by
  unfold parseReq
  rw [h]
  rfl

/-- What a request needs of a response, by its code (13.3). -/
def largestOf (code : Byte) : Nat :=
  if code = 0x01 ∨ code = 0x02 then 255 else if code = 0x04 then 152 else if code = 0x05 then 8
  else if code = 0x0E then 12 else if code = 0x08 ∨ code = 0x0A ∨ code = 0x0B then 2 else 0

section
variable {params : List Byte} {q : Req}

/-- The codes of 13.3, each with the number of parameter bytes its request takes. -/
theorem parseReq_largest_small : ∀ {n : Nat}, n < 17 → parseReq (BitVec.ofNat 8 n) params = some q →
    q.largest = largestOf (BitVec.ofNat 8 n)
  | 1, _, h => by cases h; rfl
  | 2, _, h => match params, h with | [_, _], h => by cases h; rfl
  | 3, _, h => match params, h with
    | t :: i :: items, h => by
      change writeReq t i items = some q at h
      unfold writeReq at h
      split at h
      · cases h; rfl
      · cases h
  | 4, _, h => match params, h with | [_, _, _], h => by cases h; rfl
  | 5, _, h => match params, h with | [_], h => by cases h; rfl
  | 6, _, h => match params, h with | [_], h => by cases h; rfl
  | 7, _, h => match params, h with | [_], h => by cases h; rfl
  | 8, _, h => match params, h with | [_], h => by cases h; rfl
  | 9, _, h => match params, h with | [_], h => by cases h; rfl
  | 10, _, h => match params, h with | [_, _], h => by cases h; rfl
  | 11, _, h => match params, h with | [_], h => by cases h; rfl
  | 12, _, h => match params, h with | [_, _], h => by cases h; rfl
  | 13, _, h => match params, h with | [_, _], h => by cases h; rfl
  | 14, _, h => match params, h with | [_, _], h => by cases h; rfl
  | 15, _, h => match params, h with | [_, _, _, _], h => by cases h; rfl
  | 16, _, h => match params, h with | [], h => by cases h; rfl
  | n + 17, hn, _ => absurd hn (by omega)

theorem parseReq_largest {code : Byte} (h : parseReq code params = some q) : q.largest = largestOf code := by
  have hcode : BitVec.ofNat 8 code.toNat = code := by rw [BitVec.ofNat_toNat, BitVec.setWidth_eq]
  by_cases hn : code.toNat < 17
  · exact hcode ▸ parseReq_largest_small hn (hcode.symm ▸ h)
  · obtain ⟨k, hk⟩ := Nat.exists_eq_add_of_le' (Nat.le_of_not_lt hn)
    cases (parseReq_of_large hk params).symm.trans h
end

theorem isFailure_eq (c : ResultCode) : c.isFailure = decide (c ≠ .ok ∧ c ≠ .accepted) := by
  cases c <;> rfl

section
variable {o : Origin} {stop : Bool} {later : Nat} {code : Byte} {params : List Byte} {r : FrameRun}

/-- Steps 3 and 4 of R150 for an entry that is allowed, and its execution. -/
theorem runEntry_allowed (hs : r.stopped = false) (hr : r.carriesReset = false)
    (ha : accessAllows o r.part.dev.remoteAccess code (asksClear params) = true) :
    (parseReq code params = none → runEntry o stop later code params r = ⟨r.part, r.built ++ [code, 3, 0, 0], stop, false⟩) ∧
      ∀ q, parseReq code params = some q →
        if 1024 < 8 + r.built.length + 4 + largestOf code + 4 * later then
          runEntry o stop later code params r = ⟨r.part, r.built ++ [code, 7, 0, 0], stop, false⟩
        else
          let a := q.run r.part
          runEntry o stop later code params r =
            ⟨a.part, r.built ++ ([code, byte a.result.code] ++ be 2 a.data.length ++ a.data),
              stop && decide (a.result ≠ .ok ∧ a.result ≠ .accepted), decide (code = 0x10) && decide (a.result = .ok)⟩ := by
  have hjudge : ∀ req used, judgeEntry o code (asksClear params) req used later r.part =
      match req with
      | none => refuse .badRequest r.part
      | some q => if hasRoom used later q.largest then q.run r.part else refuse .noRoom r.part := fun req used => by
    unfold judgeEntry
    rw [ha]
    rfl
  rw [runEntry_of_not_ended hs hr, hjudge]
  refine ⟨fun hp => ?_, fun q hp => ?_⟩
  · rw [hp, FrameRun.mk.injEq]
    exact ⟨rfl, congrArg (r.built ++ ·) (emptyResult_bytes code .badRequest), Bool.and_true _, Bool.and_false _⟩
  · have hroom : hasRoom (8 + r.built.length) later q.largest = true ↔
        ¬1024 < 8 + r.built.length + 4 + largestOf code + 4 * later := by
      rw [hasRoom, parseReq_largest hp, decide_eq_true_iff, Config.mgmtFrameMax, Nat.not_lt]
    rw [hp]
    dsimp only
    split
    · next h =>
      rw [if_neg fun k => hroom.1 k h, FrameRun.mk.injEq]
      exact ⟨rfl, congrArg (r.built ++ ·) (emptyResult_bytes code .noRoom), Bool.and_true _, Bool.and_false _⟩
    · next h => rw [if_pos (hroom.2 h), isFailure_eq]
end

/-- One ECHO entry from the local side. -/
theorem runEntries_echo {stop : Bool} {params : List Byte} (hlen : params.length ≤ 255) (s : State) :
    runEntries .localSide stop [(0x01, params)] ⟨s, [], false, false⟩ =
      ⟨s, [0x01, 0, 0, byte params.length] ++ params, false, false⟩ := by
  have hq : parseReq 0x01 params = some (.echo params) := rfl
  have hentry := (runEntry_allowed (o := .localSide) (stop := stop) (later := 0) (r := ⟨s, [], false, false⟩) rfl rfl rfl).2
    (.echo params) hq
  rw [if_neg (by simp [largestOf])] at hentry
  have hbytes : be 2 params.length = [0, byte params.length] := by
    rw [be_two, Nat.div_eq_of_lt (by omega)]
    rfl
  refine hentry.trans ?_
  change FrameRun.mk s ([] ++ ([0x01, byte ResultCode.ok.code] ++ be 2 params.length ++ params)) (stop && false) false = _
  rw [hbytes, Bool.and_false]
  rfl

/-- Settles O49: the engine takes a frame, entry by entry. -/
theorem engineTakesFrames : Obligations.EngineTakesFrames := by
  refine ⟨fun s => ⟨fun h => congrArg Host.Outcome.next (engineTakes_of_idle h), fun f rest he hq => ?_⟩,
    fun o stop code params more r => ⟨rfl, rfl, fun later => ?_⟩⟩
  · have hexec : exec .engineTakeFrame s = .next (processFrame f { s with requestQueue := rest }) :=
      congrArg Host.Outcome.next (engineTakes_cons he hq)
    have hentries : ∀ entries, 1 ≤ (byteAt f.bytes 5).toNat → (byteAt f.bytes 5).toNat ≤ 16 →
        parseEntries (byteAt f.bytes 5).toNat (f.bytes.drop 8) = some entries →
        exec .engineTakeFrame s =
          let r := runEntries f.origin (frameStop f.bytes) entries ⟨{ s with requestQueue := rest }, [], false, false⟩
          .next (offerResponse
            ⟨f.origin, [2, 0, (byteAt f.bytes 2 &&& 0x80) ||| (match f.origin with | .localSide => 0 | .remoteSide => 1),
              byteAt f.bytes 3, byteAt f.bytes 4, byteAt f.bytes 5, 0, 0] ++ r.built, r.carriesReset⟩
            (r.part.countDev .framesProcessed)) := fun entries h1 h2 hp => by
      rw [hexec, processFrame_entries ((frameEntries_of_count h1 h2).trans hp), parseEntries_length hp]
      dsimp only
      rw [responseFrame_eq]
    dsimp only
    refine ⟨fun h => ?_, hentries, fun kind target stop tagHigh tagLow reason reserved params extra hf hlen hroom => ?_⟩
    · have hnone : frameEntries f.bytes = none := by
        unfold frameEntries
        dsimp only
        split
        · rfl
        · next hc =>
          rcases h with h | h | h
          · exact absurd (.inl h) hc
          · exact absurd (.inr h) hc
          · exact h
      rw [hexec, processFrame_malformed hnone]
    · have hp : parseEntries 1 (entryBytes [(0x01, params)] ++ extra) = some [(0x01, params)] :=
        parseEntries_append extra [(0x01, params)] (by simpa using hlen)
      have hcount : byteAt f.bytes 5 = 1 := by rw [hf]; rfl
      have hrun := hentries [(0x01, params)] (by rw [hcount]; decide) (by rw [hcount]; decide) (by rw [hcount, hf]; exact hp)
      rw [hrun]
      subst hf
      have hbuilt := runEntries_echo (stop := frameStop ([kind, target, stop, tagHigh, tagLow, 1, reason, reserved] ++
        entryBytes [(0x01, params)] ++ extra)) hlen { s with requestQueue := rest }
      dsimp only
      rw [hbuilt, offerResponse_local]
      refine congrArg Host.Outcome.next ((if_pos hroom).trans (congrArg arbitrate ?_))
      have hflags : (stop &&& 0x80) ||| (0 : Byte) = stop &&& 0x80 := BitVec.or_zero
      let w : State := (({ s with requestQueue := rest } : State).countDev .framesProcessed).countDev .responsesSent
      have hset : ∀ bytes, { w with engine := .idle, mgmtOut := s.mgmtOut ++ [MgmtFrame.mk bytes false] } =
          { w with mgmtOut := s.mgmtOut ++ [MgmtFrame.mk bytes false] } := fun bytes =>
        congrArg (fun e => { w with engine := e, mgmtOut := s.mgmtOut ++ [MgmtFrame.mk bytes false] }) he.symm
      refine (hset _).trans ?_
      rw [← hflags]
      rfl
  · dsimp only
    split
    · next h => exact runEntry_of_ended h
    · next h =>
      rw [not_or, Bool.not_eq_true, Bool.not_eq_true] at h
      exact fun ha => runEntry_allowed h.1 h.2 ha

end Sys2Proof.Machine
end

section
/-! Frames from the Local Frame Port, management frames, and local egress (R69, R70, R77, R92, R93, R101 to R104, R145, R146). -/

namespace Sys2Proof.Machine

/- The kernel checks the theorems one after another. -/
set_option Elab.async false

/-! ### The Ingress Classifier (R93) -/

theorem GroupState.push_eq (c : Cls) (f : TxFrame) (y : GroupState) : y.push c f =
    { y with
      high := if c = .high then y.high ++ [f] else y.high
      normal := if c = .normal then y.normal ++ [f] else y.normal } := by cases c <;> rfl

/-- The judgment of R93 from step 4 on, each check against the state before the frame. -/
theorem classifyData_judged (x : StreamIx) (payload : List Byte) (s : State) :
    let e := s.stream x
    let g := e.group
    let n := payload.length
    classifyData x payload s =
      if n < 16 ∨ e.maxLen < n then s.countStream x .length
      else if (s.group g).tx ≠ .up then (s.countStream x .groupDown).countGroup g .groupDown
      else if 32 ≤ ((s.group g).classQueue e.cls).length then (s.countStream x .queueFull).countGroup g .queueFull
      else if s.storeFree < n + 4 then (s.countStream x .storeFull).countGroup g .storeFull
      else admitFrame g e.cls x payload s := by
  dsimp only
  unfold classifyData
  refine if_congr .rfl rfl (if_congr .rfl rfl (if_congr .rfl rfl (if_congr ?_ rfl rfl)))
  rw [State.storeRoom, Bool.not_eq_true', decide_eq_false_iff_not, Nat.not_le]

/-- Settles O37: a frame from the port, check by check. -/
theorem ingressFramesJudged : Obligations.IngressFramesJudged := by
  intro s x errorMark straddles payload
  dsimp only
  by_cases hreset : s.resetAsserted = true ∨ straddles = true
  · rw [if_pos hreset]
    exact congrArg Host.Outcome.next (if_pos (by simpa using hreset))
  rw [if_neg hreset]
  have hexec : exec (.ingressFrameTaken x errorMark straddles payload) s =
      .next (classify x errorMark payload (s.countDev .ingressFramesTaken)) :=
    congrArg Host.Outcome.next (if_neg (by simpa using hreset))
  rw [hexec]
  by_cases herr : errorMark = true
  · rw [if_pos herr]
    exact congrArg Host.Outcome.next (if_pos herr)
  rw [if_neg herr]
  by_cases hx : x = 0
  · rw [if_pos hx]
    exact congrArg Host.Outcome.next ((if_neg herr).trans (if_pos hx))
  rw [if_neg hx]
  by_cases hvalid : (s.stream x).valid = false
  · rw [if_pos hvalid]
    exact congrArg Host.Outcome.next ((if_neg herr).trans ((if_neg hx).trans (if_pos (by simpa using hvalid))))
  rw [if_neg hvalid]
  have hclass : classify x errorMark payload (s.countDev .ingressFramesTaken) =
      classifyData x payload (s.countDev .ingressFramesTaken) :=
    (if_neg herr).trans ((if_neg hx).trans (if_neg (by simpa using hvalid)))
  have hjudged := classifyData_judged x payload (s.countDev .ingressFramesTaken)
  dsimp only at hjudged
  rw [State.stream_countDev, State.group_countDev, State.countDev_storeFree] at hjudged
  rw [hclass, hjudged]
  by_cases hlen : payload.length < 16 ∨ (s.stream x).maxLen < payload.length
  · rw [if_pos hlen, if_pos hlen]
  rw [if_neg hlen, if_neg hlen]
  by_cases hup : (s.group (s.stream x).group).tx ≠ .up
  · rw [if_pos hup, if_pos hup]
  rw [if_neg hup, if_neg hup]
  change if 32 ≤ ((s.group (s.stream x).group).classQueue (s.stream x).cls).length then _ else _
  by_cases hqueue : 32 ≤ ((s.group (s.stream x).group).classQueue (s.stream x).cls).length
  · rw [if_pos hqueue, if_pos hqueue]
  rw [if_neg hqueue, if_neg hqueue]
  by_cases hroom : s.storeFree < payload.length + 4
  · rw [if_pos hroom, if_pos hroom]
  · rw [if_neg hroom, if_neg hroom, admitFrame_eq, funext (GroupState.push_eq _ _)]
    rfl

/-! ### The intakes of management frames (R101 to R103, R145, R146) -/

/-- An offer that is admitted or not, nothing else. -/
theorem judgeOffer_outcome {α : Type} (s : State) (n : Nat) (taken : GroupIx → α) (not : α) :
    (match s.judgeOffer n with | .taken g => taken g | _ => not) =
      match s.dev.mgmtGroup with
      | none => not
      | some g => if (s.group g).tx ≠ .up ∨ 32 ≤ (s.group g).high.length ∨ s.storeFree < n + 4 then not else taken g := by
  cases hg : s.dev.mgmtGroup with
  | none => rw [judgeOffer_of_none hg]
  | some g =>
    dsimp only
    by_cases hup : (s.group g).tx = .up
    · by_cases hroom : 32 ≤ (s.group g).high.length ∨ s.storeFree < n + 4
      · rw [judgeOffer_of_no_room hg hup hroom, if_pos (.inr hroom)]
      · rw [judgeOffer_of_room hg hup hroom, if_neg fun h => h.elim (fun k => k hup) hroom]
    · rw [judgeOffer_of_not_up hg hup, if_pos (.inl hup)]

theorem refusalFrame_eq (o : Origin) (frame : List Byte) : refusalFrame o (frameTag frame) =
    [4, 0, byte (originBit o), byteAt frame 3, byteAt frame 4, 0, 1, 0] := by
  unfold refusalFrame mgmtHeader frameTag
  rw [be_ofBe_two]
  rfl

theorem byte_eq_iff (b : Byte) (n : Nat) (hn : n < 256 := by decide) : b = BitVec.ofNat 8 n ↔ b.toNat = n := by
  refine ⟨fun h => by rw [h, BitVec.toNat_ofNat]; exact Nat.mod_eq_of_lt hn, fun h => ?_⟩
  rw [← h, BitVec.ofNat_toNat, BitVec.setWidth_eq]

/-- The local intake, by the length and the header of the frame (R101). -/
theorem localIntake_judged (frame : List Byte) (s : State) : localIntake frame s =
    if frame.length < 8 ∨ 1024 < frame.length ∨ byteAt frame 0 ≠ 1 ∨ (byteAt frame 1 ≠ 1 ∧ byteAt frame 1 ≠ 2) then
      s.countDev .malformed
    else if byteAt frame 1 = 1 then localRequest frame s else relayToPeer frame s := by
  unfold localIntake
  by_cases hlen : 1024 < frame.length ∨ frame.length < 8
  · rw [if_pos (c := Config.mgmtFrameMax < _ ∨ _) hlen, if_pos (hlen.elim (fun h => .inr (.inl h)) .inl)]
  rw [if_neg (c := Config.mgmtFrameMax < _ ∨ _) hlen]
  by_cases hkind : byteAt frame 0 ≠ 1
  · rw [if_pos hkind, if_pos (.inr (.inr (.inl hkind)))]
  rw [if_neg hkind]
  by_cases h1 : byteAt frame 1 = 1
  · rw [if_neg, if_pos h1, h1]
    · rfl
    · rintro (h | h | h | h)
      · exact hlen (.inr h)
      · exact hlen (.inl h)
      · exact hkind h
      · exact h.1 h1
  · by_cases h2 : byteAt frame 1 = 2
    · rw [if_neg, if_neg h1, h2]
      · rfl
      · rintro (h | h | h | h)
        · exact hlen (.inr h)
        · exact hlen (.inl h)
        · exact hkind h
        · exact h.2 h2
    · rw [if_pos (.inr (.inr (.inr ⟨h1, h2⟩)))]
      split
      · next h => exact absurd ((byte_eq_iff _ 1).2 h) h1
      · next h => exact absurd ((byte_eq_iff _ 2).2 h) h2
      · rfl

/-- The intake from the bond, by the length and the header of the frame (R145). -/
theorem bondIntake_judged (frame : List Byte) (s : State) : bondIntake frame s =
    if frame.length < 8 ∨ 1024 < frame.length ∨ (byteAt frame 0 ≠ 1 ∧ byteAt frame 0 ≠ 2 ∧ byteAt frame 0 ≠ 4) then
      s.countDev .malformed
    else if byteAt frame 0 = 2 ∨ byteAt frame 0 = 4 then bondIntake.relayUp frame s
    else remoteRequest frame s := by
  unfold bondIntake
  by_cases hlen : 1024 < frame.length ∨ frame.length < 8
  · rw [if_pos (c := Config.mgmtFrameMax < _ ∨ _) hlen, if_pos (hlen.elim (fun h => .inr (.inl h)) .inl)]
  rw [if_neg (c := Config.mgmtFrameMax < _ ∨ _) hlen]
  by_cases hbad : byteAt frame 0 ≠ 1 ∧ byteAt frame 0 ≠ 2 ∧ byteAt frame 0 ≠ 4
  · rw [if_pos (.inr (.inr hbad))]
    split
    · next h => exact absurd ((byte_eq_iff _ 1).2 h) hbad.1
    · next h => exact absurd ((byte_eq_iff _ 2).2 h) hbad.2.1
    · next h => exact absurd ((byte_eq_iff _ 4).2 h) hbad.2.2
    · rfl
  · rw [if_neg (by rintro (h | h | h); exacts [hlen (.inr h), hlen (.inl h), hbad h])]
    by_cases h1 : byteAt frame 0 = 1
    · rw [h1]
      rfl
    · by_cases h2 : byteAt frame 0 = 2
      · rw [h2]
        rfl
      · have h4 : byteAt frame 0 = 4 := by
          by_contra h4
          exact hbad ⟨h1, h2, h4⟩
        rw [h4]
        rfl

/-- Settles O38: the intakes of management frames. -/
theorem managementFramesTaken : Obligations.ManagementFramesTaken := by
  refine ⟨fun s frame hreset => ?_, fun s frame => ?_, fun s g chain frame hchain hlen hvalid => ?_⟩
  · have hexec : exec (.ingressFrameTaken 0 false false frame) s =
        .next (localIntake frame (s.countDev .ingressFramesTaken)) :=
      congrArg Host.Outcome.next (if_neg (by simp [hreset]))
    dsimp only
    rw [hexec, localIntake_judged]
    by_cases hbad : frame.length < 8 ∨ 1024 < frame.length ∨ byteAt frame 0 ≠ 1 ∨ (byteAt frame 1 ≠ 1 ∧ byteAt frame 1 ≠ 2)
    · rw [if_pos hbad, if_pos hbad]
    rw [if_neg hbad, if_neg hbad]
    by_cases h1 : byteAt frame 1 = 1
    · rw [if_pos h1, if_pos h1, localRequest]
      by_cases hqueue : s.requestQueue.length < 8
      · rw [if_pos hqueue]
        exact congrArg Host.Outcome.next (if_pos hqueue)
      · rw [if_neg hqueue, refusalFrame_eq]
        by_cases hroom : s.mgmtOut.length < 8
        · rw [if_pos hroom]
          exact congrArg Host.Outcome.next ((if_neg hqueue).trans (if_pos (s.mgmtRoom_iff.2 hroom)))
        · rw [if_neg hroom]
          exact congrArg Host.Outcome.next ((if_neg hqueue).trans (if_neg (mt s.mgmtRoom_iff.1 hroom)))
    · rw [if_neg h1, if_neg h1]
      have hrelay := judgeOffer_outcome (s.countDev .ingressFramesTaken) frame.length
        (fun g => admitFrame g .high 0 frame ((s.countDev .ingressFramesTaken).countDev .relayedToPeer))
        ((s.countDev .ingressFramesTaken).countDev .relayFailed)
      have hrelay' : relayToPeer frame (s.countDev .ingressFramesTaken) = _ := hrelay
      rw [hrelay']
      cases hg : s.dev.mgmtGroup with
      | none => rw [show (s.countDev .ingressFramesTaken).dev.mgmtGroup = none from hg]
      | some g =>
        rw [show (s.countDev .ingressFramesTaken).dev.mgmtGroup = some g from hg]
        dsimp only
        rw [State.group_countDev, State.countDev_storeFree]
        split
        · rfl
        · rw [admitFrame_eq]
          rfl
  · dsimp only
    rw [bondIntake_judged]
    by_cases hbad : frame.length < 8 ∨ 1024 < frame.length ∨ (byteAt frame 0 ≠ 1 ∧ byteAt frame 0 ≠ 2 ∧ byteAt frame 0 ≠ 4)
    · rw [if_pos hbad, if_pos hbad]
    rw [if_neg hbad, if_neg hbad]
    by_cases hup : byteAt frame 0 = 2 ∨ byteAt frame 0 = 4
    · rw [if_pos hup, if_pos hup]
      exact if_congr s.mgmtRoom_iff rfl rfl
    rw [if_neg hup, if_neg hup]
    by_cases hqueue : s.requestQueue.length < 8
    · rw [if_pos hqueue]
      exact if_pos hqueue
    rw [if_neg hqueue]
    have hrefused : remoteRequest frame s = _ := (if_neg hqueue).trans (judgeOffer_outcome (s.countDev .remoteRefused)
      (refusalFrame .remoteSide (frameTag frame)).length
      (fun g => admitFrame g .high 0 (refusalFrame .remoteSide (frameTag frame)) (s.countDev .remoteRefused))
      (s.countDev .remoteRefused))
    rw [hrefused, refusalFrame_eq]
    cases hg : s.dev.mgmtGroup with
    | none => rw [show (s.countDev .remoteRefused).dev.mgmtGroup = none from hg]
    | some g =>
      rw [show (s.countDev .remoteRefused).dev.mgmtGroup = some g from hg]
      dsimp only
      rw [State.group_countDev, State.countDev_storeFree]
      split
      · next h => exact if_pos h
      · next h =>
        refine (if_neg h).trans ?_
        rw [admitFrame_eq]
        rfl
  · have hlen' : chain.flatten.length = frame.length + 4 := by rw [hchain, bonded_length]
    have htake : chain.flatten.take (chain.flatten.length - 4) = frame := by
      rw [hlen', Nat.add_sub_cancel, hchain, List.take_left']
      rfl
    have hdrop : chain.flatten.drop (chain.flatten.length - 4) = be 4 (frameCheck 0 frame).toNat := by
      rw [hlen', Nat.add_sub_cancel, hchain, List.drop_left']
      rfl
    have hjudge : judgeFrame g ⟨0, chain⟩ s = handOnManagement g chain.length frame s := by
      unfold judgeFrame
      dsimp only
      rw [htake, hdrop, if_neg (by rw [hlen', if_pos rfl]; omega), if_neg (not_not.2 rfl), hvalid]
      rfl
    dsimp only
    rw [hjudge]
    rfl

/-! ### Local egress (R70, R77) -/

theorem chainLength_eq (chain : List (List Byte)) : chainLength chain = chain.flatten.length := List.length_flatten.symm

theorem EgressFrame.sent_length (f : EgressFrame) : f.sent.payload.length = chainLength f.chain - 4 := by
  rw [EgressFrame.sent, List.length_take, chainLength_eq]
  omega

theorem releaseBuffers_of_le {s : State} {g : GroupIx} {n : Nat} (h : n ≤ (s.group g).heldCount) :
    releaseBuffers g n s = ({ s with poolFree := s.poolFree + n } : State).modGroup g fun x =>
      { x with heldCount := x.heldCount - n, ctr := raiseCounter x.ctr GroupCtr.buffersReturned.ix n } := by
  rw [releaseBuffers_eq, Nat.min_eq_left h]

theorem joinHeld_of_none {s : State} {g : GroupIx} (h : (s.group g).held = none) : joinHeld g s = s := by
  rw [joinHeld, h]

/-- Settles O35: what the port is given, the end of a transmission, and HELD-FRAME-JOIN. -/
theorem egressTransmissionEnds : Obligations.EgressTransmissionEnds := by
  intro s
  simp only [exec_egressTransmissionEnd, Host.Outcome.next.injEq]
  refine ⟨fun h => ?_, fun f rest hb hq => ?_, fun g f rest hb hq => ?_, fun f rest hb hq hr => ?_,
    fun g f rest hb hq hheld hle => ?_, fun g => ⟨fun h => ?_, fun f hf hroom => ?_⟩⟩
  · exact ⟨by rw [State.onPort, h], by rw [egressEnds, h]⟩
  · rw [State.onPort, hb, hq]
    rfl
  · rw [State.onPort, hb]
    dsimp only
    rw [hq]
    rfl
  · have hno : s.resetResponseInFlight = false := by
      rw [State.resetResponseInFlight, hb, hq]
      exact hr
    rw [egressEnds, hb]
    dsimp only
    rw [hno, if_neg Bool.false_ne_true, mgmtFrameLeft, hq]
    rfl
  · rw [egressEnds, hb]
    dsimp only
    rw [dataFrameLeft, hq]
    dsimp only
    have hle' : f.chain.length ≤ ((({ s with egressBusy := none } : State).modGroup g fun x =>
        { x with egress := rest }).group g).heldCount := by
      rw [State.group_modGroup, if_pos rfl]
      exact hle
    rw [releaseBuffers_of_le hle', joinHeld_of_none, EgressFrame.sent_length]
    · simp only [State.countGroup, State.modGroup_setPoolFree, State.modGroup_modGroup]
      rfl
    · simp only [State.modGroup_setPoolFree, State.modGroup_modGroup, arbitrate_group, State.countStream, State.group_modStream,
        State.group_countGroup, State.group_modGroup, ↓reduceIte]
      exact hheld
  · have hexec : exec (.heldFrameJoin g) s = .next (joinHeld g s) := rfl
    rw [hexec]
    rcases h with h | h
    · rw [joinHeld_of_none h]
    · rw [joinHeld]
      split
      · rfl
      · rw [if_neg (c := _ < Config.egressQueueMax) (Nat.not_lt.2 h)]
  · have hexec : exec (.heldFrameJoin g) s = .next (joinHeld g s) := rfl
    rw [hexec, joinHeld, hf]
    dsimp only
    rw [if_pos (c := _ < Config.egressQueueMax) hroom, assemblerReady, resolveIfLive]
    have hjoin : egressJoin g f (s.modGroup g fun x => { x with held := none }) =
        arbitrate ((s.modGroup g fun x => { x with held := none, egress := x.egress ++ [f] }).countGroup g
          .framesAssembled) := by
      rw [egressJoin, State.modGroup_modGroup]
    have hctx : ((egressJoin g f (s.modGroup g fun x => { x with held := none })).group g).ctx = (s.group g).ctx := by
      rw [hjoin]
      simp [State.group_modGroup]
    rw [hctx, hjoin]

end Sys2Proof.Machine
end

section
/-! Requests that read, clear or release; GROUP-ENABLE, GROUP-RESYNC and WRITE-ENTRY (R32, R59, R154 to R156, R159, R164, R171). -/

namespace Sys2Proof.Machine

/- The kernel checks the theorems one after another. -/
set_option Elab.async false

/-! ### Reading requests -/

/-- The slot and generation of a tag (13.3). -/
theorem tag_parts (k : SlotIx) (gen : BitVec 12) :
    (BitVec.ofNat 16 (4096 * k.val + gen.toNat)).toNat / 4096 = k.val ∧
      BitVec.ofNat 12 (BitVec.ofNat 16 (4096 * k.val + gen.toNat)).toNat = gen := by
  have hk := k.isLt
  have hg := gen.isLt
  have hn : (BitVec.ofNat 16 (4096 * k.val + gen.toNat)).toNat = 4096 * k.val + gen.toNat := by
    rw [BitVec.toNat_ofNat]
    exact Nat.mod_eq_of_lt (by omega)
  rw [hn]
  refine ⟨by omega, BitVec.eq_of_toNat_eq ?_⟩
  rw [BitVec.toNat_ofNat]
  omega

theorem reqOpQuery_tag (k : SlotIx) (gen : BitVec 12) (s : State) :
    reqOpQuery (BitVec.ofNat 16 (4096 * k.val + gen.toNat)) s =
      if (s.slot k).body = .empty ∨ (s.slot k).gen ≠ gen then refuse .badValue s
      else ⟨.ok, (s.slot k).body.queryBytes, s⟩ := by
  obtain ⟨hk, hg⟩ := tag_parts k gen
  unfold reqOpQuery
  rw [dif_pos (hk.trans_lt k.isLt), hg]
  have hix : ∀ h, (⟨(BitVec.ofNat 16 (4096 * k.val + gen.toNat)).toNat / 4096, h⟩ : SlotIx) = k := fun h => Fin.ext hk
  rw [hix]

/-- Settles O51: the requests that only read, clear or release. -/
theorem readingRequestsAnswered : Obligations.ReadingRequestsAnswered := by
  intro s o
  have hrow : ∀ {code clears} {r : Req} {c data p}, s.Admits o code clears → r.run s = ⟨c, data, p⟩ →
      Host.Outcome.next (entryRow o code clears (some r) s) =
        (.next (p.answered code c data) : Host.Outcome State Fault Refusal) :=
    fun h hr => congrArg Host.Outcome.next (entryRow_reply h hr)
  refine ⟨fun params h => hrow (r := .echo params) h rfl, fun table index h => ?_, fun set index clear h => ?_,
    fun l lane hl => ⟨fun h => ?_, fun h => ?_⟩, fun lane hl => ⟨fun h => ?_, fun h => ?_⟩, fun k gen h => ?_⟩
  · have hr : (Req.readEntry table index).run s = reqReadEntry table index s := rfl
    unfold reqReadEntry at hr
    cases ht : tableRef table index with
    | none => rw [ht] at hr; exact hrow h hr
    | some t => rw [ht] at hr; exact hrow h hr
  · have hr : (Req.readCounters set index clear).run s = reqReadCounters set index (decide (clear ≠ 0)) s := rfl
    unfold reqReadCounters at hr
    cases ht : tableRef set index with
    | none => rw [ht] at hr; exact hrow h hr
    | some t =>
      rw [ht] at hr
      refine (hrow h hr).trans ?_
      dsimp only
      by_cases hc : clear = 0
      · rw [if_neg (by simpa using hc), if_pos hc]
      · rw [if_pos (by simpa using hc), if_neg hc]
  · have hr : (Req.captureRead lane).run s = ⟨.ok, (s.lane l).capture.bytes, s⟩ := by
      rw [Req.run, reqCaptureRead, laneOf_eq hl]
    exact hrow h hr
  · have hr : (Req.captureRelease lane).run s = ⟨.ok, [], s.modLane l fun x => { x with capture := .released }⟩ := by
      rw [Req.run, reqCaptureRelease, laneOf_eq hl]
    exact hrow h hr
  · have hr : (Req.captureRead lane).run s = refuse .badIndex s := by
      rw [Req.run, reqCaptureRead, laneOf_eq_none hl]
    exact hrow h hr
  · have hr : (Req.captureRelease lane).run s = refuse .badIndex s := by
      rw [Req.run, reqCaptureRelease, laneOf_eq_none hl]
    exact hrow h hr
  · have hr := reqOpQuery_tag k gen s
    split
    · next hc => rw [if_pos hc] at hr; exact hrow h hr
    · next hc => rw [if_neg hc] at hr; exact hrow h hr

/-! ### GROUP-ENABLE and GROUP-RESYNC (R59, R83, R156) -/

theorem sum_map_filter {α : Type} (p : α → Bool) (f : α → Nat) (l : List α) :
    ((l.filter p).map f).sum = (l.map fun a => if p a then f a else 0).sum := by
  induction l with
  | nil => rfl
  | cons a l ih => cases h : p a <;> simp [h, ih]

theorem State.reservedNow_eq (s : State) : s.reservedNow =
    (allGroups.map fun h => if (s.group h).tx = .disabled then 0 else (s.group h).reservation).sum := by
  rw [State.reservedNow, sum_map_filter]
  refine congrArg List.sum (List.map_congr_left fun g _ => ?_)
  rw [GroupState.enabled]
  by_cases h : (s.group g).tx = .disabled
  · rw [if_pos h, if_neg (by simp [h])]
  · rw [if_neg h, if_pos (by simp [h])]

/-- The entry of a context into RESYNC, with its buffers back in the pool (R58). -/
theorem clearStrikes_resynced {g : GroupIx} {s : State} (hle : (s.group g).inContext ≤ (s.group g).heldCount) :
    clearStrikes g (s.givesBack g GroupState.discardCount GroupState.resynced) =
      (((({ s with
          poolFree := s.poolFree + (s.group g).inContext
          lanes := s.lanes.map fun y => { y with
            assoc := if y.assoc.memberOf g then y.assoc.withStrikes 0 else y.assoc } } : State).modGroup g fun y =>
        { y with
          ctx := .resync, store := [], expected := none, highest := none, hole := none
          building := none, held := none, awaitingFirst := true
          heldCount := y.heldCount - (s.group g).inContext }).countGroup g .resyncDiscard (s.group g).store.length).countGroup
            g .assemblyDiscard ((s.group g).building.toList.length + (s.group g).held.toList.length)).countGroup g
              .buffersReturned (s.group g).inContext := by
  have hcount : (s.group g).discardCount = (s.group g).inContext := Nat.min_eq_left hle
  have hlanes : (fun x : LaneState => if x.assoc.memberOf g then { x with assoc := x.assoc.withStrikes 0 } else x) =
      fun y => { y with assoc := if y.assoc.memberOf g then y.assoc.withStrikes 0 else y.assoc } := by
    funext x
    split <;> rfl
  unfold clearStrikes State.givesBack
  rw [hlanes, ← hcount]
  simp only [State.countGroup, State.modGroup_modGroup]
  change ({ s with
    poolFree := s.poolFree + (s.group g).discardCount
    lanes := s.lanes.map fun y => { y with
      assoc := if y.assoc.memberOf g then y.assoc.withStrikes 0 else y.assoc } } : State).modGroup g GroupState.resynced = _
  exact State.modGroup_congr rfl

/-- Settles O44: GROUP-ENABLE. -/
theorem groupEnabled : Obligations.GroupEnabled := by
  intro s o b g hadm hb
  have hrun : (Req.groupEnable b).run s =
      if (s.group g).tx ≠ .disabled then refuse .state s
      else if Config.poolBuffers < (s.group g).reservation + s.reservedNow then refuse .badValue s
      else ⟨.ok, [], enableGroup g s⟩ := by
    rw [Req.run, reqGroupEnable, groupOf_eq hb]
  dsimp only
  rw [← State.reservedNow_eq]
  by_cases htx : (s.group g).tx ≠ .disabled
  · rw [if_pos htx] at hrun ⊢
    exact congrArg Host.Outcome.next (entryRow_reply hadm hrun)
  rw [if_neg htx] at hrun ⊢
  by_cases hres : 2048 < (s.group g).reservation + s.reservedNow
  · rw [if_pos (c := Config.poolBuffers < _) hres] at hrun
    rw [if_pos hres]
    exact congrArg Host.Outcome.next (entryRow_reply hadm hrun)
  rw [if_neg (c := Config.poolBuffers < _) hres] at hrun
  rw [if_neg hres]
  intro hctx
  have hemits := enableGroup_emits (not_not.1 htx)
  rw [hctx] at hemits
  exact exists_next_of_emits rfl (entryRow_emits hadm hrun hemits) le_rfl ⟨rfl, rfl, rfl⟩

/-- Settles O32: GROUP-RESYNC. -/
theorem groupResyncTaken : Obligations.GroupResyncTaken := by
  intro s o b g hadm hb
  have hrun : (Req.groupResync b).run s =
      if (s.group g).ctx = .disabled then refuse .state s
      else ⟨.ok, [], if (s.group g).ctx.live then enterResync g s else s⟩ := by
    rw [Req.run, reqGroupResync, groupOf_eq hb]
  dsimp only
  refine ⟨fun hctx => ?_, fun hctx => ?_, fun hlive hle => ?_⟩
  · rw [if_pos hctx] at hrun
    exact congrArg Host.Outcome.next (entryRow_reply hadm hrun)
  · rw [hctx] at hrun
    exact congrArg Host.Outcome.next (entryRow_reply hadm hrun)
  · have hnd : (s.group g).ctx ≠ .disabled := fun h => by rw [h] at hlive; cases hlive
    have hnr : (s.group g).ctx ≠ .resync := fun h => by rw [h] at hlive; cases hlive
    rw [if_neg hnd, if_pos hlive] at hrun
    have hemits := enterResync_emits g s
    rw [if_neg hnr] at hemits
    rw [clearStrikes_resynced hle] at hemits
    exact exists_next_of_emits rfl (entryRow_emits hadm hrun hemits) le_rfl ⟨rfl, rfl, rfl⟩

/-! ### WRITE-ENTRY of one field (R155) -/

/-- Item bytes of one item are that item (R188). -/
theorem writeReq_one (table index code : Byte) {value : List Byte} (h : value.length ≤ 255) :
    writeReq table index (code :: byte value.length :: value) = some (.writeEntry table index [(code, value)]) := by
  have hlen : (byte value.length).toNat = value.length := byte_toNat (by omega)
  have hparse : parseItems (value.length + 2) (code :: byte value.length :: value) = some [(code, value)] := by
    unfold parseItems
    rw [hlen, if_neg (Nat.lt_irrefl _), List.drop_length, List.take_length]
    unfold parseItems
    rfl
  unfold writeReq
  rw [List.length_cons, List.length_cons, hparse]

theorem writeAll_one {α : Type} (write : Byte → List Byte → α → Option α) (code : Byte) (value : List Byte) (x : α) :
    writeAll write [(code, value)] x = write code value x := by
  unfold writeAll
  cases write code value x <;> rfl

theorem ofBe_be_two_nat {v : Nat} (h : v < 65536) : ofBe (be 2 v) = v := by
  rw [be_two, ofBe_two, byte_toNat (by omega), byte, BitVec.toNat_ofNat]
  omega

theorem ofBe_be_one {v : Nat} (h : v < 256) : ofBe (be 1 v) = v := by
  have hb : be 1 v = [byte v] := by simp [be, byte]
  rw [hb]
  exact (Nat.zero_add _).trans (byte_toNat h)

section
variable {s : State} {o : Origin} {table index code : Byte} {r : TableRef} {k v : Nat}

/-- WRITE-ENTRY of one field: the answer of its request. -/
theorem exec_writeItem {c : ResultCode} {p : State} (h : s.Admits o 0x03 false) (hk : k ≤ 255)
    (hrun : reqWriteEntry table index [(code, be k v)] s = ⟨c, [], p⟩) :
    exec (.writeEntry o table index ([code, byte k] ++ be k v)) s = .next (p.answered 0x03 c []) := by
  have hreq : writeReq table index ([code, byte k] ++ be k v) = some (.writeEntry table index [(code, be k v)]) := by
    have := writeReq_one table index code (value := be k v) (by rw [be_length]; exact hk)
    rwa [be_length] at this
  rw [exec_writeEntry, hreq, entryRow_reply (r := .writeEntry table index [(code, be k v)]) h hrun]

/-- The table's write, and the answer. -/
theorem exec_writeOne (h : s.Admits o 0x03 false) (hk : k ≤ 255) (ht : tableRef table index = some r)
    (hr : r ≠ .stream 0) : exec (.writeEntry o table index ([code, byte k] ++ be k v)) s =
      .next ((writeSettings r [(code, be k v)] s).2.answered 0x03 (writeSettings r [(code, be k v)] s).1 []) := by
  apply exec_writeItem h hk
  rw [reqWriteEntry, ht]
  exact if_neg hr

end

/-- A write of one item to an entry, by what the item's write gives. -/
theorem writeSettings_one (r : TableRef) (code : Byte) (value : List Byte) (s : State) :
    writeSettings r [(code, value)] s =
      match r with
      | .device =>
        match writeDev code value s.dev with
        | some d => (.ok, { s with dev := d })
        | none => (.badValue, s)
      | .lane l =>
        match writeLane code value (s.lane l) with
        | some x => (.ok, s.modLane l fun _ => x)
        | none => (.badValue, s)
      | .group g =>
        match writeGroup code value (s.group g) with
        | some x =>
          if x.window ≤ x.skewLimit then (.badValue, s)
          else if (s.group g).tx ≠ .disabled then (.state, s)
          else (.ok, s.modGroup g fun _ => x)
        | none => (.badValue, s)
      | .stream y =>
        match writeStream code value (s.stream y) with
        | some x => (.ok, s.modStream y fun _ => x)
        | none => (.badValue, s) := by
  unfold writeSettings
  rw [if_neg (by simp)]
  cases r <;> dsimp only <;> rw [writeAll_one] <;> rfl

theorem State.modStream_congr {s : State} {x : StreamIx} {f f' : StreamState → StreamState}
    (h : f (s.stream x) = f' (s.stream x)) : s.modStream x f = s.modStream x f' := by
  simp only [State.modStream]
  simp only [State.stream] at h
  rw [h]

/-- Settles O52: WRITE-ENTRY of one field of each table. -/
theorem settingsWritten : Obligations.SettingsWritten := by
  intro s o index v hadm hv
  have h16 := ofBe_be_two_nat hv
  dsimp only
  refine ⟨?_, fun l hl hv' => ?_, fun g hg => ?_, fun x hx => ?_⟩
  · have hw : writeDev 0x01 (be 2 v) s.dev =
        if between 100 10000 (ofBe (be 2 v)) then some { s.dev with markerInterval := ofBe (be 2 v) } else none := rfl
    refine (exec_writeOne (k := 2) (r := .device) hadm (by decide) rfl nofun).trans ?_
    rw [writeSettings_one]
    dsimp only
    rw [hw, h16]
    by_cases hr : 100 ≤ v ∧ v ≤ 10000
    · rw [if_pos (between_iff.2 hr), if_pos hr]
      rfl
    · rw [if_neg (mt between_iff.1 hr), if_neg hr]
  · have ht : tableRef 2 index = some (.lane l) := by
      unfold tableRef
      exact (dif_pos (hl.trans_lt l.isLt)).trans (congrArg (fun i => some (TableRef.lane i)) (Fin.ext hl))
    have hw : writeLane 0x02 (be 1 v) (s.lane l) =
        if between 1 8 (ofBe (be 1 v)) then some { s.lane l with weight := ofBe (be 1 v) } else none := rfl
    refine (exec_writeOne (k := 1) hadm (by decide) ht nofun).trans ?_
    rw [writeSettings_one]
    dsimp only
    rw [hw, ofBe_be_one hv']
    by_cases hr : 1 ≤ v ∧ v ≤ 8
    · rw [if_pos (between_iff.2 hr), if_pos hr]
      exact congrArg (fun u : State => Host.Outcome.next (u.answered 0x03 .ok [])) (State.modLane_congr rfl)
    · rw [if_neg (mt between_iff.1 hr), if_neg hr]
  · have ht : tableRef 3 index = some (.group g) := by
      unfold tableRef
      exact (dif_pos (hg.trans_lt g.isLt)).trans (congrArg (fun i => some (TableRef.group i)) (Fin.ext hg))
    have hw : writeGroup 0x02 (be 2 v) (s.group g) =
        if between 32 1024 (ofBe (be 2 v)) ∧ ofBe (be 2 v) % 32 = 0 then
          some { s.group g with window := ofBe (be 2 v) } else none := rfl
    refine (exec_writeOne (k := 2) hadm (by decide) ht nofun).trans ?_
    rw [writeSettings_one]
    dsimp only
    rw [hw, h16]
    by_cases hr : between 32 1024 v = true ∧ v % 32 = 0
    · rw [if_pos hr]
      dsimp only
      obtain ⟨hr, hmod⟩ := hr
      obtain ⟨hlow, hhigh⟩ := between_iff.1 hr
      by_cases hskew : (s.group g).skewLimit < v
      · rw [if_neg (Nat.not_le.2 hskew), if_pos (show 32 ≤ v ∧ v ≤ 1024 ∧ v % 32 = 0 ∧ _ from ⟨hlow, hhigh, hmod, hskew⟩)]
        by_cases htx : (s.group g).tx = .disabled
        · rw [if_neg (not_not.2 htx), if_pos htx]
          exact congrArg (fun u : State => Host.Outcome.next (u.answered 0x03 .ok [])) (State.modGroup_congr rfl)
        · rw [if_pos htx, if_neg htx]
      · rw [if_pos (Nat.not_lt.1 hskew), if_neg fun h => hskew h.2.2.2]
    · rw [if_neg hr, if_neg fun h => hr ⟨between_iff.2 ⟨h.1, h.2.1⟩, h.2.2.1⟩]
  · have ht : tableRef 4 index = some (.stream x) := by
      unfold tableRef
      exact (dif_pos (hx.trans_lt x.isLt)).trans (congrArg (fun i => some (TableRef.stream i)) (Fin.ext hx))
    by_cases h0 : x = 0
    · rw [if_pos h0]
      refine exec_writeItem (k := 2) hadm (by decide) ?_
      rw [reqWriteEntry, ht, h0]
      exact if_pos rfl
    · have hw : writeStream 0x04 (be 2 v) (s.stream x) =
          if between 16 4096 (ofBe (be 2 v)) then some { s.stream x with maxLen := ofBe (be 2 v) } else none := rfl
      refine (exec_writeOne (k := 2) hadm (by decide) ht (fun h => h0 (TableRef.stream.inj h))).trans ?_
      rw [writeSettings_one]
      dsimp only
      rw [hw, h16, if_neg h0]
      by_cases hr : 16 ≤ v ∧ v ≤ 4096
      · rw [if_pos (between_iff.2 hr), if_pos hr]
        exact congrArg (fun u : State => Host.Outcome.next (u.answered 0x03 .ok [])) (State.modStream_congr rfl)
      · rw [if_neg (mt between_iff.1 hr), if_neg hr]

end Sys2Proof.Machine
end

section
/-! The resolution of a receive context (R47, R50), and arrivals (R41). -/

namespace Sys2Proof.Machine

/- The kernel checks the theorems one after another. -/
set_option Elab.async false

/-! ### What the Frame Assembler leaves of the contexts -/

/-- Every group has the receive state, expected sequence and store it had. -/
structure SameContexts (s t : State) : Prop where
  ctx : ∀ h, (t.group h).ctx = (s.group h).ctx
  expected : ∀ h, (t.group h).expected = (s.group h).expected
  store : ∀ h, (t.group h).store = (s.group h).store

namespace SameContexts
variable {g : GroupIx} {s t u : State}

theorem trans (h : SameContexts s t) (k : SameContexts t u) : SameContexts s u where
  ctx i := (k.ctx i).trans (h.ctx i)
  expected i := (k.expected i).trans (h.expected i)
  store i := (k.store i).trans (h.store i)

theorem of_groups (h : t.groups = s.groups) : SameContexts s t :=
  have hg : ∀ i, t.group i = s.group i := fun i => by simp only [State.group, h]
  ⟨fun i => congrArg _ (hg i), fun i => congrArg _ (hg i), fun i => congrArg _ (hg i)⟩

theorem modGroup (i : GroupIx) (s : State) (f : GroupState → GroupState)
    (h : ∀ x, (f x).ctx = x.ctx ∧ (f x).expected = x.expected ∧ (f x).store = x.store := by exact fun _ => ⟨rfl, rfl, rfl⟩) :
    SameContexts s (s.modGroup i f) := by
  have hg : ∀ j, (s.modGroup i f).group j = if j = i then f (s.group i) else s.group j := fun j => State.group_modGroup ..
  constructor <;> intro j <;> rw [hg] <;> split
  · next e => rw [(h _).1, e]
  · rfl
  · next e => rw [(h _).2.1, e]
  · rfl
  · next e => rw [(h _).2.2, e]
  · rfl

theorem countGroup (i : GroupIx) (c : GroupCtr) (n : Nat) (s : State) : SameContexts s (s.countGroup i c n) :=
  modGroup i s _

theorem arbitrate (s : State) : SameContexts s (Machine.arbitrate s) := of_groups (arbitrate_groups s)

theorem releaseBuffers (n : Nat) (s : State) : SameContexts s (Machine.releaseBuffers g n s) := by
  rw [releaseBuffers_eq]
  exact trans (t := { s with poolFree := s.poolFree + min n (s.group g).heldCount }) (of_groups rfl) (modGroup g _ _)

theorem setBuilding (b : Option Building) (s : State) : SameContexts s (Machine.setBuilding g b s) := modGroup g s _

theorem setAwaiting (b : Bool) (s : State) : SameContexts s (Machine.setAwaiting g b s) := modGroup g s _

theorem judgeHold (i : GroupIx) (s : State) : SameContexts s (Machine.judgeHold i s) := by
  obtain ⟨ctr, e⟩ := judgeHold_eq i s
  rw [e]
  exact modGroup i s _

theorem admitFrame (i : GroupIx) (c : Cls) (x : StreamIx) (payload : List Byte) (s : State) :
    SameContexts s (Machine.admitFrame i c x payload s) := by
  rw [admitFrame_eq]
  refine trans ?_ (judgeHold i _)
  refine trans (trans ?_ (countGroup ..)) (countGroup ..)
  let s1 : State := { s with
    storeFree := s.storeFree - (payload.length + 4)
    storeLow := min s.storeLow (s.storeFree - (payload.length + 4)) }
  have h1 : SameContexts s s1 := of_groups rfl
  have h2 : SameContexts s1 (s1.modGroup i fun y => y.push c ⟨x, payload ++ be 4 (frameCheck x payload).toNat⟩) :=
    modGroup i s1 _ fun y => by cases c <;> exact ⟨rfl, rfl, rfl⟩
  exact (h1.trans h2).trans (of_groups rfl)

theorem bondIntake (frame : List Byte) (s : State) : SameContexts s (Machine.bondIntake frame s) := by
  rw [bondIntake_judged]
  split
  · exact of_groups rfl
  · split
    · unfold bondIntake.relayUp Machine.mgmtJoin
      split
      · exact trans (t := { s.countDev .relayedUp with mgmtOut := s.mgmtOut ++ [⟨frame, false⟩] }) (of_groups rfl)
          (arbitrate _)
      · exact of_groups rfl
    · unfold Machine.remoteRequest
      split
      · exact of_groups rfl
      · dsimp only
        split
        · exact trans (s := s) (t := s.countDev .remoteRefused) (of_groups rfl) (admitFrame ..)
        · exact of_groups rfl

theorem judgeFrame (p : Building) (s : State) : SameContexts s (Machine.judgeFrame g p s) := by
  have hdiscard : ∀ c, SameContexts s ((Machine.releaseBuffers g p.chain.length s).countGroup g c) := fun c =>
    (releaseBuffers ..).trans (countGroup ..)
  have hdata : SameContexts s (handOnData g ⟨p.stream, p.chain⟩ s) := by
    unfold handOnData egressJoin
    split
    · exact ((modGroup g s _).trans (countGroup ..)).trans (arbitrate _)
    · exact (modGroup g s _).trans (countGroup ..)
  have hmgmt : ∀ payload, SameContexts s (handOnManagement g p.chain.length payload s) := fun payload => by
    unfold handOnManagement
    dsimp only
    split
    · exact (hdiscard _).trans (bondIntake ..)
    · exact hdiscard _
  unfold Machine.judgeFrame
  dsimp only
  generalize (if p.stream = 0 then 12 else 20) = shortest
  split
  · exact hdiscard _
  · split
    · exact hdiscard _
    · split
      · exact hdiscard _
      · split
        · exact hmgmt _
        · exact hdata

theorem breakFrame (p : Building) (n : Nat) (s : State) : SameContexts s (Machine.breakFrame g p n s) :=
  ((releaseBuffers ..).trans (setBuilding ..)).trans (countGroup ..)

theorem extendFrame (p : Building) (last : Bool) (s : State) : SameContexts s (Machine.extendFrame g p last s) := by
  unfold Machine.extendFrame
  split
  · exact (setBuilding ..).trans (judgeFrame ..)
  · exact setBuilding ..

theorem assemble (d : DataSeg) (s : State) : SameContexts s (Machine.assemble g d s) := by
  unfold Machine.assemble
  split
  · unfold assembleFirst
    dsimp only
    split
    · exact ((breakFrame ..).trans (setAwaiting ..)).trans (extendFrame ..)
    · exact (setAwaiting ..).trans (extendFrame ..)
  · unfold assembleRest
    split
    · exact (releaseBuffers ..).trans (countGroup ..)
    · split
      · exact (releaseBuffers ..).trans (countGroup ..)
      · split
        · exact (breakFrame ..).trans (setAwaiting ..)
        · exact extendFrame ..

theorem lossNotice (s : State) : SameContexts s (Machine.lossNotice g s) := by
  unfold Machine.lossNotice
  split
  · exact (breakFrame ..).trans (setAwaiting ..)
  · exact setAwaiting ..

end SameContexts

/-! ### One step of a resolution (R45, R47, R50) -/

section
variable {s t : State} {g : GroupIx} {e : Seq}

/-- The context after a delivery of the segment at `e`. -/
theorem deliver_context {d : DataSeg} (hd : d.seq = e) :
    ((deliver g d s).group g).expected = some (e + 1) ∧
      ((deliver g d s).group g).store = (s.group g).store.filter fun z => decide (z.seq ≠ e) := by
  have hsame := SameContexts.assemble (g := g) d ((s.modGroup g fun x =>
    { x with store := x.store.filter fun y => decide (y.seq ≠ d.seq), expected := some (d.seq + 1) }).countGroup g
      .delivered)
  unfold deliver
  rw [hsame.expected, hsame.store, State.group_countGroup, if_pos rfl, State.group_modGroup, if_pos rfl, hd]
  exact ⟨rfl, rfl⟩

/-- The context after a fast skip of `e`. -/
theorem skipFast_context : ((skipFast g e s).group g).expected = some (e + 1) ∧
    ((skipFast g e s).group g).store = (s.group g).store := by
  have hsame := SameContexts.lossNotice (g := g) ((s.modGroup g fun x =>
    { x with expected := some (e + 1) }).countGroup g .skippedFast)
  unfold skipFast
  rw [hsame.expected, hsame.store, State.group_countGroup, if_pos rfl, State.group_modGroup, if_pos rfl]
  exact ⟨rfl, rfl⟩

theorem resolveOnce_of_not_waiting (h : s.waitsAt g = none) : resolveOnce g s = none := by rw [resolveOnce, h]

/-- The step with the expected segment stored. -/
theorem resolveOnce_of_stored {d : DataSeg} (h : s.waitsAt g = some e) (hd : d ∈ (s.group g).store) (hseq : d.seq = e)
    (hone : ∀ d' ∈ (s.group g).store, d'.seq = e → d' = d) :
    resolveOnce g s = if (s.group g).held = none then some (deliver g d s) else none := by
  have hfind : (s.group g).store.find? (fun z => decide (z.seq = e)) = some d := by
    cases hf : (s.group g).store.find? fun z => decide (z.seq = e) with
    | none => exact absurd (decide_eq_true hseq) (List.find?_eq_none.1 hf d hd)
    | some d' =>
      have hd' := hone d' (List.mem_of_find?_eq_some hf) (by simpa using List.find?_some hf)
      rw [hd']
  rw [resolveOnce, h]
  dsimp only
  rw [hfind]
  dsimp only
  exact if_congr Option.isNone_iff_eq_none rfl rfl

theorem resolveOnce_of_missing (h : s.waitsAt g = some e) (hmiss : ∀ d ∈ (s.group g).store, d.seq ≠ e) :
    resolveOnce g s = if s.fastSkip g e then some (skipFast g e s) else none := by
  have hfind : (s.group g).store.find? (fun z => decide (z.seq = e)) = none :=
    List.find?_eq_none.2 fun d hd => by simpa using hmiss d hd
  rw [resolveOnce, h]
  dsimp only
  rw [hfind]

theorem State.memberCount_pos {s : State} {g : GroupIx} : 0 < s.memberCount g ↔ ∃ l, s.isMember g l = true := by
  unfold State.memberCount laneCountOf
  rw [List.length_pos_iff_exists_mem]
  simp only [List.mem_filter]
  exact ⟨fun ⟨l, _, h⟩ => ⟨l, h⟩, fun ⟨l, h⟩ => ⟨l, mem_allLanes l, h⟩⟩

/-- The condition of fast skip, for a missing segment in a live context (R50). -/
theorem State.fastSkip_iff (hl : (s.group g).ctx.live = true) (hmiss : ∀ d ∈ (s.group g).store, d.seq ≠ e) :
    s.fastSkip g e = true ↔
      (∃ l, s.isMember g l = true) ∧ ∀ l m k, (s.lane l).assoc = .member g m k → dist e m < 32768 := by
  have hstored : stored (s.group g).store e = false := by
    rw [stored, List.any_eq_false]
    exact fun d hd => by simpa using hmiss d hd
  unfold State.fastSkip
  rw [hl, hstored, Bool.true_and, Bool.not_false, Bool.true_and, Bool.and_eq_true, decide_eq_true_iff,
    State.memberCount_pos, List.all_eq_true]
  refine and_congr_right fun _ => ⟨fun h l m k hm => ?_, fun h l _ => ?_⟩
  · have hl := h l (mem_allLanes l)
    rw [hm] at hl
    simpa [atOrAhead] using hl
  · cases hm : (s.lane l).assoc with
    | none => rfl
    | suspended i => rfl
    | member i m k =>
      by_cases hi : i = g
      · subst hi
        simpa [atOrAhead] using h l m k hm
      · simp [hi]
end

/-! ### The resolution ends (R47, log 25)

A member's passed mark stops the fast skips, and the stored entries the deliveries: each step brings the expected sequence
one nearer to the mark. -/

/-- The steps left with `n` entries stored, at the expected sequence `e` and a member's passed mark `m`. -/
def stepsLeft (e m : Seq) (n : Nat) : Nat := n + if dist e m < 32768 + n then dist e m + 1 else 0

theorem stepsLeft_le (e m : Seq) (n : Nat) : stepsLeft e m n ≤ 65536 + n := by
  have h : dist e m < 65536 := (m - e).isLt
  unfold stepsLeft
  split <;> omega

theorem dist_succ (e m : Seq) : dist (e + 1) m = if dist e m = 0 then 65535 else dist e m - 1 := by
  have h : dist (e + 1) m = (dist e m + 65535) % 65536 := by
    unfold dist
    rw [BitVec.toNat_sub, BitVec.toNat_sub, BitVec.toNat_add]
    have := e.isLt
    have := m.isLt
    have h1 : (1 : Seq).toNat = 1 := rfl
    omega
  have hlt : dist e m < 65536 := (m - e).isLt
  split <;> omega

theorem stepsLeft_deliver {e m : Seq} {n n' : Nat} (hn : n ≤ 1024) (h : n' < n) : stepsLeft (e + 1) m n' < stepsLeft e m n := by
  unfold stepsLeft
  rw [dist_succ]
  split_ifs <;> omega

theorem stepsLeft_skip {e m : Seq} {n : Nat} (hn : n ≤ 1024) (h : dist e m < 32768) :
    stepsLeft (e + 1) m n < stepsLeft e m n := by
  unfold stepsLeft
  rw [dist_succ]
  split_ifs <;> omega

/-- `m` is the passed mark of a member of `g`, if `g` has one. -/
def State.MarkOf (s : State) (g : GroupIx) (m : Seq) : Prop :=
  (∃ l, s.isMember g l = true) → ∃ l k, (s.lane l).assoc = .member g m k

theorem State.exists_markOf (s : State) (g : GroupIx) : ∃ m, s.MarkOf g m := by
  by_cases h : ∃ l, s.isMember g l = true
  · obtain ⟨l, hl⟩ := h
    unfold State.isMember at hl
    cases ha : (s.lane l).assoc with
    | none => rw [ha] at hl; cases hl
    | suspended i => rw [ha] at hl; cases hl
    | member i m k =>
      rw [ha] at hl
      have hi : i = g := by simpa [Assoc.memberOf] using hl
      exact ⟨m, fun _ => ⟨l, k, by rw [ha, hi]⟩⟩
  · exact ⟨0, fun k => absurd k h⟩

/-- The steps a resolution of `g` can take, with the passed mark `m`. -/
def State.steps (s : State) (g : GroupIx) (m : Seq) : Nat :=
  match (s.group g).expected with
  | none => 0
  | some e => stepsLeft e m (s.group g).store.length

theorem State.steps_le (s : State) (g : GroupIx) (m : Seq) : s.steps g m ≤ 65536 + (s.group g).store.length := by
  unfold State.steps
  split
  · exact Nat.zero_le _
  · exact stepsLeft_le ..

section
variable {s t : State} {g : GroupIx} {m : Seq}

/-- Each step leaves fewer, and no more entries stored. -/
theorem resolveOnce_steps (hm : s.MarkOf g m) (hn : (s.group g).store.length ≤ 1024) (h : resolveOnce g s = some t) :
    t.MarkOf g m ∧ (t.group g).store.length ≤ 1024 ∧ t.steps g m < s.steps g m := by
  have hlane := (Delivers.resolveOnce h).lane
  have hmark : t.MarkOf g m := fun ⟨l, hl⟩ => by
    obtain ⟨l', k, hk⟩ := hm ⟨l, by rwa [State.isMember, ← hlane]⟩
    exact ⟨l', k, by rwa [hlane]⟩
  refine ⟨hmark, ?_⟩
  obtain ⟨hl, e, he, ⟨d, hd, hseq, -, rfl⟩ | ⟨hmiss, hskip, rfl⟩⟩ := resolveOnce_cases h
  · obtain ⟨hexp, hstore⟩ := deliver_context (s := s) (g := g) hseq
    have hlen : ((s.group g).store.filter fun z => decide (z.seq ≠ e)).length < (s.group g).store.length :=
      List.length_filter_lt_length_iff_exists.2 ⟨d, hd, by simp [hseq]⟩
    unfold State.steps
    rw [hexp, hstore, he]
    exact ⟨by omega, stepsLeft_deliver hn hlen⟩
  · obtain ⟨hexp, hstore⟩ := skipFast_context (s := s) (g := g) (e := e)
    obtain ⟨hmem, hdist⟩ := (State.fastSkip_iff hl hmiss).1 hskip
    obtain ⟨l, k, hk⟩ := hm hmem
    unfold State.steps
    rw [hexp, hstore, he]
    exact ⟨hn, stepsLeft_skip hn (hdist l m k hk)⟩

theorem resolveUpTo_of_none (h : resolveOnce g s = none) (n : Nat) : resolveUpTo n g s = s := by
  cases n with
  | zero => rfl
  | succ n => rw [resolveUpTo, h]

theorem resolveUpTo_succ (h : resolveOnce g s = some t) (n : Nat) : resolveUpTo (n + 1) g s = resolveUpTo n g t := by
  rw [resolveUpTo, h]

theorem resolveUpTo_ends {n : Nat} (hm : s.MarkOf g m) (hn : (s.group g).store.length ≤ 1024) (hsteps : s.steps g m ≤ n) :
    resolveOnce g (resolveUpTo n g s) = none := by
  induction n generalizing s with
  | zero =>
    cases h : resolveOnce g s with
    | none => rwa [resolveUpTo_of_none h]
    | some t => exact absurd (resolveOnce_steps hm hn h).2.2 (by omega)
  | succ n ih =>
    cases h : resolveOnce g s with
    | none => rwa [resolveUpTo_of_none h]
    | some t =>
      obtain ⟨hm', hn', hlt⟩ := resolveOnce_steps hm hn h
      rw [resolveUpTo_succ h]
      exact ih hm' hn' (by omega)

/-- More steps than are left change nothing. -/
theorem resolveUpTo_enough {n k : Nat} (h : resolveOnce g (resolveUpTo n g s) = none) (hk : n ≤ k) :
    resolveUpTo k g s = resolveUpTo n g s := by
  induction n generalizing s k with
  | zero => exact resolveUpTo_of_none h k
  | succ n ih =>
    obtain ⟨k, rfl⟩ := Nat.exists_eq_succ_of_ne_zero (n := k) (by omega)
    cases ht : resolveOnce g s with
    | none => rw [resolveUpTo_of_none ht, resolveUpTo_of_none ht]
    | some t =>
      rw [resolveUpTo_succ ht] at h
      rw [resolveUpTo_succ ht, resolveUpTo_succ ht]
      exact ih h (by omega)

/-- No step looks at the hole timer. -/
theorem resolveOnce_setHoleTimer (h : resolveOnce g s = none) : resolveOnce g (setHoleTimer g s) = none := by
  obtain ⟨timer, e⟩ := setHoleTimer_cases g s
  have hg : (s.modGroup g fun y => { y with hole := timer }).group g = { s.group g with hole := timer } := by
    rw [State.group_modGroup, if_pos rfl]
  have hwaits : (s.modGroup g fun y => { y with hole := timer }).waitsAt g = s.waitsAt g := by
    rw [State.waitsAt, hg]
    rfl
  have hskip : ∀ q, (s.modGroup g fun y => { y with hole := timer }).fastSkip g q = s.fastSkip g q := fun q => by
    rw [State.fastSkip, hg]
    rfl
  rw [e]
  unfold resolveOnce at h ⊢
  rw [hwaits, hg]
  cases hw : s.waitsAt g with
  | none => rfl
  | some q =>
    rw [hw] at h
    dsimp only at h ⊢
    rw [hskip]
    cases hf : (s.group g).store.find? fun d => decide (d.seq = q) with
    | none =>
      rw [hf] at h
      dsimp only at h ⊢
      split at h
      · cases h
      · next hs => rw [if_neg hs]
    | some d =>
      rw [hf] at h
      dsimp only at h ⊢
      split at h
      · cases h
      · next hh => rw [if_neg hh]
end

/-- Settles O30: a step of a resolution, and that the resolution takes its steps to their end. -/
theorem resolutionReachesItsEnd : Obligations.ResolutionReachesItsEnd := by
  refine ⟨fun s g => ⟨fun h => resolveOnce_of_not_waiting ?_, fun e hl he => ?_⟩, fun s g hn => ?_⟩
  · unfold State.waitsAt
    split
    · next hl =>
      rcases h with h | h
      · rw [h] at hl; cases hl
      · exact h
    · rfl
  · have hw : s.waitsAt g = some e := (State.waitsAt_of_live hl).trans he
    refine ⟨fun d hd hseq hone => ?_, fun hmiss => ?_⟩
    · rw [resolveOnce_of_stored hw hd hseq hone]
      unfold deliver
      rw [hseq]
    · have hstep := resolveOnce_of_missing hw hmiss
      have hiff := State.fastSkip_iff hl hmiss
      refine ⟨fun hmem hmarks => ?_, fun hnone => ?_, fun l m k hk hfar => ?_⟩
      · rw [hstep, if_pos (hiff.2 ⟨hmem, hmarks⟩)]
        rfl
      · rw [hstep, if_neg fun h => ?_]
        obtain ⟨⟨l, hl⟩, -⟩ := hiff.1 h
        rw [hnone l] at hl
        cases hl
      · rw [hstep, if_neg fun h => ?_]
        exact absurd ((hiff.1 h).2 l m k hk) (Nat.not_lt.2 hfar)
  · obtain ⟨m, hm⟩ := s.exists_markOf g
    have hends := resolveUpTo_ends hm hn (s.steps_le g m)
    refine ⟨resolveOnce_setHoleTimer hends, fun t ht => ?_, fun h => ?_⟩
    · obtain ⟨hm', hn', hlt⟩ := resolveOnce_steps hm hn ht
      have hsteps := s.steps_le g m
      have hends' := resolveUpTo_ends hm' hn' (Nat.le_refl _)
      have hsucc : 65536 + (s.group g).store.length = 65535 + (s.group g).store.length + 1 := by omega
      unfold resolve
      rw [hsucc, resolveUpTo_succ ht, resolveUpTo_enough hends' (by omega), resolveUpTo_enough hends' (t.steps_le g m)]
    · have hr : resolve g s = setHoleTimer g s := congrArg (setHoleTimer g) (resolveUpTo_of_none h _)
      obtain ⟨timer, e⟩ := setHoleTimer_cases g s
      rw [hr, e, State.group_modGroup, if_pos rfl]

end Sys2Proof.Machine
end

section
/-! Arrivals of data segments (R41 to R44), and a frame cut and rebuilt (R4, R8, R65 to R69). -/

namespace Sys2Proof.Machine

/- The kernel checks the theorems one after another. -/
set_option Elab.async false

/-! ### Buffers asked for (R84, R85, R89) -/

theorem State.othersUnfilled_modGroup (s : State) (g : GroupIx) (f : GroupState → GroupState) :
    (s.modGroup g f).othersUnfilled g = s.othersUnfilled g := by
  unfold State.othersUnfilled
  refine congrArg List.sum (List.map_congr_left fun h hh => ?_)
  have hne : h ≠ g := by simpa using (List.mem_filter.1 hh).2
  rw [State.group_modGroup, if_neg hne]

section
variable {s : State} {g : GroupIx}

theorem judgeRequest_of_refused
    (h : s.poolFree = 0 ∨ ((s.group g).reservation ≤ (s.group g).heldCount ∧ s.poolFree ≤ s.othersUnfilled g)) :
    s.judgeRequest g = none := by
  unfold State.judgeRequest
  rcases h with h | ⟨hres, hothers⟩
  · exact if_pos h
  · rw [if_neg (Nat.not_lt.2 hres), if_neg (Nat.not_lt.2 hothers), ite_self]

theorem judgeRequest_of_granted
    (h : ¬(s.poolFree = 0 ∨ ((s.group g).reservation ≤ (s.group g).heldCount ∧ s.poolFree ≤ s.othersUnfilled g))) :
    ∃ k : Grant, s.judgeRequest g = some k ∧
      k.counter = if (s.group g).heldCount < (s.group g).reservation then .reservedGrants else .sharedGrants := by
  rw [not_or, not_and, Nat.not_le] at h
  obtain ⟨hpool, hothers⟩ := h
  unfold State.judgeRequest
  rw [if_neg hpool]
  by_cases hres : (s.group g).heldCount < (s.group g).reservation
  · exact ⟨.reserved, if_pos hres, (if_pos hres).symm⟩
  · exact ⟨.shared, (if_neg hres).trans (if_pos (hothers (Nat.le_of_not_lt hres))), (if_neg hres).symm⟩
end

/-! ### Arrivals (R41) -/

section
variable {s : State} {g : GroupIx} {d : DataSeg} {e : Seq}

/-- Steps 5 and 6 of R41, in a state `v` whose buffers and whose context of `g` but for the highest sequence are those of
`s`. -/
theorem placeArrival_judged {v : State} {high : Option Seq} (hg : v.group g = { s.group g with highest := high })
    (hpool : v.poolFree = s.poolFree) (hothers : v.othersUnfilled g = s.othersUnfilled g) :
    placeArrival g d e v =
      if 32768 ≤ dist e d.seq then v.countGroup g .late
      else if (s.group g).window ≤ dist e d.seq then v.countGroup g .beyondWindow
      else if (s.group g).store.any fun x => x.seq = d.seq then v.countGroup g .duplicate
      else if s.poolFree = 0 ∨
          ((s.group g).reservation ≤ (s.group g).heldCount ∧ s.poolFree ≤ s.othersUnfilled g) then
        if (s.group g).armed then
          post (.poolExhausted g s.poolFree) ((v.countGroup g .noBuffer).modGroup g fun x => { x with armed := false })
        else v.countGroup g .noBuffer
      else
        ((({ v with poolFree := v.poolFree - 1, poolLow := min v.poolLow (v.poolFree - 1) } : State).modGroup g fun x =>
            { x with heldCount := x.heldCount + 1, armed := true, store := insertStore e d x.store }).countGroup g
              (if (s.group g).heldCount < (s.group g).reservation then .reservedGrants else .sharedGrants)).countGroup g
                .stored := by
  unfold placeArrival
  refine if_congr decide_eq_true_iff rfl (if_congr (by rw [hg]) rfl (if_congr (by rw [hg]; rfl) rfl ?_))
  by_cases h : s.poolFree = 0 ∨ ((s.group g).reservation ≤ (s.group g).heldCount ∧ s.poolFree ≤ s.othersUnfilled g)
  · have href : v.judgeRequest g = none := judgeRequest_of_refused (by rw [hg, hpool, hothers]; exact h)
    rw [href, if_pos h]
    have harmed : ((v.countGroup g .noBuffer).group g).armed = (s.group g).armed := by
      rw [State.group_countGroup, if_pos rfl, hg]
    dsimp only
    unfold refuseBuffer
    rw [harmed, State.countGroup_poolFree, hpool]
  · obtain ⟨k, hk, hctr⟩ := judgeRequest_of_granted (s := v) (g := g) (by rw [hg, hpool, hothers]; exact h)
    rw [hg] at hctr
    rw [hk, if_neg h]
    dsimp only
    rw [grantBuffer, hctr]
    simp only [State.countGroup, State.modGroup_modGroup]

theorem arrive_of_disabled (l : LaneIx) (h : (s.group d.group).ctx = .disabled) :
    arrive l d s = s.countGroup d.group .groupDisabled := if_pos h

theorem arrive_of_not_member {l : LaneIx} (h : (s.group d.group).ctx ≠ .disabled)
    (hm : (s.lane l).assoc.memberOf d.group = false) : arrive l d s = s.countGroup d.group .notMember :=
  (if_neg h).trans (if_pos (by rw [State.isMember, hm]; rfl))

theorem arrive_of_not_waiting {l : LaneIx} (h : (s.group d.group).ctx ≠ .disabled)
    (hm : (s.lane l).assoc.memberOf d.group = true) (hw : s.waitsAt d.group = none) :
    arrive l d s = s.countGroup d.group .resyncDiscard := by
  refine (if_neg h).trans ((if_neg (by rw [State.isMember, hm]; decide)).trans ?_)
  rw [hw]

theorem arrive_of_waiting {l : LaneIx} (h : (s.group d.group).ctx ≠ .disabled)
    (hm : (s.lane l).assoc.memberOf d.group = true) (hw : s.waitsAt d.group = some e) :
    arrive l d s = resolve d.group (placeArrival d.group d e (raiseMarks d.group l d.seq s)) := by
  refine (if_neg h).trans ((if_neg (by rw [State.isMember, hm]; decide)).trans ?_)
  rw [hw]
end

/-- Settles O23: a data segment that arrives on an ALIGNED lane. -/
theorem arrivalsJudged : Obligations.ArrivalsJudged := by
  intro s l d h1 h2 hrx hdiag hcd
  have hnr : (s.lane l).diag ≠ .loopRemote := by rw [hdiag]; decide
  have hnl : (s.lane l).diag ≠ .loopLocal := by rw [hdiag]; decide
  have hcounted : ∃ ctr, ((s.countLane l .segmentsReceived).countLane l .dataPassed).lane l = { s.lane l with ctr := ctr } := by
    rw [State.lane_countLane_same, State.lane_countLane_same]
    exact ⟨_, rfl⟩
  have hexec : exec (.segmentTaken l d.bytes) s =
      .next (arrive l d ((s.countLane l .segmentsReceived).countLane l .dataPassed)) := by
    obtain ⟨hgood, hpayload⟩ := segmentsReadBack.1 d h1 h2
    have hu := s.lane_countLane_same l .segmentsReceived 1
    rw [exec_segmentTaken, lineSegment_of_taken _ (by rw [hrx]; decide) hcd hnl, receiveSegment_good hgood]
    unfold segmentGoesOn
    dsimp only
    rw [loopCopy_of_ne _ (by rw [hu]; exact hnr)]
    unfold takeData
    rw [if_neg (by rw [hu]; exact not_not.2 hdiag), if_pos (by rw [hu]; exact hrx), hpayload]
  dsimp only
  rw [hexec]
  obtain ⟨ctr, hlane⟩ := hcounted
  generalize hw : (s.countLane l .segmentsReceived).countLane l .dataPassed = w at hlane ⊢
  have hgroup : ∀ g, w.group g = s.group g := fun g => by rw [← hw]; rfl
  have hpool : w.poolFree = s.poolFree := by rw [← hw]; rfl
  have hothers : ∀ g, w.othersUnfilled g = s.othersUnfilled g := fun g => by rw [← hw]; rfl
  refine ⟨fun h => ?_, fun h hm => ?_, fun h hm => ?_, fun e m k hlive he ha => ?_⟩
  · rw [arrive_of_disabled l (by rw [hgroup]; exact h)]
  · rw [arrive_of_not_member (by rw [hgroup]; exact h) (by rw [hlane]; exact hm)]
  · rw [arrive_of_not_waiting (by rw [hgroup, h]; decide) (by rw [hlane]; exact hm)
      (State.waitsAt_of_not_live (by rw [hgroup, h]; rfl))]
  · have hmem : (w.lane l).assoc = .member d.group m k := by rw [hlane]; exact ha
    have hwaits : w.waitsAt d.group = some e := by
      rw [State.waitsAt_of_live (by rw [hgroup]; exact hlive), hgroup, he]
    have hnd : (w.group d.group).ctx ≠ .disabled := fun h => by
      rw [hgroup] at h
      rw [h] at hlive
      cases hlive
    have hraise : raiseMarks d.group l d.seq w =
        (w.modLane l fun x => { x with assoc := .member d.group (raiseTo m d.seq) k }).modGroup d.group fun x =>
          { x with highest := x.highest.map fun h => raiseTo h d.seq } := by
      unfold raiseMarks
      rw [State.modLane_congr (s := w) (l := l) (h := fun x => { x with assoc := .member d.group (raiseTo m d.seq) k })]
      rw [hmem]
      rfl
    rw [arrive_of_waiting hnd (by rw [hmem]; simp [Assoc.memberOf]) hwaits, hraise]
    generalize hv : ((w.modLane l fun x => { x with assoc := .member d.group (raiseTo m d.seq) k }).modGroup d.group fun x =>
      { x with highest := x.highest.map fun h => raiseTo h d.seq }) = v
    have hvg : v.group d.group =
        { s.group d.group with highest := (s.group d.group).highest.map fun h => raiseTo h d.seq } := by
      rw [← hv, State.group_modGroup, if_pos rfl, State.group_modLane, hgroup]
    have hvp : v.poolFree = s.poolFree := by rw [← hv, ← hpool]; rfl
    have hvo : v.othersUnfilled d.group = s.othersUnfilled d.group := by
      rw [← hv, State.othersUnfilled_modGroup, ← hothers]
      rfl
    rw [placeArrival_judged hvg hvp hvo]

/-! ### A frame cut and rebuilt (R8, R65 to R69) -/

/-- The `i`th slice of a bonded frame. -/
def slice (size : Nat) (bonded : List Byte) (i : Nat) : List Byte := (bonded.drop (i * size)).take size

/-- The first `k` slices. -/
def slices (size : Nat) (bonded : List Byte) (k : Nat) : List (List Byte) := (List.range k).map (slice size bonded)

theorem slices_succ (size : Nat) (bonded : List Byte) (k : Nat) :
    slices size bonded (k + 1) = slices size bonded k ++ [slice size bonded k] := by
  rw [slices, List.range_succ, List.map_append]
  rfl

theorem slices_flatten (size : Nat) (bonded : List Byte) (k : Nat) :
    (slices size bonded k).flatten = bonded.take (k * size) := by
  induction k with
  | zero => rw [Nat.zero_mul, List.take_zero]; rfl
  | succ k ih =>
    rw [slices_succ, List.flatten_append, ih, List.flatten_singleton, slice, Nat.succ_mul, List.take_add]

theorem slices_length_le (size : Nat) (bonded : List Byte) (k : Nat) :
    chainLength (slices size bonded k) + (slice size bonded k).length ≤ bonded.length := by
  have h : chainLength (slices size bonded k) + (slice size bonded k).length =
      chainLength (slices size bonded (k + 1)) := by
    rw [chainLength_eq, chainLength_eq, slices_succ, List.flatten_append, List.length_append, List.flatten_singleton]
  rw [h, chainLength_eq, slices_flatten, List.length_take]
  exact Nat.min_le_right ..

/-- How many slices a frame is cut into, and which one is the last (R8). -/
theorem slice_count {size len : Nat} (hsize : size = 64 ∨ size = 128 ∨ size = 192) (hlen : 0 < len) :
    0 < (len + size - 1) / size ∧ len ≤ (len + size - 1) / size * size ∧
      ∀ i < (len + size - 1) / size, len ≤ i * size + size ↔ i + 1 = (len + size - 1) / size := by
  rcases hsize with rfl | rfl | rfl <;> refine ⟨by omega, by omega, fun i hi => by omega⟩

/-- A data frame of a good length with a good check is handed on (R68, R69). -/
theorem judgeFrame_of_good {s : State} {g : GroupIx} {x : StreamIx} {chain : List (List Byte)} {payload : List Byte}
    (hchain : chain.flatten = payload ++ be 4 (frameCheck x payload).toNat) (hx : x ≠ 0) (hlen : 16 ≤ payload.length)
    (hvalid : (s.stream x).valid = true) : judgeFrame g ⟨x, chain⟩ s = handOnData g ⟨x, chain⟩ s := by
  have hlen' : chain.flatten.length = payload.length + 4 := by rw [hchain, bonded_length]
  have htake : chain.flatten.take (chain.flatten.length - 4) = payload := by
    rw [hlen', Nat.add_sub_cancel, hchain, List.take_left']
    rfl
  have hdrop : chain.flatten.drop (chain.flatten.length - 4) = be 4 (frameCheck x payload).toNat := by
    rw [hlen', Nat.add_sub_cancel, hchain, List.drop_left']
    rfl
  unfold judgeFrame
  dsimp only
  rw [htake, hdrop, if_neg (by rw [hlen', if_neg hx]; omega), if_neg (not_not.2 rfl), hvalid, if_neg hx]
  rfl

section
variable {s : State} {g : GroupIx} {x : StreamIx} {payload : List Byte} {size : Nat}

/-- The state with `k` slices of the frame delivered, before the last. -/
def State.assembling (s : State) (g : GroupIx) (x : StreamIx) (chain : List (List Byte)) : State :=
  s.modGroup g fun y => { y with building := some ⟨x, chain⟩, awaitingFirst := false }

/-- The state with the whole frame in the egress queue. -/
def State.rebuilt (s : State) (g : GroupIx) (x : StreamIx) (chain : List (List Byte)) : State :=
  egressJoin g ⟨x, chain⟩ (s.modGroup g fun y => { y with awaitingFirst := false })

/-- A segment that leaves the frame partial. -/
theorem extendFrame_partial (b : Option Building) (chain : List (List Byte)) :
    extendFrame g ⟨x, chain⟩ false (s.modGroup g fun y => { y with building := b, awaitingFirst := false }) =
      s.assembling g x chain := by
  unfold extendFrame
  rw [if_neg Bool.false_ne_true]
  exact State.modGroup_modGroup ..

/-- The last segment. -/
theorem extendFrame_whole (b : Option Building) {chain : List (List Byte)} (hbuilding : (s.group g).building = none)
    (hroom : (s.group g).egress.length < 64) (hchain : chain.flatten = payload ++ be 4 (frameCheck x payload).toNat)
    (hx : x ≠ 0) (hlen : 16 ≤ payload.length) (hvalid : (s.stream x).valid = true) :
    extendFrame g ⟨x, chain⟩ true (s.modGroup g fun y => { y with building := b, awaitingFirst := false }) =
      s.rebuilt g x chain := by
  have hclear : setBuilding g none (s.modGroup g fun y => { y with building := b, awaitingFirst := false }) =
      s.modGroup g fun y => { y with awaitingFirst := false } :=
    (State.modGroup_modGroup ..).trans (State.modGroup_congr (by rw [← hbuilding]))
  have hroom' : ((s.modGroup g fun y => { y with awaitingFirst := false }).group g).egress.length < 64 := by
    rw [State.group_modGroup, if_pos rfl]
    exact hroom
  unfold extendFrame
  rw [if_pos rfl, hclear, judgeFrame_of_good (s := s.modGroup g _) hchain hx hlen hvalid]
  exact if_pos hroom'
end

/-- Settles O34: a frame cut into segments and delivered in order is rebuilt whole. -/
theorem cutFramesAreRebuilt : Obligations.CutFramesAreRebuilt := by
  intro s g size seq x payload hsize hx hvalid hlow hhigh hbuilding hroom
  dsimp only
  generalize hbonded : payload ++ be 4 (frameCheck x payload).toNat = bonded
  have hlen : bonded.length = payload.length + 4 := by rw [← hbonded, bonded_length]
  obtain ⟨hpos, hall, hlast⟩ := slice_count hsize (len := bonded.length) (by omega)
  generalize hcount : (bonded.length + size - 1) / size = count at hpos hall hlast
  let seg := fun i => sliceSegment g size (seq + BitVec.ofNat 16 i) ⟨.normal, i * size⟩ ⟨x, bonded⟩
  have hcut : cutFrame g size seq ⟨x, bonded⟩ = (List.range count).map seg := by
    unfold cutFrame
    dsimp only
    rw [hcount]
  have hchain : (cutFrame g size seq ⟨x, bonded⟩).map DataSeg.payload = slices size bonded count := by
    rw [hcut, List.map_map]
    rfl
  have hflat : (slices size bonded count).flatten = bonded := by
    rw [slices_flatten, List.take_of_length_le hall]
  have hsteps : ∀ k, k < count → ((List.range (k + 1)).map seg).foldl (fun u d => assemble g d u) s =
      if k + 1 = count then s.rebuilt g x (slices size bonded (k + 1)) else s.assembling g x (slices size bonded (k + 1)) := by
    have hextend : ∀ k < count, ∀ b, extendFrame g ⟨x, slices size bonded (k + 1)⟩ (seg k).last
        (s.modGroup g fun y => { y with building := b, awaitingFirst := false }) =
        if k + 1 = count then s.rebuilt g x (slices size bonded (k + 1))
        else s.assembling g x (slices size bonded (k + 1)) := fun k hk b => by
      have hl : (seg k).last = decide (k + 1 = count) := decide_eq_decide.2 (hlast k hk)
      rw [hl]
      by_cases hc : k + 1 = count
      · rw [if_pos hc, decide_eq_true hc]
        exact extendFrame_whole b hbuilding hroom (by rw [hc, hflat, hbonded]) hx hlow hvalid
      · rw [if_neg hc, decide_eq_false hc]
        exact extendFrame_partial b _
    intro k
    induction k with
    | zero =>
      intro hk
      have hfirst : (seg 0).first = true := decide_eq_true (Nat.zero_mul size)
      have hawait : setAwaiting g false s = s.modGroup g fun y => { y with building := none, awaitingFirst := false } :=
        State.modGroup_congr (by rw [← hbuilding])
      refine Eq.trans ?_ (hextend 0 hk none)
      change assemble g (seg 0) s = _
      unfold assemble assembleFirst
      rw [if_pos hfirst, hbuilding]
      dsimp only
      rw [hawait]
      rfl
    | succ k ih =>
      intro hk
      have hnot : (seg (k + 1)).first = false := decide_eq_false (by
        have : 0 < size := by omega
        exact (Nat.mul_pos (Nat.succ_pos k) this).ne')
      have hgroup : (s.assembling g x (slices size bonded (k + 1))).group g =
          { s.group g with building := some ⟨x, slices size bonded (k + 1)⟩, awaitingFirst := false } := by
        unfold State.assembling
        rw [State.group_modGroup, if_pos rfl]
      have hfits : ¬((seg (k + 1)).stream ≠ x ∨
          Config.bondedMax < chainLength (slices size bonded (k + 1)) + (seg (k + 1)).payload.length) := by
        have hle := slices_length_le size bonded (k + 1)
        have hmax : Config.bondedMax = 4100 := rfl
        have hpay : (seg (k + 1)).payload = slice size bonded (k + 1) := rfl
        rw [hmax, hpay]
        rintro (h | h)
        · exact h rfl
        · omega
      rw [List.range_succ, List.map_append, List.foldl_append, ih (by omega), if_neg (by omega)]
      refine Eq.trans ?_ (hextend (k + 1) hk (some ⟨x, slices size bonded (k + 1)⟩))
      change assemble g (seg (k + 1)) (s.assembling g x (slices size bonded (k + 1))) = _
      rw [assemble_joining hnot (by rw [hgroup]) (p := ⟨x, slices size bonded (k + 1)⟩) (by rw [hgroup]), if_neg hfits,
        slices_succ _ _ (k + 1)]
      rfl
  refine ⟨?_, hchain ▸ hflat, ?_⟩
  · rw [hchain, hcut]
    obtain ⟨k, rfl⟩ := Nat.exists_eq_succ_of_ne_zero (n := count) (by omega)
    rw [hsteps k (Nat.lt_succ_self k), if_pos rfl]
    rfl
  · unfold EgressFrame.sent
    dsimp only
    rw [hchain, chainLength_eq, hflat, hlen, Nat.add_sub_cancel, ← hbonded, List.take_left']
    rfl

end Sys2Proof.Machine
end

section
/-! Placements of segments (R107 to R111). -/

namespace Sys2Proof.Machine

/- The kernel checks the theorems one after another. -/
set_option Elab.async false

/-! ### Deficit round robin (R110) -/

/-- The place of a lane in the order the Distributor looks at them. -/
theorem robinOrder_getElem? (p l : LaneIx) : (robinOrder p)[(l - p).val]? = some l := by
  revert p l
  decide

theorem robinOrder_place (p : LaneIx) (j : Fin 8) (h : LaneIx) (e : (robinOrder p)[j.val]? = some h) :
    (h - p).val = j.val := by
  revert p j h
  decide

/-- The lane found is the first from the round-robin position upwards that meets the condition. -/
theorem robinOrder_find {P : LaneIx → Bool} {p l : LaneIx} (hl : P l = true)
    (hmin : ∀ m, P m = true → (l - p).val ≤ (m - p).val) : (robinOrder p).find? P = some l := by
  have hlt : (l - p).val < (robinOrder p).length := (l - p).isLt
  have hplace : (robinOrder p)[(l - p).val] = l :=
    Option.some.inj ((List.getElem?_eq_getElem hlt).symm.trans (robinOrder_getElem? p l))
  refine List.find?_eq_some_iff_getElem.2 ⟨hl, _, hlt, hplace, fun j hj => ?_⟩
  have hat : ((robinOrder p)[j] - p).val = j :=
    robinOrder_place p ⟨j, hj.trans (l - p).isLt⟩ _ (List.getElem?_eq_getElem (hj.trans hlt))
  by_contra hp
  have hle := hmin _ (by simpa using hp)
  exact absurd (hle.trans_eq hat) (Nat.not_le.2 hj)

/-- No eligible lane has a positive deficit. -/
def State.refills (s : State) (g : GroupIx) : Bool :=
  !allLanes.any fun m => s.eligible g m && decide (0 < (s.lane m).deficit)

/-- The deficit of a lane at the choice: after the refill, where there is one. -/
def State.deficitAt (s : State) (g : GroupIx) (m : LaneIx) : Nat :=
  (s.lane m).deficit + (if s.refills g && s.eligible g m then (s.lane m).weight else 0)

theorem refill_eq (g : GroupIx) (s : State) :
    refill g s = { s with lanes := Vector.ofFn fun m => { s.lanes[m] with deficit := s.deficitAt g m } } := by
  unfold refill
  by_cases h : (allLanes.any fun m => s.eligible g m && decide (0 < (s.lane m).deficit)) = true
  · have hd : ∀ m, s.deficitAt g m = (s.lane m).deficit := fun m => by
      rw [State.deficitAt, State.refills, h]
      rfl
    rw [if_pos h]
    simp only [hd]
    refine congrArg (fun v => { s with lanes := v }) (Vector.ext fun i hi => ?_)
    rw [Vector.getElem_ofFn]
    rfl
  · have hd : ∀ m, s.deficitAt g m = (s.lane m).deficit + if s.eligible g m then (s.lane m).weight else 0 := fun m => by
      rw [State.deficitAt, State.refills, Bool.eq_false_iff.2 h]
      rfl
    rw [if_neg h]
    simp only [hd]
    refine congrArg (fun v => { s with lanes := v }) (Vector.ext fun i hi => ?_)
    rw [Vector.getElem_ofFn, Vector.getElem_ofFn]
    by_cases he : s.eligible g ⟨i, hi⟩ = true
    · rw [if_pos he, if_pos he]
      rfl
    · rw [if_neg he, if_neg he]
      rfl

theorem refill_lane_eq (g : GroupIx) (s : State) (m : LaneIx) :
    (refill g s).lane m = { s.lane m with deficit := s.deficitAt g m } := by
  rw [refill_eq]
  unfold State.lane
  dsimp only
  rw [Fin.getElem_fin, Vector.getElem_ofFn]

theorem refill_eligible (g : GroupIx) (s : State) (m : LaneIx) : (refill g s).eligible g m = s.eligible g m := by
  rw [Bool.eq_iff_iff, State.eligible_iff, State.eligible_iff, refill_lane_eq, refill_txInhibit]

theorem robinChoice_refill {s : State} {g : GroupIx} {l : LaneIx} (hl : s.eligible g l = true) (hd : 0 < s.deficitAt g l)
    (hmin : ∀ m, s.eligible g m = true → 0 < s.deficitAt g m →
      (l - (s.group g).rrPos).val ≤ (m - (s.group g).rrPos).val) : (refill g s).robinChoice g = some l := by
  have hiff : ∀ m, ((refill g s).eligible g m && decide (0 < ((refill g s).lane m).deficit)) = true ↔
      s.eligible g m = true ∧ 0 < s.deficitAt g m := fun m => by
    rw [refill_eligible, refill_lane_eq, Bool.and_eq_true, decide_eq_true_iff]
  unfold State.robinChoice
  rw [refill_group]
  exact robinOrder_find ((hiff l).2 ⟨hl, hd⟩) fun m hm => hmin m ((hiff m).1 hm).1 ((hiff m).1 hm).2

/-! ### The slice (R8, R108) -/

theorem chooseFrame_of {x : GroupState} {c : Cursor} {f : TxFrame} {more : List TxFrame} (hq : x.classQueue c.cls = f :: more)
    (hc : x.cursor = some c ∨ (x.cursor = none ∧ c.cut = 0 ∧ (c.cls = .normal → x.high = []))) :
    x.chooseFrame = some (c, f) := by
  unfold GroupState.chooseFrame
  rcases hc with hc | ⟨hc, hcut, hclass⟩
  · rw [hc]
    dsimp only
    rw [hq]
    rfl
  · rw [hc]
    dsimp only
    obtain ⟨cls, cut⟩ := c
    cases hcut
    cases cls with
    | high =>
      rw [show x.high = f :: more from hq]
    | normal =>
      rw [hclass rfl, show x.normal = f :: more from hq]
      rfl

theorem sliceSegment_eq (g : GroupIx) (size : Nat) (seq : Seq) {c : Cursor} {f : TxFrame} (hcut : c.cut < f.bonded.length) :
    sliceSegment g size seq c f =
      ⟨g, decide (c.cut = 0), decide (f.bonded.length - c.cut ≤ size), f.stream, seq,
        (f.bonded.drop c.cut).take (min size (f.bonded.length - c.cut))⟩ := by
  have hlast : decide (f.bonded.length ≤ c.cut + size) = decide (f.bonded.length - c.cut ≤ size) :=
    decide_eq_decide.2 (by omega)
  have hpay : (f.bonded.drop c.cut).take size = (f.bonded.drop c.cut).take (min size (f.bonded.length - c.cut)) := by
    rw [← List.length_drop, ← List.take_eq_take_min]
  rw [sliceSegment, hlast, hpay]

theorem GroupState.pop_eq {y : GroupState} {c : Cls} {f : TxFrame} {more : List TxFrame} (h : y.classQueue c = f :: more) :
    y.pop c =
      { y with
        cursor := none
        high := if c = .high then more else y.high
        normal := if c = .normal then more else y.normal } := by
  cases c with
  | high => rw [GroupState.pop, show y.high = f :: more from h]; rfl
  | normal => rw [GroupState.pop, show y.normal = f :: more from h]; rfl

/-- Settles O39: a placement. -/
theorem segmentsPlaced : Obligations.SegmentsPlaced := by
  intro s g
  refine ⟨fun h => congrArg Host.Outcome.next (if_pos (by rw [h]; rfl)), fun c f more l => ?_⟩
  intro x queue refills D rest n d hplace hqueue hcursor hcut hel hpos hmin u
  have hhead : (s.group g).classQueue c.cls = f :: more := hqueue
  have hD : ∀ m, D m = s.deficitAt g m := fun _ => rfl
  have hchoice : (refill g s).robinChoice g = some l := robinChoice_refill hel hpos hmin
  have hslice : sliceSegment g (s.group g).segSize (s.group g).nextSeq c f = d := sliceSegment_eq g _ _ hcut
  have hu : placeOn g l d (refill g s) = u := by
    have hmod : ∀ w : State, (w.lane l).deficit = D l →
        w.modLane l (fun y => { y with queue := y.queue ++ [d], deficit := y.deficit - 1 }) =
          w.modLane l fun y => { y with queue := y.queue ++ [d], deficit := D l - 1 } := fun w hw =>
      State.modLane_congr (by rw [hw])
    unfold placeOn
    rw [hmod _ (by rw [refill_lane_eq]; rfl), refill_eq]
    rfl
  have hexec : exec (.segmentPlacement g) s = .next
      (if d.last then frameLeaves g c.cls f u
      else u.modGroup g fun y => { y with cursor := some { c with cut := c.cut + d.payload.length } }) := by
    refine congrArg Host.Outcome.next ?_
    unfold placeSegment
    rw [if_neg (by rw [hplace]; decide), chooseFrame_of hhead hcursor]
    dsimp only
    rw [hchoice]
    dsimp only
    rw [hslice, hu]
  rw [hexec]
  by_cases hmore : (s.group g).segSize < f.bonded.length - c.cut
  · have hlast : d.last = false := decide_eq_false (Nat.not_le.2 hmore)
    have hlen : d.payload.length = n := by
      change ((f.bonded.drop c.cut).take n).length = n
      rw [List.length_take, List.length_drop]
      exact Nat.min_eq_left (Nat.min_le_right _ _)
    rw [hlast, if_neg Bool.false_ne_true, hlen]
    exact congrArg Host.Outcome.next (if_pos hmore).symm
  · have hlast : d.last = true := decide_eq_true (Nat.not_lt.1 hmore)
    rw [hlast, if_pos rfl]
    refine congrArg Host.Outcome.next (Eq.trans ?_ (if_neg hmore).symm)
    have hq : (u.group g).classQueue c.cls = f :: more := by
      rw [← hu, placeOn_group, refill_group]
      exact hhead
    clear_value u
    rw [frameLeaves_eq]
    refine congrArg (fun w => judgeHold g (State.countGroup w g .framesCut)) (State.modGroup_congr ?_)
    exact GroupState.pop_eq (y := u.group g) hq

end Sys2Proof.Machine
end

section
/-! The endings of long operations in closed form, and the timeouts (R114, R137, R139, R142, R160, R161). -/

namespace Sys2Proof.Machine

/- The kernel checks the theorems one after another. -/
set_option Elab.async false

/-! ### The ending of the operation in a slot (R161) -/

theorem slotEnds_of_inFlight {k : SlotIx} {s : State} {op : OpKind} {a e : Time} (o : OpOutcome)
    (h : (s.slot k).body = .inFlight op a e) :
    slotEnds k o s = { s.modSlot k fun x => { x with body := .complete op a e o s.timebase } with
      completionOrder := s.completionOrder ++ [k] } := by
  unfold slotEnds
  rw [h]

theorem slotEnds_of_not_inFlight {k : SlotIx} {s : State} (o : OpOutcome) (h : (s.slot k).body.isInFlight = false) :
    slotEnds k o s = s := by
  unfold slotEnds
  cases hb : (s.slot k).body with
  | inFlight op a e => rw [hb] at h; cases h
  | empty => rfl
  | complete op a e o t => rfl

/-- A slot's body once the operation in it has ended at time `now`. -/
def SlotBody.ended (o : OpOutcome) (now : Time) : SlotBody → SlotBody
  | .inFlight op a e => .complete op a e o now
  | b => b

theorem SlotBody.ended_of_not_inFlight {b : SlotBody} (o : OpOutcome) (now : Time) (h : b.isInFlight = false) :
    b.ended o now = b := by
  cases b with
  | inFlight op a e => cases h
  | empty => rfl
  | complete op a e o t => rfl

theorem slotEnds_slot (k : SlotIx) (o : OpOutcome) (s : State) (j : SlotIx) :
    (slotEnds k o s).slot j = if j = k then ⟨(s.slot k).gen, (s.slot k).body.ended o s.timebase⟩ else s.slot j := by
  cases h : (s.slot k).body.isInFlight with
  | false =>
    rw [slotEnds_of_not_inFlight o h, SlotBody.ended_of_not_inFlight o _ h]
    split
    · next e => rw [e]
    · rfl
  | true =>
    cases hb : (s.slot k).body with
    | inFlight op a e =>
      rw [slotEnds_of_inFlight o hb]
      exact s.slot_modSlot k j fun x => { x with body := .complete op a e o s.timebase }
    | empty => rw [hb] at h; cases h
    | complete op a e o t => rw [hb] at h; cases h

theorem slotEnds_lane (k : SlotIx) (o : OpOutcome) (s : State) (l : LaneIx) : (slotEnds k o s).lane l = s.lane l := by
  unfold slotEnds
  split <;> rfl

theorem slotEnds_group (k : SlotIx) (o : OpOutcome) (s : State) (g : GroupIx) : (slotEnds k o s).group g = s.group g := by
  unfold slotEnds
  split <;> rfl

theorem Slot.endRecords_of_inFlight {x : Slot} {k : SlotIx} {op : OpKind} {a e : Time} (o : OpOutcome)
    (h : x.body = .inFlight op a e) : x.endRecords k o = [.opDone k x.gen op o] := by
  unfold Slot.endRecords
  rw [h]

theorem laneOpEnds_of_op {l : LaneIx} {s : State} {p : LaneOp} (o : OpOutcome) (h : (s.lane l).op = some p) :
    laneOpEnds l o s = slotEnds p.slot o (s.modLane l fun x => { x with op := none }) := by
  unfold laneOpEnds
  rw [h]

theorem laneOpEnds_of_inFlight {l : LaneIx} {s : State} {p : LaneOp} {op : OpKind} {a e : Time} (o : OpOutcome)
    (h : (s.lane l).op = some p) (hk : (s.slot p.slot).body = .inFlight op a e) :
    laneOpEnds l o s = { (s.modSlot p.slot fun x => { x with body := .complete op a e o s.timebase }).modLane l fun x =>
      { x with op := none } with completionOrder := s.completionOrder ++ [p.slot] } := by
  rw [laneOpEnds_of_op o h]
  exact slotEnds_of_inFlight o hk

theorem State.laneOpRecords_of_inFlight {l : LaneIx} {s : State} {p : LaneOp} {op : OpKind} {a e : Time} (o : OpOutcome)
    (h : (s.lane l).op = some p) (hk : (s.slot p.slot).body = .inFlight op a e) :
    s.laneOpRecords l o = [.opDone p.slot (s.slot p.slot).gen op o] := by
  unfold State.laneOpRecords
  rw [h]
  exact Slot.endRecords_of_inFlight o hk

theorem NotesOnly.laneOpRecords_eq {s t : State} (h : NotesOnly s t) (l : LaneIx) (o : OpOutcome) :
    t.laneOpRecords l o = s.laneOpRecords l o := by
  unfold State.laneOpRecords
  rw [h.lane_eq]
  cases (s.lane l).op with
  | none => rfl
  | some p => simp only [h.slot_eq]

/-- A lane's operation ends after the part has changed and posted. -/
theorem Emits.endLaneOp {bodies : List NoteBody} {u v : State} (h : Emits bodies u v) (l : LaneIx) (o : OpOutcome) :
    Emits (bodies ++ u.laneOpRecords l o) (laneOpEnds l o u) (endLaneOp l o v) := by
  have he := endLaneOp_emits l o v
  rw [h.notesOnly.laneOpRecords_eq] at he
  exact (h.map (.laneOpEnds l o)).trans he

/-! ### The forced end of a drain (R114) -/

/-- The lane once its drain is forced to end. -/
def LaneState.forced (x : LaneState) : LaneState :=
  match x.role with
  | .draining _ =>
    { x with role := .off, deficit := 0, queue := []
             ctr := raiseCounter x.ctr LaneCtr.discardedOnForce.ix x.queue.length }
  | _ => x

/-- The record of a forced end. -/
def LaneState.forceRecords (l : LaneIx) (x : LaneState) : List NoteBody :=
  match x.role with
  | .draining g => [.laneRole l (.draining g) .off .timeout]
  | _ => []

theorem LaneState.forced_of_draining {x : LaneState} {g : GroupIx} (h : x.role = .draining g) :
    x.forced = { x with role := .off, deficit := 0, queue := []
                        ctr := raiseCounter x.ctr LaneCtr.discardedOnForce.ix x.queue.length } := by
  unfold LaneState.forced
  rw [h]

theorem LaneState.forced_op (x : LaneState) : x.forced.op = x.op := by
  unfold LaneState.forced
  split <;> rfl

theorem LaneState.forced_assoc (x : LaneState) : x.forced.assoc = x.assoc := by
  unfold LaneState.forced
  split <;> rfl

theorem flush_eq (l : LaneIx) (c : LaneCtr) (s : State) :
    flush l c s = s.modLane l fun x => { x with queue := [], ctr := raiseCounter x.ctr c.ix x.queue.length } := by
  unfold flush State.countLane
  rw [State.modLane_modLane]
  exact State.modLane_congr rfl

theorem forceOff_emits (l : LaneIx) (s : State) :
    Emits ((s.lane l).forceRecords l) (s.modLane l LaneState.forced) (forceOff l s) := by
  unfold forceOff LaneState.forceRecords
  cases h : (s.lane l).role with
  | draining g =>
    have hlane : ((flush l .discardedOnForce s).lane l).role = .draining g := by
      rw [flush_eq, State.lane_modLane_same, h]
    have he := setRole_emits (s := flush l .discardedOnForce s) (new := .off) .timeout (by rw [hlane]; rfl) rfl
    rw [hlane, flush_eq, State.modLane_modLane,
      State.modLane_congr (h := LaneState.forced) (by rw [LaneState.forced_of_draining h])] at he
    rw [flush_eq]
    exact he
  | off => exact .of_eq (State.modLane_self (by simp [LaneState.forced, h]))
  | probation g => exact .of_eq (State.modLane_self (by simp [LaneState.forced, h]))
  | active g => exact .of_eq (State.modLane_self (by simp [LaneState.forced, h]))
  | withdrawn g => exact .of_eq (State.modLane_self (by simp [LaneState.forced, h]))

/-- The lane once its drain is forced to end, if it is of the disable set. -/
def LaneState.forcedIn (set : LaneSet) (l : LaneIx) (x : LaneState) : LaneState := if inSet set l then x.forced else x

/-- The drains of a disable set are forced to end. -/
theorem forceAll_emits (set : LaneSet) (s : State) :
    Emits (allLanes.flatMap fun l => if inSet set l then (s.lane l).forceRecords l else [])
      (allLanes.foldl (fun s l => s.modLane l (LaneState.forcedIn set l)) s)
      (allLanes.foldl (fun s l => if inSet set l then forceOff l s else s) s) := by
  refine foldl_emits (rec := fun l x => if inSet set l then x.forceRecords l else []) (fun s l => ?_) allLanes_nodup s
  by_cases hl : inSet set l = true
  · rw [if_pos hl, if_pos hl, State.modLane_congr (h := LaneState.forced) (by rw [LaneState.forcedIn, if_pos hl])]
    exact forceOff_emits l s
  · rw [if_neg hl, if_neg hl]
    exact .of_eq (State.modLane_self (by rw [LaneState.forcedIn, if_neg hl]))

/-! ### The timeouts -/

theorem operationExpires_of_laneAdd {s : State} {k : SlotIx} {l : LaneIx} {a e : Time}
    (h : (s.slot k).body = .inFlight (.laneAdd l) a e) : operationExpires k s = timeoutAdd l (s.passTo e) := by
  unfold operationExpires
  rw [h]

theorem operationExpires_of_laneRemove {s : State} {k : SlotIx} {l : LaneIx} {a e : Time}
    (h : (s.slot k).body = .inFlight (.laneRemove l) a e) : operationExpires k s = timeoutRemove l (s.passTo e) := by
  unfold operationExpires
  rw [h]

theorem operationExpires_of_groupDisable {s : State} {k : SlotIx} {g : GroupIx} {a e : Time}
    (h : (s.slot k).body = .inFlight (.groupDisable g) a e) : operationExpires k s = timeoutDisable g (s.passTo e) := by
  unfold operationExpires
  rw [h]

theorem operationExpires_of_not_inFlight {s : State} {k : SlotIx}
    (h : ∀ op a e, (s.slot k).body ≠ .inFlight op a e) : operationExpires k s = s := by
  unfold operationExpires
  split
  · next hb => exact absurd hb (h _ _ _)
  · next hb => exact absurd hb (h _ _ _)
  · next hb => exact absurd hb (h _ _ _)
  · rfl

theorem timeoutAdd_emits {l : LaneIx} {s : State} (h : (s.lane l).role.isActive = false) :
    Emits (.laneRole l (s.lane l).role .off .timeout :: s.laneOpRecords l .timeout)
      (laneOpEnds l .timeout (s.modLane l fun x => { x with role := .off, deficit := 0 })) (timeoutAdd l s) := by
  have he := (setRole_emits (new := .off) .timeout h rfl).endLaneOp l .timeout
  have hrec : (s.modLane l fun x => { x with role := .off, deficit := 0 }).laneOpRecords l .timeout =
      s.laneOpRecords l .timeout := by
    unfold State.laneOpRecords
    rw [State.lane_modLane_same]
    rfl
  rw [hrec] at he
  exact he

theorem timeoutRemove_emits (l : LaneIx) (s : State) :
    Emits ((s.lane l).forceRecords l ++ s.laneOpRecords l .timeout)
      (laneOpEnds l .timeout (s.modLane l LaneState.forced)) (timeoutRemove l s) := by
  have he := (forceOff_emits l s).endLaneOp l .timeout
  have hrec : (s.modLane l LaneState.forced).laneOpRecords l .timeout = s.laneOpRecords l .timeout := by
    unfold State.laneOpRecords
    rw [State.lane_modLane_same, LaneState.forced_op]
    rfl
  rw [hrec] at he
  exact he

/-- A lane's operation in flight ends with the lane changed: the part, as the statements put it. -/
theorem laneOpEnds_modLane {s : State} {l : LaneIx} {k : SlotIx} {gen : BitVec 12} {kind : LaneOpKind} {g : GroupIx}
    {op : OpKind} {a e : Time} (o : OpOutcome) (f : LaneState → LaneState) (hf : (f (s.lane l)).op = (s.lane l).op)
    (hgen : (s.slot k).gen = gen) (hk : (s.slot k).body = .inFlight op a e) (hop : (s.lane l).op = some ⟨kind, k, gen, g⟩) :
    laneOpEnds l o (s.modLane l f) =
      ({ s.modSlot k fun _ => ⟨gen, .complete op a e o s.timebase⟩ with
        completionOrder := s.completionOrder ++ [k] } : State).modLane l fun x => { f x with op := none } := by
  have hop' : ((s.modLane l f).lane l).op = some ⟨kind, k, gen, g⟩ := by rw [State.lane_modLane_same, hf, hop]
  rw [laneOpEnds_of_inFlight o hop' hk]
  have hslot : (s.modSlot k fun x => { x with body := .complete op a e o s.timebase }) =
      s.modSlot k fun _ => ⟨gen, .complete op a e o s.timebase⟩ := State.modSlot_congr (by rw [← hgen])
  have hswap : ∀ A : Slot → Slot, (s.modLane l f).modSlot k A = (s.modSlot k A).modLane l f := fun _ => rfl
  have horder : ∀ (u : State) (h : LaneState → LaneState) (ks : List SlotIx),
      ({ u.modLane l h with completionOrder := ks } : State) = ({ u with completionOrder := ks } : State).modLane l h :=
    fun _ _ _ => rfl
  have htime : (s.modLane l f).timebase = s.timebase := rfl
  have hks : (s.modLane l f).completionOrder = s.completionOrder := rfl
  rw [htime, hks, hswap, State.modLane_modLane, hslot, horder]

theorem State.laneOpRecords_eq {s : State} {l : LaneIx} {k : SlotIx} {gen : BitVec 12} {kind : LaneOpKind} {g : GroupIx}
    {op : OpKind} {a e : Time} (o : OpOutcome) (hgen : (s.slot k).gen = gen) (hk : (s.slot k).body = .inFlight op a e)
    (hop : (s.lane l).op = some ⟨kind, k, gen, g⟩) : s.laneOpRecords l o = [.opDone k gen op o] := by
  rw [State.laneOpRecords_of_inFlight o hop hk, ← hgen]

theorem State.groupDisabled_lane (s : State) (g : GroupIx) (l : LaneIx) :
    (s.groupDisabled g).lane l = (s.lane l).dropped g := s.lane_dropped g l

theorem State.groupDisabled_group (s : State) (g : GroupIx) :
    (s.groupDisabled g).group g = ((s.group g).discarded .disableDiscard).disabled := by
  unfold State.groupDisabled
  rw [State.group_givesBack, if_pos rfl, State.group_dropped]

theorem State.groupDisabled_group_of_ne (s : State) {g h : GroupIx} (hn : h ≠ g) :
    (s.groupDisabled g).group h = s.group h := by
  unfold State.groupDisabled
  rw [State.group_givesBack, if_neg hn, State.group_dropped]

theorem State.groupDisabled_slot (s : State) (g : GroupIx) (k : SlotIx) : (s.groupDisabled g).slot k = s.slot k := rfl

/-- The part once the GROUP-DISABLE of `g` has timed out, its slot aside. -/
def State.disableForced (s : State) (g : GroupIx) (set : LaneSet) : State :=
  (allLanes.foldl (fun s l => s.modLane l (LaneState.forcedIn set l)) s).groupDisabled g

theorem timeoutDisable_noted {g : GroupIx} {s : State} {d : DisableRec} (h : (s.group g).disable = some d) :
    Noted (slotEnds d.slot .timeout (s.disableForced g d.set)) (timeoutDisable g s) := by
  unfold timeoutDisable
  rw [h]
  have hforce := (forceAll_emits d.set s).noted
  have hblind : NoteBlind fun u => slotEnds d.slot .timeout (u.groupDisabled g) :=
    (NoteBlind.slotEnds ..).comp ((NoteBlind.givesBack g _ _).comp (.withLanes _))
  exact (hforce.map hblind).trans (completeDisable_emits g d .timeout _).noted

theorem State.disableForced_lane (s : State) (g : GroupIx) (set : LaneSet) (l : LaneIx) :
    (s.disableForced g set).lane l = ((s.lane l).forcedIn set l).dropped g := by
  unfold State.disableForced
  rw [State.groupDisabled_lane, foldl_modLane_lane]

theorem State.disableForced_group (s : State) (g : GroupIx) (set : LaneSet) :
    (s.disableForced g set).group g = ((s.group g).discarded .disableDiscard).disabled := by
  unfold State.disableForced
  rw [State.groupDisabled_group, foldl_modLane]
  rfl

theorem State.disableForced_slot (s : State) (g : GroupIx) (set : LaneSet) (k : SlotIx) :
    (s.disableForced g set).slot k = s.slot k := by
  unfold State.disableForced
  rw [foldl_modLane]
  rfl

theorem State.disableForced_timebase (s : State) (g : GroupIx) (set : LaneSet) :
    (s.disableForced g set).timebase = s.timebase := by
  unfold State.disableForced
  rw [foldl_modLane]
  rfl

theorem LaneState.forcedIn_assoc (set : LaneSet) (l : LaneIx) (x : LaneState) : (x.forcedIn set l).assoc = x.assoc := by
  unfold LaneState.forcedIn
  split
  · exact x.forced_assoc
  · rfl

/-- An association dropped with its group (R142). -/
theorem LaneState.dropped_assoc (g : GroupIx) (x : LaneState) :
    (x.dropped g).assoc = if x.assoc.group? = some g then .none else x.assoc := by
  unfold LaneState.dropped
  split <;> rfl

theorem LaneState.dropped_role (g : GroupIx) (x : LaneState) : (x.dropped g).role = x.role := by
  unfold LaneState.dropped
  split <;> rfl

theorem LaneState.dropped_queue (g : GroupIx) (x : LaneState) : (x.dropped g).queue = x.queue := by
  unfold LaneState.dropped
  split <;> rfl

theorem LaneState.dropped_ctr (g : GroupIx) (x : LaneState) : (x.dropped g).ctr = x.ctr := by
  unfold LaneState.dropped
  split <;> rfl

/-- Settles O47: each timeout's own operation, its lanes changed as R114 and R137 to R142 give. -/
theorem operationsTimeOut : Obligations.OperationsTimeOut := by
  intro s k
  refine ⟨fun h => congrArg Host.Outcome.next (operationExpires_of_not_inFlight h), fun a e gen hgen => ?_⟩
  dsimp only
  refine ⟨fun l g hk hop hrole => ?_, fun l g hk hop => ⟨fun hrole => ?_, fun hrole => ?_⟩, fun g d hk hd hslot => ?_⟩
  · have he := timeoutAdd_emits (l := l) (s := s.passTo e) (by rw [State.lane_passTo, hrole]; rfl)
    rw [laneOpEnds_modLane (s := s.passTo e) .timeout (fun x => { x with role := .off, deficit := 0 }) rfl hgen hk hop,
      State.laneOpRecords_eq (s := s.passTo e) .timeout hgen hk hop] at he
    rw [State.lane_passTo, hrole] at he
    exact exists_next_of_emits (congrArg Host.Outcome.next (operationExpires_of_laneAdd hk)) he le_rfl ⟨rfl, rfl, rfl⟩
  · have he := timeoutRemove_emits l (s.passTo e)
    have hforced : LaneState.forced (s.lane l) = s.lane l := by unfold LaneState.forced; rw [hrole]
    rw [laneOpEnds_modLane (s := s.passTo e) .timeout LaneState.forced (LaneState.forced_op _) hgen hk hop,
      State.laneOpRecords_eq (s := s.passTo e) .timeout hgen hk hop] at he
    rw [State.lane_passTo, LaneState.forceRecords, hrole] at he
    rw [State.modLane_congr (h := fun x => { x with op := none })
      (congrArg (fun x : LaneState => { x with op := none }) hforced)] at he
    exact exists_next_of_emits (congrArg Host.Outcome.next (operationExpires_of_laneRemove hk)) he le_rfl ⟨rfl, rfl, rfl⟩
  · have he := timeoutRemove_emits l (s.passTo e)
    rw [laneOpEnds_modLane (s := s.passTo e) .timeout LaneState.forced (LaneState.forced_op _) hgen hk hop,
      State.laneOpRecords_eq (s := s.passTo e) .timeout hgen hk hop] at he
    rw [State.lane_passTo, LaneState.forceRecords, hrole] at he
    unfold State.countLane
    rw [State.modLane_modLane]
    rw [State.modLane_congr (h := fun x => 
      { x with role := .off, deficit := 0, op := none, queue := []
               ctr := raiseCounter x.ctr LaneCtr.discardedOnForce.ix (s.lane l).queue.length })
      (congrArg (fun x : LaneState => { x with op := none }) (LaneState.forced_of_draining hrole))] at he
    exact exists_next_of_emits (congrArg Host.Outcome.next (operationExpires_of_laneRemove hk)) he le_rfl ⟨rfl, rfl, rfl⟩
  · have hn := (timeoutDisable_noted (s := s.passTo e) hd).notesOnly
    have hgroup : (timeoutDisable g (s.passTo e)).group g = ((s.group g).discarded .disableDiscard).disabled := by
      rw [hn.group_eq, slotEnds_group, State.disableForced_group, State.group_passTo]
    have hlane : ∀ l, (timeoutDisable g (s.passTo e)).lane l = ((s.lane l).forcedIn d.set l).dropped g := fun l => by
      rw [hn.lane_eq, slotEnds_lane, State.disableForced_lane, State.lane_passTo]
    refine ⟨_, congrArg Host.Outcome.next (operationExpires_of_groupDisable hk), ?_⟩
    rw [hgroup]
    refine ⟨rfl, rfl, rfl, rfl, rfl, rfl, fun l => ?_, fun l h hl hrole => ?_, ?_⟩
    · rw [hlane, LaneState.dropped_assoc, LaneState.forcedIn_assoc]
    · have hforced : (s.lane l).forcedIn d.set l = (s.lane l).forced := by rw [LaneState.forcedIn, if_pos hl]
      unfold State.laneCount
      rw [hlane, LaneState.dropped_role, LaneState.dropped_queue, LaneState.dropped_ctr, hforced,
        LaneState.forced_of_draining hrole]
      exact ⟨rfl, rfl, raiseCounter_get ..⟩
    · rw [hn.slot_eq, slotEnds_slot, if_pos hslot.symm, State.disableForced_slot, State.disableForced_timebase, hslot]
      change (⟨(s.slot k).gen, (s.slot k).body.ended .timeout (s.passTo e).timebase⟩ : Slot) = _
      rw [hgen, hk]
      rfl

end Sys2Proof.Machine
end

section
/-! LANE-ADD and LANE-REMOVE in closed form, and the choice of a slot (R137, R139, R158, R160). -/

namespace Sys2Proof.Machine

/- The kernel checks the theorems one after another. -/
set_option Elab.async false

/-! ### The choice of a slot (R160) -/

/-- The lowest-numbered slot with a property. -/
theorem allSlots_find (p : SlotIx → Bool) (k : SlotIx) :
    allSlots.find? p = some k ↔ p k = true ∧ ∀ j, j < k → p j = false := by
  have hall : allSlots = List.ofFn (id : SlotIx → SlotIx) := by decide
  have h := List.find?_ofFn_eq_some_of_injective (f := (id : SlotIx → SlotIx)) (p := p) (i := k) Function.injective_id
  rw [hall]
  simpa using h

theorem allSlots_find_none (p : SlotIx → Bool) : allSlots.find? p = none ↔ ∀ j, p j = false := by
  have hmem : ∀ j : SlotIx, j ∈ allSlots := by decide
  rw [List.find?_eq_none]
  exact ⟨fun h j => by simpa using h j (hmem j), fun h j _ => by simp [h j]⟩

theorem State.chooseSlot_of_find {s : State} {k : SlotIx}
    (h : (allSlots.find? fun k => decide ((s.slot k).body = .empty)) = some k) : s.chooseSlot = some k := by
  unfold State.chooseSlot
  rw [h]

theorem State.chooseSlot_of_no_empty {s : State} (h : ∀ j, (s.slot j).body ≠ .empty) :
    s.chooseSlot = s.completionOrder.head? := by
  unfold State.chooseSlot
  rw [(allSlots_find_none _).2 fun j => decide_eq_false (h j)]

theorem State.chooseSlot_iff (s : State) (k : SlotIx) : s.chooseSlot = some k ↔
    ((s.slot k).body = .empty ∧ ∀ j, j < k → (s.slot j).body ≠ .empty) ∨
      ((∀ j, (s.slot j).body ≠ .empty) ∧ s.completionOrder.head? = some k) := by
  cases hf : allSlots.find? fun k => decide ((s.slot k).body = .empty) with
  | none =>
    have hno : ∀ j, (s.slot j).body ≠ .empty := fun j => of_decide_eq_false ((allSlots_find_none _).1 hf j)
    rw [State.chooseSlot_of_no_empty hno]
    exact ⟨fun h => .inr ⟨hno, h⟩, fun h => h.elim (fun h => absurd h.1 (hno k)) And.right⟩
  | some i =>
    rw [State.chooseSlot_of_find hf]
    obtain ⟨hi, hbefore⟩ := (allSlots_find _ i).1 hf
    have hempty : (s.slot i).body = .empty := of_decide_eq_true hi
    refine ⟨fun h => ?_, fun h => ?_⟩
    · cases h
      exact .inl ⟨hempty, fun j hj => of_decide_eq_false (hbefore j hj)⟩
    · rcases h with ⟨hk, hmin⟩ | ⟨hno, -⟩
      · rcases lt_trichotomy i k with hlt | heq | hgt
        · exact absurd hempty (hmin i hlt)
        · rw [heq]
        · exact absurd hk (of_decide_eq_false (hbefore k hgt))
      · exact absurd hempty (hno i)

/-- The choice reads the slots and the order of completion alone. -/
theorem State.chooseSlot_congr {s t : State} (hslot : ∀ k, t.slot k = s.slot k)
    (horder : t.completionOrder = s.completionOrder) : t.chooseSlot = s.chooseSlot := by
  unfold State.chooseSlot
  rw [horder]
  simp only [hslot]

theorem State.chooseSlot_ne_none {s : State} (h : s.completionOrder ≠ []) : s.chooseSlot ≠ none := by
  unfold State.chooseSlot
  split
  · exact Option.some_ne_none _
  · rwa [Ne, List.head?_eq_none_iff]

/-! ### A slot given (R160) -/

theorem takeSlot_gen (k : SlotIx) (op : OpKind) (s : State) : ((takeSlot k op s).slot k).gen = (s.slot k).gen + 1 :=
  congrArg Slot.gen ((s.slot_modSlot k k fun x =>
    ⟨x.gen + 1, .inFlight op s.timebase (s.after (ms s.dev.opTimeout))⟩).trans (if_pos rfl))

theorem NoteBlind.takeSlot (k : SlotIx) (op : OpKind) : NoteBlind (Machine.takeSlot k op) :=
  ⟨fun _ _ => rfl, fun _ => rfl⟩

/-! ### Lanes counted -/

/-- One lane less meets a property. -/
theorem laneCountOf_without {p q : LaneIx → Bool} {l : LaneIx} (hp : p l = true) (hq : ∀ m, q m = (p m && decide (m ≠ l))) :
    laneCountOf q = laneCountOf p - 1 := by
  have hmem : l ∈ allLanes.filter p := List.mem_filter.2 ⟨mem_allLanes l, hp⟩
  have herase : allLanes.filter q = (allLanes.filter p).erase l := by
    rw [List.Nodup.erase_eq_filter (allLanes_nodup.filter p), List.filter_filter]
    refine List.filter_congr fun m _ => ?_
    rw [hq, Bool.and_comm]
    by_cases h : m = l <;> simp [h]
  rw [laneCountOf, laneCountOf, herase, List.length_erase_of_mem hmem]

/-- A lane that leaves ACTIVE. -/
theorem State.activeCount_modLane {s : State} {l : LaneIx} {g : GroupIx} {f : LaneState → LaneState}
    (h : (s.lane l).role = .active g) (hf : (f (s.lane l)).role.isActive = false) :
    (s.modLane l f).activeCount g = s.activeCount g - 1 := by
  refine laneCountOf_without (l := l) (by simp [State.isActive, h]) fun m => ?_
  unfold State.isActive
  rw [State.lane_modLane]
  by_cases hm : m = l
  · have hne : (f (s.lane l)).role ≠ .active g := fun e => by rw [e] at hf; cases hf
    simp [hm, hne]
  · simp [hm]

/-! ### Roles judged (R136) -/

/-- A lane leaves ACTIVE: the transmit state of the group is judged. -/
theorem setRole_of_active {l : LaneIx} {g : GroupIx} {new : Role} (c : RoleCause) {s : State}
    (h : (s.lane l).role = .active g) (hn : new.isActive = false) :
    Noted ((s.modLane l fun x => { x with role := new, deficit := 0 }).modGroup g fun x =>
      { x with tx := judgedTx x.tx (s.activeCount g - 1) x.minLanes }) (setRole l new c s) := by
  have hpost := post_emits (.laneRole l (s.lane l).role new c) (s.modLane l fun x => { x with role := new, deficit := 0 })
  have hjudge := judgeTx_noted g (post (.laneRole l (s.lane l).role new c)
    (s.modLane l fun x => { x with role := new, deficit := 0 }))
  have hcount : ∀ u : State, u.lanes = (s.modLane l fun x => { x with role := new, deficit := 0 }).lanes →
      u.activeCount g = s.activeCount g - 1 := fun u hu => by
    rw [← State.activeCount_modLane (f := fun x => { x with role := new, deficit := 0 }) h hn]
    unfold State.activeCount State.isActive State.lane
    rw [hu]
  unfold State.txJudged at hjudge
  rw [hcount _ hpost.notesOnly.lanes_eq] at hjudge
  unfold setRole
  dsimp only
  rw [judgeTxOf_of_not_active hn]
  rw [h] at hpost hjudge ⊢
  exact (hpost.noted.map (.modGroup g _)).trans hjudge

/-- The judged transmit state as the statements put it. -/
theorem judgedTx_eq (t : TxState) (n m : Nat) :
    judgedTx t n m = if t = .up ∧ n < m then .forming else if t = .forming ∧ m ≤ n then .up else t := by
  cases t <;> simp [judgedTx]

/-! ### LANE-ADD (R137, R158) -/

theorem TxState.cutting_eq_false (t : TxState) : t.cutting = false ↔ t ≠ .forming ∧ t ≠ .up := by
  cases t <;> simp [TxState.cutting]

theorem reqLaneAdd_eq {s : State} {l : LaneIx} {g : GroupIx} {lane group : Byte} (hl : lane.toNat = l.val)
    (hg : group.toNat = g.val) :
    (Req.laneAdd group lane).run s =
      if (s.group g).tx.cutting = false then refuse .state s
      else if (s.lane l).inService = false ∨ (s.lane l).diag ≠ .none then refuse .state s
      else if (s.lane l).role ≠ .off then refuse .conflict s
      else if (s.lane l).assoc.group? ≠ none ∧ (s.lane l).assoc.group? ≠ some g then refuse .conflict s
      else if (s.lane l).op ≠ none ∨ s.inDisableSet l = true then refuse .conflict s
      else match s.chooseSlot with
        | none => refuse .noRoom s
        | some k => acceptedReply k ((s.slot k).gen + 1) (acceptAdd g l k s) := by
  change reqLaneAdd group lane s = _
  have hengaged : s.engaged l = true ↔ (s.lane l).op ≠ none ∨ s.inDisableSet l = true := by
    unfold State.engaged
    rw [Bool.or_eq_true, Option.isSome_iff_ne_none]
  have hattached : (s.lane l).assoc.group?.isSome = true ∧ (s.lane l).assoc.group? ≠ some g ↔
      (s.lane l).assoc.group? ≠ none ∧ (s.lane l).assoc.group? ≠ some g := by rw [Option.isSome_iff_ne_none]
  unfold reqLaneAdd
  rw [groupOf_eq hg, laneOf_eq hl]
  simp only [Bool.not_eq_true', hengaged, hattached] <;> rfl

/-- The operation of an accepted request stands in its slot, its lane in its role (R158, R160). -/
def State.operating (s : State) (l : LaneIx) (k : SlotIx) (kind : LaneOpKind) (g : GroupIx) (role : Role) : State :=
  (takeSlot k (kind.on l) s).modLane l fun x =>
    { x with role := role, deficit := 0, op := some ⟨kind, k, (s.slot k).gen + 1, g⟩ }

/-- The part with the operation of an accepted request, its lane's role unchanged. -/
def State.opGiven (s : State) (l : LaneIx) (k : SlotIx) (kind : LaneOpKind) (g : GroupIx) : State :=
  (takeSlot k (kind.on l) s).modLane l fun x => { x with op := some ⟨kind, k, (s.slot k).gen + 1, g⟩ }

theorem State.opGiven_role (s : State) (l : LaneIx) (k : SlotIx) (kind : LaneOpKind) (g : GroupIx) (role : Role) :
    ((s.opGiven l k kind g).modLane l fun x => { x with role := role, deficit := 0 }) = s.operating l k kind g role :=
  State.modLane_modLane ..

theorem State.opGiven_lane (s : State) (l : LaneIx) (k : SlotIx) (kind : LaneOpKind) (g : GroupIx) :
    (s.opGiven l k kind g).lane l = { s.lane l with op := some ⟨kind, k, (s.slot k).gen + 1, g⟩ } :=
  State.lane_modLane_same _ l fun x => { x with op := some ⟨kind, k, (s.slot k).gen + 1, g⟩ }

theorem acceptAdd_eq (g : GroupIx) (l : LaneIx) (k : SlotIx) (s : State) :
    acceptAdd g l k s = setRole l (.probation g) .add (s.opGiven l k .add g) := by
  unfold acceptAdd State.opGiven
  dsimp only
  rw [takeSlot_gen]
  rfl

theorem acceptAdd_emits {g : GroupIx} {l : LaneIx} {s : State} (k : SlotIx) (h : (s.lane l).role = .off) :
    Emits [.laneRole l .off (.probation g) .add] (s.operating l k .add g (.probation g)) (acceptAdd g l k s) := by
  have he := setRole_emits (l := l) (new := .probation g) (s := s.opGiven l k .add g) .add
    (by rw [State.opGiven_lane]; change (s.lane l).role.isActive = false; rw [h]; rfl) rfl
  rw [State.opGiven_role, State.opGiven_lane, ← acceptAdd_eq] at he
  rw [h] at he
  exact he

/-! ### LANE-REMOVE (R139, R158) -/

theorem Role.group_eq_none (r : Role) : r.group? = none ↔ r = .off := by cases r <;> simp [Role.group?]

theorem reqLaneRemove_eq {s : State} {l : LaneIx} {lane : Byte} (hl : lane.toNat = l.val) :
    (Req.laneRemove lane).run s =
      if s.inDisableSet l = true then refuse .conflict s
      else match (s.lane l).role.group? with
        | none => refuse .state s
        | some g =>
          if s.removing l = true then refuse .conflict s
          else match (endLaneOp l .aborted s).chooseSlot with
            | none => refuse .noRoom s
            | some k => acceptedReply k (((endLaneOp l .aborted s).slot k).gen + 1)
                (acceptRemove g l k (endLaneOp l .aborted s)) := by
  change reqLaneRemove lane s = _
  unfold reqLaneRemove
  rw [laneOf_eq hl] <;> rfl

theorem acceptRemove_eq (g : GroupIx) (l : LaneIx) (k : SlotIx) (s : State) :
    acceptRemove g l k s = removeRole l (s.opGiven l k .remove g) := by
  unfold acceptRemove State.opGiven
  dsimp only
  rw [takeSlot_gen]
  rfl

/-- A lane that is not ACTIVE is removed: it becomes OFF. -/
theorem acceptRemove_emits {g : GroupIx} {l : LaneIx} {s : State} (k : SlotIx)
    (h : (s.lane l).role = .withdrawn g ∨ (s.lane l).role = .probation g) :
    Emits [.laneRole l (s.lane l).role .off .remove] (s.operating l k .remove g .off) (acceptRemove g l k s) := by
  have hrole : ((s.opGiven l k .remove g).lane l).role = (s.lane l).role := by rw [State.opGiven_lane]
  have hinactive : (s.lane l).role.isActive = false := by rcases h with h | h <;> rw [h] <;> rfl
  have he := setRole_emits (l := l) (new := .off) (s := s.opGiven l k .remove g) .remove (by rw [hrole]; exact hinactive) rfl
  have hremove : removeRole l (s.opGiven l k .remove g) = setRole l .off .remove (s.opGiven l k .remove g) := by
    unfold removeRole
    rw [hrole]
    rcases h with h | h <;> rw [h]
  rw [State.opGiven_role, hrole, ← hremove, ← acceptRemove_eq] at he
  exact he

/-- An ACTIVE lane is removed: it drains, and the transmit state of its group is judged. -/
theorem acceptRemove_of_active {g : GroupIx} {l : LaneIx} {s : State} (k : SlotIx) (h : (s.lane l).role = .active g) :
    Noted ((s.operating l k .remove g (s.drainRole l g)).modGroup g fun x =>
      { x with tx := judgedTx x.tx (s.activeCount g - 1) x.minLanes }) (acceptRemove g l k s) := by
  have hlane := s.opGiven_lane l k .remove g
  have hrole : ((s.opGiven l k .remove g).lane l).role = .active g := by rw [hlane, h]
  have hdrain : (s.opGiven l k .remove g).drainRole l g = s.drainRole l g := by
    unfold State.drainRole
    rw [hlane]
  have hinactive : (s.drainRole l g).isActive = false := by
    unfold State.drainRole
    split <;> rfl
  have hcount : (s.opGiven l k .remove g).activeCount g = s.activeCount g := by
    unfold State.activeCount State.isActive
    refine congrArg laneCountOf (funext fun m => ?_)
    unfold State.opGiven
    rw [State.lane_modLane]
    split
    · next e => rw [e]; rfl
    · rfl
  have hremove : removeRole l (s.opGiven l k .remove g) = setRole l (s.drainRole l g) .remove (s.opGiven l k .remove g) := by
    unfold removeRole
    rw [hrole]
    change setRole l ((s.opGiven l k .remove g).drainRole l g) .remove _ = _
    rw [hdrain]
  have hn := setRole_of_active (new := s.drainRole l g) .remove hrole hinactive
  rw [State.opGiven_role, hcount, ← hremove, ← acceptRemove_eq] at hn
  exact hn

/-! ### The endings a request makes -/

/-- A LANE-ADD that a LANE-REMOVE aborts leaves its slot to choose (R139, R160). -/
theorem laneOpEnds_chooses {s : State} {l : LaneIx} {p : LaneOp} {op : OpKind} {a e : Time} (o : OpOutcome)
    (hop : (s.lane l).op = some p) (hk : (s.slot p.slot).body = .inFlight op a e) :
    (laneOpEnds l o s).chooseSlot ≠ none := by
  refine State.chooseSlot_ne_none ?_
  rw [laneOpEnds_of_inFlight o hop hk]
  simp

theorem endLaneOp_of_none {s : State} {l : LaneIx} (o : OpOutcome) (h : (s.lane l).op = none) : endLaneOp l o s = s := by
  unfold endLaneOp
  rw [h]

theorem Emits.chooseSlot_eq {bodies : List NoteBody} {u v : State} (h : Emits bodies u v) : v.chooseSlot = u.chooseSlot :=
  State.chooseSlot_congr h.notesOnly.slot_eq h.notesOnly.completionOrder_eq

theorem NoteBlind.operating (l : LaneIx) (k : SlotIx) (kind : LaneOpKind) (g : GroupIx) (role : Role) (gen : BitVec 12) :
    NoteBlind fun s => (Machine.takeSlot k (kind.on l) s).modLane l fun x =>
      { x with role := role, deficit := 0, op := some ⟨kind, k, gen, g⟩ } :=
  (NoteBlind.modLane l _).comp (.takeSlot k _)

theorem slotEnds_gen (k : SlotIx) (o : OpOutcome) (s : State) (j : SlotIx) :
    ((slotEnds k o s).slot j).gen = (s.slot j).gen := by
  rw [slotEnds_slot]
  split
  · next h => rw [h]
  · rfl

theorem laneOpEnds_gen (l : LaneIx) (o : OpOutcome) (s : State) (k : SlotIx) :
    ((laneOpEnds l o s).slot k).gen = (s.slot k).gen := by
  unfold laneOpEnds
  split
  · rfl
  · exact slotEnds_gen ..

theorem laneOpEnds_role (l : LaneIx) (o : OpOutcome) (s : State) (m : LaneIx) :
    ((laneOpEnds l o s).lane m).role = (s.lane m).role := by
  unfold laneOpEnds
  split
  · rfl
  · rw [slotEnds_lane, State.lane_modLane]
    split
    · next h => rw [h]
    · rfl

/-- The LANE-REMOVE of a lane whose LANE-ADD it aborts. -/
theorem removeAborting_emits {s : State} {l : LaneIx} {h : GroupIx} (k : SlotIx) (hrole : (s.lane l).role = .probation h) :
    Emits (s.laneOpRecords l .aborted ++ [.laneRole l (.probation h) .off .remove])
      ((laneOpEnds l .aborted s).operating l k .remove h .off) (acceptRemove h l k (endLaneOp l .aborted s)) := by
  have hend := endLaneOp_emits l .aborted s
  have hrole' : ((endLaneOp l .aborted s).lane l).role = .probation h := by
    rw [hend.notesOnly.lane_eq, laneOpEnds_role, hrole]
  have hrem := acceptRemove_emits (s := endLaneOp l .aborted s) k (.inr hrole')
  rw [hrole'] at hrem
  unfold State.operating at hrem ⊢
  rw [hend.notesOnly.slot_eq] at hrem
  exact (hend.map (.operating l k .remove h .off _)).trans hrem

/-- The aborted LANE-ADD of a lane out of the table, the LANE-REMOVE in. -/
theorem operating_laneOpEnds {s : State} {l : LaneIx} {p : LaneOp} {op : OpKind} {a e : Time} (k : SlotIx) (h : GroupIx)
    (hop : (s.lane l).op = some p) (hk : (s.slot p.slot).body = .inFlight op a e) :
    (laneOpEnds l .aborted s).operating l k .remove h .off =
      (takeSlot k (.laneRemove l) { s.modSlot p.slot fun x => { x with body := .complete op a e .aborted s.timebase } with
        completionOrder := s.completionOrder ++ [p.slot] }).modLane l fun x =>
          { x with role := .off, deficit := 0, op := some ⟨.remove, k, (s.slot k).gen + 1, h⟩ } := by
  have hgen := laneOpEnds_gen l .aborted s k
  unfold State.operating
  rw [hgen, laneOpEnds_of_inFlight .aborted hop hk]
  generalize hu : s.modSlot p.slot (fun x => { x with body := .complete op a e .aborted s.timebase }) = u
  exact State.modLane_modLane (takeSlot k (.laneRemove l) { u with completionOrder := s.completionOrder ++ [p.slot] }) l
    (fun x => { x with op := none }) fun x =>
      { x with role := .off, deficit := 0, op := some ⟨.remove, k, (s.slot k).gen + 1, h⟩ }

/-! ### The two requests answered -/

/-- A refused entry answers its code and changes nothing. -/
theorem entryRow_refused {o : Origin} {code : Byte} {clears : Bool} {r : Req} {s : State} {c : ResultCode}
    (h : s.Admits o code clears) (hr : r.run s = refuse c s) :
    (.next (entryRow o code clears (some r) s) : Host.Outcome State Fault Refusal) = .next (s.answered code c []) :=
  congrArg Host.Outcome.next (entryRow_reply h hr)

/-- Settles O45: the choice of a slot, and both requests condition by condition. -/
theorem laneOperationsJudged : Obligations.LaneOperationsJudged := by
  refine ⟨State.chooseSlot_iff, fun s o lane group => ⟨fun hadm h => ?_, fun hadm h => ?_⟩,
    fun s o l g lane group hl hg => ⟨fun hadm => ?_, fun hadm => ?_⟩⟩
  · have hr : (Req.laneAdd group lane).run s = refuse .badIndex s := by
      change reqLaneAdd group lane s = _
      unfold reqLaneAdd
      rcases h with h | h
      · rw [laneOf_eq_none h]
        cases groupOf group <;> rfl
      · rw [groupOf_eq_none h]
    exact entryRow_refused hadm hr
  · have hr : (Req.laneRemove lane).run s = refuse .badIndex s := by
      change reqLaneRemove lane s = _
      unfold reqLaneRemove
      rw [laneOf_eq_none h]
    exact entryRow_refused hadm hr
  · have hr := reqLaneAdd_eq (s := s) hl hg
    rw [if_congr ((s.group g).tx.cutting_eq_false) rfl rfl] at hr
    dsimp only
    split_ifs at hr ⊢ with htx hlane hrole hassoc hop
    · exact entryRow_refused hadm hr
    · exact entryRow_refused hadm hr
    · exact entryRow_refused hadm hr
    · exact entryRow_refused hadm hr
    · exact entryRow_refused hadm hr
    · cases hk : s.chooseSlot with
      | none =>
        rw [hk] at hr
        exact entryRow_refused hadm hr
      | some k =>
        rw [hk] at hr
        exact exists_next_of_emits (exec_laneAdd s o group lane)
          (entryRow_emits hadm hr (acceptAdd_emits k (not_not.1 hrole))) le_rfl ⟨rfl, rfl, rfl⟩
  · have hr := reqLaneRemove_eq (s := s) hl
    dsimp only
    by_cases hset : s.inDisableSet l = true
    · rw [if_pos hset] at hr ⊢
      exact entryRow_refused hadm hr
    rw [if_neg hset] at hr ⊢
    by_cases hrole : (s.lane l).role = .off
    · rw [if_pos hrole]
      rw [(Role.group_eq_none _).2 hrole] at hr
      exact entryRow_refused hadm hr
    rw [if_neg hrole]
    obtain ⟨h, hh⟩ := Option.ne_none_iff_exists'.1 (mt (Role.group_eq_none _).1 hrole)
    rw [hh] at hr
    by_cases hremoving : s.removing l = true
    · rw [if_pos hremoving]
      exact entryRow_refused hadm (hr.trans (if_pos hremoving))
    rw [if_neg hremoving]
    replace hr := hr.trans (if_neg hremoving)
    have hnames : ∀ {g r}, (s.lane l).role = r → r.group? = some g → h = g := fun hr hg => by
      rw [hr, hg] at hh
      exact (Option.some.inj hh).symm
    refine ⟨fun hop hk => ?_, fun k g hop hk hact => ?_, fun k g hop hk hwd => ?_, fun p g a e hop hprob hslot => ?_⟩
    · rw [endLaneOp_of_none _ hop, hk] at hr
      exact entryRow_refused hadm hr
    · obtain rfl := hnames hact rfl
      rw [endLaneOp_of_none _ hop, hk] at hr
      have hn := (acceptRemove_of_active k hact).notesOnly.answered 0x0B .accepted (tagBytes k ((s.slot k).gen + 1))
      refine ⟨_, congrArg Host.Outcome.next (entryRow_reply hadm hr), ?_⟩
      have hjudged := fun x : GroupState => judgedTx_eq x.tx (s.activeCount h - 1) x.minLanes
      have hdrain : s.drainRole l h = if (s.lane l).queue = [] then .off else .draining h := by
        unfold State.drainRole
        simp only [List.isEmpty_iff]
      rw [hdrain] at hn
      simp only [hjudged] at hn
      exact hn
    · obtain rfl := hnames hwd rfl
      rw [endLaneOp_of_none _ hop, hk] at hr
      have he := acceptRemove_emits k (.inl hwd)
      rw [hwd] at he
      exact exists_next_of_emits (exec_laneRemove s o lane) (entryRow_emits hadm hr he) le_rfl ⟨rfl, rfl, rfl⟩
    · obtain rfl := hnames hprob rfl
      have hbody : (s.slot p.slot).body = .inFlight (.laneAdd l) a e := by rw [hslot]
      have hends := laneOpEnds_of_inFlight .aborted hop hbody
      have hsome := laneOpEnds_chooses .aborted hop hbody
      have hchoose : (laneOpEnds l .aborted s).chooseSlot = ({ s.modSlot p.slot fun y =>
          { y with body := .complete (.laneAdd l) a e .aborted s.timebase } with
            completionOrder := s.completionOrder ++ [p.slot] } : State).chooseSlot := by
        rw [hends]
        exact State.chooseSlot_congr (fun _ => rfl) rfl
      rw [(endLaneOp_emits l .aborted s).chooseSlot_eq, hchoose] at hr
      rw [hchoose] at hsome
      generalize hw : ({ s.modSlot p.slot fun y =>
          { y with body := .complete (.laneAdd l) a e .aborted s.timebase } with
            completionOrder := s.completionOrder ++ [p.slot] } : State) = w at hr hsome ⊢
      cases hk : w.chooseSlot with
      | none => exact hsome hk
      | some k =>
        rw [hk] at hr
        have he := removeAborting_emits k hprob
        have hgen : ((endLaneOp l .aborted s).slot k).gen = (s.slot k).gen := by
          rw [(endLaneOp_emits l .aborted s).notesOnly.slot_eq, laneOpEnds_gen]
        rw [operating_laneOpEnds k h hop hbody, State.laneOpRecords_of_inFlight .aborted hop hbody, hw] at he
        rw [hslot] at he
        have hrow := entryRow_emits hadm hr he
        rw [hgen] at hrow
        have hunit : w.notes = s.notes ∧ w.nextNote = s.nextNote ∧ w.tally = s.tally := hw ▸ ⟨rfl, rfl, rfl⟩
        have hbase : w.timebase = s.timebase ∧ w.dev = s.dev ∧ w.completionOrder = s.completionOrder ++ [p.slot] :=
          hw ▸ ⟨rfl, rfl, rfl⟩
        have hgiven : takeSlot k (.laneRemove l) w = { w.modSlot k fun y =>
            ⟨y.gen + 1, .inFlight (.laneRemove l) s.timebase (s.timebase + BitVec.ofNat 32 (1000 * s.dev.opTimeout))⟩ with
              completionOrder := (s.completionOrder ++ [p.slot]).filter fun j => decide (j ≠ k) } := by
          rw [← hbase.1, ← hbase.2.1, ← hbase.2.2]
          rfl
        have hcomm : ∀ (v : State) f c data, (v.modLane l f).answered 0x0B c data = (v.answered 0x0B c data).modLane l f :=
          fun _ _ _ _ => rfl
        rw [hgiven, hcomm] at hrow
        exact exists_next_of_emits (exec_laneRemove s o lane) hrow le_rfl hunit

end Sys2Proof.Machine
end

section
/-! GROUP-DISABLE in closed form (R99, R106, R141, R142, R158). -/

namespace Sys2Proof.Machine

/- The kernel checks the theorems one after another. -/
set_option Elab.async false

/-! ### The operations aborted (R141) -/

/-- The operation on a lane acts for `g`. -/
def LaneState.actsFor (g : GroupIx) (x : LaneState) : Bool :=
  match x.op with
  | some p => decide (p.group = g)
  | none => false

/-- The lane once its operation for `g` is aborted. -/
def LaneState.aborted (g : GroupIx) (x : LaneState) : LaneState := { x with op := if x.actsFor g then none else x.op }

theorem LaneState.actsFor_iff (g : GroupIx) (x : LaneState) : x.actsFor g = true ↔ ∃ p, x.op = some p ∧ p.group = g := by
  unfold LaneState.actsFor
  cases x.op with
  | none => simp
  | some p => simp

theorem LaneState.aborted_of_not {g : GroupIx} {x : LaneState} (h : x.actsFor g = false) : x.aborted g = x := by
  unfold LaneState.aborted
  rw [h]
  rfl

/-- One lane's operation for `g` is aborted. -/
def State.opAborted (g : GroupIx) (s : State) (l : LaneIx) : State :=
  if s.opOn g l then laneOpEnds l .aborted s else s

theorem NoteBlind.opAborted (g : GroupIx) (l : LaneIx) : NoteBlind fun s => s.opAborted g l :=
  .ite (.laneOpEnds l .aborted) .id fun _ _ => Iff.rfl

theorem abortOp_noted (g : GroupIx) (s : State) (l : LaneIx) :
    Noted (s.opAborted g l) (if s.opOn g l then endLaneOp l .aborted s else s) := by
  unfold State.opAborted
  split
  · exact (endLaneOp_emits l .aborted s).noted
  · exact .refl s

theorem abortOps_noted (g : GroupIx) (s : State) : Noted (allLanes.foldl (State.opAborted g) s) (abortOps g s) := by
  unfold abortOps
  have hfold : ∀ (ls : List LaneIx) (u v : State), Noted u v → Noted (ls.foldl (State.opAborted g) u)
      (ls.foldl (fun s l => if s.opOn g l then endLaneOp l .aborted s else s) v) := by
    intro ls
    induction ls with
    | nil => exact fun u v h => h
    | cons l ls ih => exact fun u v h => ih _ _ ((h.map (.opAborted g l)).trans (abortOp_noted g v l))
  exact hfold allLanes s s (.refl s)

theorem State.opAborted_lane (g : GroupIx) (s : State) (l m : LaneIx) :
    (s.opAborted g l).lane m = if m = l then (s.lane l).aborted g else s.lane m := by
  unfold State.opAborted
  cases h : s.opOn g l with
  | false =>
    rw [if_neg (by decide), LaneState.aborted_of_not h]
    split
    · next e => rw [e]
    · rfl
  | true =>
    obtain ⟨p, hp, -⟩ := (LaneState.actsFor_iff g _).1 h
    rw [if_pos rfl, laneOpEnds_of_op .aborted hp, slotEnds_lane, State.lane_modLane]
    congr 1
    unfold LaneState.aborted
    rw [show (s.lane l).actsFor g = true from h]
    rfl

/-- The lane's operation for `g` stands in slot `j`. -/
def LaneState.opAt (g : GroupIx) (j : SlotIx) (x : LaneState) : Bool :=
  match x.op with
  | some p => decide (p.group = g ∧ p.slot = j)
  | none => false

theorem LaneState.opAt_of_not {g : GroupIx} {x : LaneState} (h : x.actsFor g = false) (j : SlotIx) : x.opAt g j = false := by
  unfold LaneState.actsFor at h
  unfold LaneState.opAt
  cases hx : x.op with
  | none => rfl
  | some p =>
    rw [hx] at h
    have hg : p.group ≠ g := of_decide_eq_false h
    simp [hg]

theorem LaneState.opAt_of_some {g : GroupIx} {x : LaneState} {p : LaneOp} (h : x.op = some p) (hg : p.group = g) (j : SlotIx) :
    x.opAt g j = decide (p.slot = j) := by
  unfold LaneState.opAt
  rw [h]
  simp [hg]

theorem State.opAborted_slot (g : GroupIx) (s : State) (l : LaneIx) (j : SlotIx) :
    (s.opAborted g l).slot j = if (s.lane l).opAt g j then ⟨(s.slot j).gen, (s.slot j).body.ended .aborted s.timebase⟩
      else s.slot j := by
  unfold State.opAborted
  cases h : s.opOn g l with
  | false =>
    rw [LaneState.opAt_of_not h]
    rfl
  | true =>
    obtain ⟨p, hp, hg⟩ := (LaneState.actsFor_iff g _).1 h
    rw [if_pos rfl, laneOpEnds_of_op .aborted hp, slotEnds_slot, LaneState.opAt_of_some hp hg]
    by_cases hj : j = p.slot
    · rw [if_pos hj, if_pos (decide_eq_true hj.symm), hj]
      rfl
    · rw [if_neg hj, if_neg (by simpa using Ne.symm hj)]
      rfl

theorem State.opAborted_timebase (g : GroupIx) (s : State) (l : LaneIx) : (s.opAborted g l).timebase = s.timebase := by
  unfold State.opAborted laneOpEnds slotEnds
  split
  · split
    · rfl
    · split <;> rfl
  · rfl

theorem State.opsAborted_lane (g : GroupIx) {ls : List LaneIx} (hn : ls.Nodup) (s : State) (m : LaneIx) :
    (ls.foldl (State.opAborted g) s).lane m = if m ∈ ls then (s.lane m).aborted g else s.lane m := by
  induction ls generalizing s with
  | nil => rfl
  | cons l ls ih =>
    obtain ⟨hl, hls⟩ := List.nodup_cons.1 hn
    rw [List.foldl_cons, ih hls, State.opAborted_lane]
    by_cases h : m = l
    · rw [if_neg (h ▸ hl), if_pos h, if_pos (h ▸ List.mem_cons_self), h]
    · simp only [List.mem_cons, h, false_or, if_false]

theorem State.opsAborted_slot (g : GroupIx) {ls : List LaneIx} (hn : ls.Nodup) (s : State) (j : SlotIx) :
    (ls.foldl (State.opAborted g) s).slot j = if ls.any fun l => (s.lane l).opAt g j then
      ⟨(s.slot j).gen, (s.slot j).body.ended .aborted s.timebase⟩ else s.slot j := by
  induction ls generalizing s with
  | nil => rfl
  | cons l ls ih =>
    obtain ⟨hl, hls⟩ := List.nodup_cons.1 hn
    have hlane : ∀ m ∈ ls, (s.opAborted g l).lane m = s.lane m := fun m hm => by
      rw [State.opAborted_lane]
      exact if_neg fun (e : m = l) => hl (e ▸ hm)
    have hsame : (ls.any fun m => ((s.opAborted g l).lane m).opAt g j) = ls.any fun m => (s.lane m).opAt g j :=
      Bool.eq_iff_iff.2 <| List.any_eq_true.trans <| Iff.trans (exists_congr fun m => and_congr_right fun hm => by
        rw [hlane m hm]) List.any_eq_true.symm
    have hended : ∀ b : SlotBody, (b.ended .aborted s.timebase).ended .aborted s.timebase = b.ended .aborted s.timebase := by
      intro b
      cases b <;> rfl
    rw [List.foldl_cons, ih hls, hsame, State.opAborted_slot, State.opAborted_timebase, List.any_cons]
    cases (s.lane l).opAt g j with
    | false => rfl
    | true =>
      simp only [Bool.true_or, if_true, hended, ite_self]

theorem abortOps_lane (g : GroupIx) (s : State) (l : LaneIx) : (abortOps g s).lane l = (s.lane l).aborted g := by
  rw [(abortOps_noted g s).notesOnly.lane_eq, State.opsAborted_lane g allLanes_nodup, if_pos (mem_allLanes l)]

theorem abortOps_slot (g : GroupIx) (s : State) (j : SlotIx) :
    (abortOps g s).slot j = if allLanes.any fun l => (s.lane l).opAt g j then
      ⟨(s.slot j).gen, (s.slot j).body.ended .aborted s.timebase⟩ else s.slot j := by
  rw [(abortOps_noted g s).notesOnly.slot_eq, State.opsAborted_slot g allLanes_nodup]

/-- The slot of an operation for `g` after the abort. -/
theorem abortOps_slot_of_op {g : GroupIx} {s : State} {l : LaneIx} {p : LaneOp} (hp : (s.lane l).op = some p)
    (hg : p.group = g) : (abortOps g s).slot p.slot =
      ⟨(s.slot p.slot).gen, (s.slot p.slot).body.ended .aborted s.timebase⟩ := by
  rw [abortOps_slot, if_pos]
  exact List.any_eq_true.2 ⟨l, mem_allLanes l, by rw [LaneState.opAt_of_some hp hg]; exact decide_eq_true rfl⟩

theorem abortOps_gen (g : GroupIx) (s : State) (j : SlotIx) : ((abortOps g s).slot j).gen = (s.slot j).gen := by
  rw [abortOps_slot]
  split <;> rfl

theorem SlotBody.ended_eq_empty (b : SlotBody) (o : OpOutcome) (now : Time) : b.ended o now = .empty ↔ b = .empty := by
  cases b <;> simp [SlotBody.ended]

theorem abortOps_empty (g : GroupIx) (s : State) (j : SlotIx) :
    ((abortOps g s).slot j).body = .empty ↔ (s.slot j).body = .empty := by
  rw [abortOps_slot]
  split
  · exact SlotBody.ended_eq_empty ..
  · rfl

theorem abortOps_rest (g : GroupIx) (s : State) :
    (abortOps g s).timebase = s.timebase ∧ (abortOps g s).dev = s.dev ∧ (abortOps g s).storeFree = s.storeFree := by
  refine foldl_keeps (P := fun u => u.timebase = s.timebase ∧ u.dev = s.dev ∧ u.storeFree = s.storeFree)
    (f := fun s l => if s.opOn g l then endLaneOp l .aborted s else s) allLanes ⟨rfl, rfl, rfl⟩ fun u l _ hu => ?_
  have hn := abortOp_noted g u l
  rw [hn.notesOnly.timebase_eq, hn.notesOnly.dev_eq, hn.notesOnly.storeFree_eq]
  have hsame : (u.opAborted g l).dev = u.dev ∧ (u.opAborted g l).storeFree = u.storeFree := by
    unfold State.opAborted laneOpEnds slotEnds
    split
    · split
      · exact ⟨rfl, rfl⟩
      · split <;> exact ⟨rfl, rfl⟩
    · exact ⟨rfl, rfl⟩
  rw [State.opAborted_timebase, hsame.1, hsame.2]
  exact hu

/-- An ending adds its slot to the completion order. -/
theorem slotEnds_order (k : SlotIx) (o : OpOutcome) (s : State) :
    (slotEnds k o s).completionOrder = if (s.slot k).body.isInFlight then s.completionOrder ++ [k] else s.completionOrder := by
  cases h : (s.slot k).body with
  | inFlight op a e => rw [slotEnds_of_inFlight o h]; rfl
  | empty => rw [slotEnds_of_not_inFlight o (by rw [h]; rfl)]; rfl
  | complete op a e o' t => rw [slotEnds_of_not_inFlight o (by rw [h]; rfl)]; rfl

theorem SlotBody.ended_isInFlight (b : SlotBody) (o : OpOutcome) (now : Time) : (b.ended o now).isInFlight = false := by
  cases b <;> rfl

theorem State.opAborted_order (g : GroupIx) (s : State) (l : LaneIx) (h : s.completionOrder ≠ []) :
    (s.opAborted g l).completionOrder ≠ [] := by
  unfold State.opAborted laneOpEnds
  split
  · split
    · exact h
    · rw [slotEnds_order]
      split
      · simp
      · exact h
  · exact h

/-- A slot that stands IN-FLIGHT no more stands in the completion order. -/
theorem State.opAborted_orders (g : GroupIx) (s : State) (l : LaneIx) (j : SlotIx) (h : (s.slot j).body.isInFlight = true) :
    ((s.opAborted g l).slot j).body.isInFlight = true ∨ (s.opAborted g l).completionOrder ≠ [] := by
  cases hop : (s.lane l).opAt g j with
  | false =>
    rw [State.opAborted_slot, hop]
    exact .inl h
  | true =>
    right
    unfold LaneState.opAt at hop
    cases hp : (s.lane l).op with
    | none => rw [hp] at hop; cases hop
    | some p =>
      rw [hp] at hop
      obtain ⟨hg, hj⟩ := of_decide_eq_true hop
      have hacts : s.opOn g l = true := (LaneState.actsFor_iff g _).2 ⟨p, hp, hg⟩
      unfold State.opAborted
      rw [if_pos hacts, laneOpEnds_of_op .aborted hp, slotEnds_order, if_pos (hj ▸ h)]
      simp

theorem abortOps_order (g : GroupIx) (s : State) (h : s.completionOrder ≠ []) : (abortOps g s).completionOrder ≠ [] := by
  rw [(abortOps_noted g s).notesOnly.completionOrder_eq]
  exact foldl_keeps (P := fun u => u.completionOrder ≠ []) allLanes h fun u l _ hu => u.opAborted_order g l hu

theorem abortOps_orders (g : GroupIx) (s : State) (j : SlotIx) (h : (s.slot j).body.isInFlight = true) :
    ((abortOps g s).slot j).body.isInFlight = true ∨ (abortOps g s).completionOrder ≠ [] := by
  rw [(abortOps_noted g s).notesOnly.slot_eq, (abortOps_noted g s).notesOnly.completionOrder_eq]
  exact foldl_keeps (P := fun u => (u.slot j).body.isInFlight = true ∨ u.completionOrder ≠ []) allLanes (.inl h)
    fun u l _ hu => hu.elim (u.opAborted_orders g l j) fun h => .inr (u.opAborted_order g l h)

theorem State.chooseSlot_eq_none (s : State) : s.chooseSlot = none ↔ (∀ j, (s.slot j).body ≠ .empty) ∧ s.completionOrder = [] := by
  refine ⟨fun h => ?_, fun ⟨h, ho⟩ => by rw [State.chooseSlot_of_no_empty h, ho]; rfl⟩
  have hno : ∀ j, (s.slot j).body ≠ .empty := by
    by_contra hc
    cases hf : allSlots.find? fun k => decide ((s.slot k).body = .empty) with
    | none => exact hc fun j => of_decide_eq_false ((allSlots_find_none _).1 hf j)
    | some i => rw [State.chooseSlot_of_find hf] at h; cases h
  rw [State.chooseSlot_of_no_empty hno, List.head?_eq_none_iff] at h
  exact ⟨hno, h⟩

/-- GROUP-DISABLE finds a slot where one is free, or where it aborts an operation (R158). -/
theorem abortOps_chooses {g : GroupIx} {s : State} (hops : s.OpsLawful)
    (h : s.chooseSlot ≠ none ∨ ∃ l, s.opOn g l = true) : (abortOps g s).chooseSlot ≠ none := by
  intro hnone
  obtain ⟨hno, horder⟩ := (State.chooseSlot_eq_none _).1 hnone
  have hno' : ∀ j, (s.slot j).body ≠ .empty := fun j e => hno j ((abortOps_empty g s j).2 e)
  rcases h with h | ⟨l, hl⟩
  · refine h ((State.chooseSlot_eq_none s).2 ⟨hno', ?_⟩)
    by_contra hne
    exact abortOps_order g s hne horder
  · obtain ⟨p, hp, hg⟩ := (LaneState.actsFor_iff g _).1 hl
    obtain ⟨hheld, -⟩ := hops
    obtain ⟨-, a, e, hbody⟩ := hheld l p hp
    rcases abortOps_orders g s p.slot (by rw [hbody]; rfl) with hin | hne
    · rw [abortOps_slot_of_op hp hg, SlotBody.ended_isInFlight] at hin
      cases hin
    · exact hne horder

/-- The choice among EMPTY slots is not changed by the abort (R160). -/
theorem abortOps_chooseSlot {g : GroupIx} {s : State} {k : SlotIx} (h : s.chooseSlot = some k)
    (he : (s.slot k).body = .empty) : (abortOps g s).chooseSlot = some k := by
  rw [State.chooseSlot_iff] at h ⊢
  rcases h with ⟨-, hmin⟩ | ⟨hno, -⟩
  · exact .inl ⟨(abortOps_empty g s k).2 he, fun j hj hc => hmin j hj ((abortOps_empty g s j).1 hc)⟩
  · exact absurd he (hno k)

end Sys2Proof.Machine
end

section
/-! The effect of an accepted GROUP-DISABLE: its roles, its queues, its record, and its answers (R99, R141, R158). -/

namespace Sys2Proof.Machine

/- The kernel checks the theorems one after another. -/
set_option Elab.async false

/-! ### The roles of the set (R141) -/

/-- The role and the deficit a lane of `g` takes at a GROUP-DISABLE (R141). -/
def LaneState.disableRole (g : GroupIx) (x : LaneState) : LaneState :=
  if x.role.group? ≠ some g then x
  else
    match x.role with
    | .active _ => { x with role := if x.queue.isEmpty then .off else .draining g, deficit := 0 }
    | .withdrawn _ => { x with role := .off, deficit := 0 }
    | .probation _ => { x with role := .off, deficit := 0 }
    | _ => x

theorem State.judged_of_not_cutting {s : State} {g : GroupIx} {n : Nat} (h : (s.group g).tx.cutting = false) :
    (s.modGroup g fun x => { x with tx := judgedTx x.tx n x.minLanes }) = s :=
  State.modGroup_self (by rw [judgedTx_of_not_cutting h])

/-- The lanes of a group that places no segment any more change their roles, and no transmit state changes. -/
theorem disableRole_noted {g : GroupIx} {s : State} (h : (s.group g).tx.cutting = false) (l : LaneIx) :
    Noted (s.modLane l (LaneState.disableRole g)) (disableRole g s l) := by
  unfold disableRole
  by_cases hg : (s.lane l).role.group? = some g
  · have hupd : ∀ x, LaneState.disableRole g (s.lane l) = x → s.modLane l (LaneState.disableRole g) = s.modLane l fun _ => x :=
      fun x e => State.modLane_congr e
    have hconst : ∀ r, (s.modLane l fun x => { x with role := r, deficit := 0 }) =
        s.modLane l fun _ => { s.lane l with role := r, deficit := 0 } := fun r => State.modLane_congr rfl
    rw [if_neg (not_not.2 hg)]
    cases hr : (s.lane l).role with
    | active h' =>
      obtain rfl : h' = g := by rw [hr] at hg; exact Option.some.inj hg
      rw [hupd { s.lane l with role := s.drainRole l h', deficit := 0 }
        (by rw [LaneState.disableRole, if_neg (not_not.2 hg), hr]; rfl), ← hconst]
      have hinactive : (s.drainRole l h').isActive = false := by unfold State.drainRole; split <;> rfl
      have hn := setRole_of_active (new := s.drainRole l h') .disable hr hinactive
      rw [State.judged_of_not_cutting (by exact h)] at hn
      exact hn
    | withdrawn h' =>
      rw [hupd { s.lane l with role := .off, deficit := 0 } (by rw [LaneState.disableRole, if_neg (not_not.2 hg), hr]), ← hconst]
      exact (setRole_emits (new := .off) .disable (by rw [hr]; rfl) rfl).noted
    | probation h' =>
      rw [hupd { s.lane l with role := .off, deficit := 0 } (by rw [LaneState.disableRole, if_neg (not_not.2 hg), hr]), ← hconst]
      exact (setRole_emits (new := .off) .disable (by rw [hr]; rfl) rfl).noted
    | off => rw [hr] at hg; cases hg
    | draining h' =>
      rw [State.modLane_self (by rw [LaneState.disableRole, if_neg (not_not.2 hg), hr])]
      exact .refl s
  · rw [if_pos hg, State.modLane_self (by rw [LaneState.disableRole, if_pos hg])]
    exact .refl s

theorem disableRoles_noted {g : GroupIx} {s : State} (h : (s.group g).tx.cutting = false) :
    Noted (allLanes.foldl (fun s l => s.modLane l (LaneState.disableRole g)) s) (allLanes.foldl (disableRole g) s) := by
  have hfold : ∀ (ls : List LaneIx) (u v : State), (u.group g).tx.cutting = false → Noted u v →
      Noted (ls.foldl (fun s l => s.modLane l (LaneState.disableRole g)) u) (ls.foldl (disableRole g) v) := by
    intro ls
    induction ls with
    | nil => exact fun u v _ hn => hn
    | cons l ls ih =>
      intro u v hu hn
      have hv : (v.group g).tx.cutting = false := by rw [hn.notesOnly.group_eq]; exact hu
      exact ih _ _ hu ((hn.map (.modLane l _)).trans (disableRole_noted hv l))
  exact hfold allLanes s s h (.refl s)

/-! ### The queues discarded (R99) -/

theorem judgeHold_groupCount (g : GroupIx) (s : State) (h : GroupIx) {c : GroupCtr} (hc : c ≠ .holdAssertions) :
    (judgeHold g s).groupCount h c = s.groupCount h c := by
  have hflag : ∀ b, (s.modGroup g fun y => { y with hold := b }).groupCount h c = s.groupCount h c := fun b => by
    unfold State.groupCount
    by_cases e : h = g <;> simp [e]
  unfold judgeHold
  dsimp only
  split_ifs
  · exact hflag _
  · rfl
  · rw [State.groupCount_countGroup, if_neg fun ⟨_, e⟩ => hc e]
    exact hflag _
  · rfl

theorem countDiscarded_groupDown (g : GroupIx) (frames : List TxFrame) (s : State) :
    (countDiscarded g frames s).groupCount g .groupDown = s.groupCount g .groupDown + BitVec.ofNat 32 frames.length := by
  unfold countDiscarded
  induction frames generalizing s with
  | nil => simp
  | cons f frames ih =>
    rw [List.foldl_cons, ih, State.groupCount_countGroup, if_pos ⟨rfl, rfl⟩, List.length_cons,
      Nat.add_comm frames.length 1, BitVec.ofNat_add, BitVec.add_assoc]
    rfl

theorem countDiscarded_keeps (g : GroupIx) (frames : List TxFrame) (s : State) :
    (countDiscarded g frames s).lanes = s.lanes ∧ (countDiscarded g frames s).slots = s.slots ∧
      (countDiscarded g frames s).completionOrder = s.completionOrder ∧
      (countDiscarded g frames s).timebase = s.timebase ∧ ∀ h, h ≠ g → (countDiscarded g frames s).group h = s.group h :=
  foldl_keeps (P := fun u => u.lanes = s.lanes ∧ u.slots = s.slots ∧ u.completionOrder = s.completionOrder ∧
      u.timebase = s.timebase ∧ ∀ h, h ≠ g → u.group h = s.group h) frames ⟨rfl, rfl, rfl, rfl, fun _ _ => rfl⟩
    fun u f _ ⟨h1, h2, h3, h4, h5⟩ => ⟨h1, h2, h3, h4, fun h hne => by
      rw [State.group_countGroup, if_neg hne]
      exact h5 h hne⟩

/-- `t` is `s` with the queues of `g` discarded for the disable `d`, as far as the statements speak of it (R99, R141). -/
structure DiscardedQueues (g : GroupIx) (d : DisableRec) (s t : State) : Prop where
  lanes : t.lanes = s.lanes
  slots : t.slots = s.slots
  order : t.completionOrder = s.completionOrder
  timebase : t.timebase = s.timebase
  group : ∃ hold ctr, t.group g = { (s.group g).disabling d with hold := hold, ctr := ctr }
  other : ∀ h, h ≠ g → t.group h = s.group h
  storeFree : t.storeFree = s.storeFree + (s.group g).storeBytes
  counted : t.groupCount g .groupDown =
    s.groupCount g .groupDown + BitVec.ofNat 32 ((s.group g).high.length + (s.group g).normal.length)

theorem State.groupCount_congr {s t : State} {g : GroupIx} (h : (t.group g).ctr = (s.group g).ctr) (c : GroupCtr) :
    t.groupCount g c = s.groupCount g c := by
  unfold State.groupCount
  rw [h]

theorem discardQueues_discards (g : GroupIx) (d : DisableRec) (s : State) :
    DiscardedQueues g d s (discardQueues g (s.modGroup g fun x => { x with tx := .disabling, disable := some d })) := by
  obtain ⟨ctr, e⟩ := discardQueues_disabling g d s
  obtain ⟨hlanes, hslots, horder, htime, hother⟩ := countDiscarded_keeps g ((s.group g).high ++ (s.group g).normal) s
  obtain ⟨c, hctr⟩ := countDiscarded_group g ((s.group g).high ++ (s.group g).normal) s
  have hstore : ∀ (u : State) n, ({ u with storeFree := n } : State).group g = u.group g := fun _ _ => rfl
  refine { lanes := ?_, slots := ?_, order := ?_, timebase := ?_, group := ?_, other := fun h hne => ?_, storeFree := ?_, counted := ?_ }
  · rw [e]
    exact hlanes
  · rw [e]
    exact hslots
  · rw [e]
    exact horder
  · rw [e]
    exact htime
  · refine ⟨((s.group g).disabling d).judgedHold, ctr, ?_⟩
    rw [e, State.group_modGroup, if_pos rfl]
    rw [hstore, hctr]
    rfl
  · rw [e, State.group_modGroup, if_neg hne]
    exact hother h hne
  · rw [e]
    rfl
  · unfold discardQueues
    dsimp only
    rw [judgeHold_groupCount _ _ _ (by decide), countDiscarded_groupDown, State.group_modGroup, if_pos rfl, List.length_append]
    congr 1
    refine State.groupCount_congr ?_ _
    rw [State.group_modGroup, if_pos rfl]
    rw [hstore, State.group_modGroup, if_pos rfl]

/-! ### The effect of GROUP-DISABLE (R141, R142) -/

/-- The part with the disable of `g` recorded in slot `k`, its queues discarded. -/
def State.disableTaken (s : State) (g : GroupIx) (set : LaneSet) (k : SlotIx) : State :=
  discardQueues g ((takeSlot k (.groupDisable g) s).modGroup g fun x =>
    { x with tx := .disabling, disable := some (s.disableRec k set) })

/-- The part with its lanes' roles changed too. -/
def State.disableBegun (s : State) (g : GroupIx) (set : LaneSet) (k : SlotIx) : State :=
  allLanes.foldl (fun s l => s.modLane l (LaneState.disableRole g)) (s.disableTaken g set k)

theorem State.disableTaken_discards (s : State) (g : GroupIx) (set : LaneSet) (k : SlotIx) :
    DiscardedQueues g (s.disableRec k set) (takeSlot k (.groupDisable g) s) (s.disableTaken g set k) :=
  discardQueues_discards ..

theorem acceptDisable_eq (g : GroupIx) (set : LaneSet) (k : SlotIx) (s : State) :
    acceptDisable g set k s = if set = 0 then
        completeDisable g (s.disableRec k set) .done
          (post (.groupTx g (s.group g).tx .disabling) (allLanes.foldl (disableRole g) (s.disableTaken g set k)))
      else post (.groupTx g (s.group g).tx .disabling) (allLanes.foldl (disableRole g) (s.disableTaken g set k)) := by
  have hrec : (⟨k, ((takeSlot k (.groupDisable g) s).slot k).gen, set, false⟩ : DisableRec) = s.disableRec k set := by
    rw [takeSlot_gen]
    rfl
  unfold acceptDisable State.disableTaken
  dsimp only
  rw [hrec]

theorem State.disableBegun_noted (s : State) (g : GroupIx) (set : LaneSet) (k : SlotIx) (b : NoteBody) :
    Noted (s.disableBegun g set k) (post b (allLanes.foldl (disableRole g) (s.disableTaken g set k))) := by
  obtain ⟨hold, ctr, hgroup⟩ := (s.disableTaken_discards g set k).group
  have hcut : ((s.disableTaken g set k).group g).tx.cutting = false := by rw [hgroup]; rfl
  exact (disableRoles_noted hcut).trans (post_noted ..)

theorem acceptDisable_noted {g : GroupIx} {set : LaneSet} (k : SlotIx) (s : State) (h : set ≠ 0) :
    Noted (s.disableBegun g set k) (acceptDisable g set k s) := by
  rw [acceptDisable_eq, if_neg h]
  exact s.disableBegun_noted g set k _

theorem acceptDisable_noted_of_empty (g : GroupIx) (k : SlotIx) (s : State) :
    Noted (slotEnds k .done ((s.disableBegun g 0 k).groupDisabled g)) (acceptDisable g 0 k s) := by
  rw [acceptDisable_eq, if_pos rfl]
  have hblind : NoteBlind fun u => slotEnds k .done (u.groupDisabled g) :=
    (NoteBlind.slotEnds ..).comp ((NoteBlind.givesBack g _ _).comp (.withLanes _))
  exact ((s.disableBegun_noted g 0 k _).map hblind).trans (completeDisable_emits g (s.disableRec k 0) .done _).noted

theorem State.slot_congr {s t : State} (h : t.slots = s.slots) (j : SlotIx) : t.slot j = s.slot j := by
  unfold State.slot
  rw [h]

theorem State.lane_congr {s t : State} (h : t.lanes = s.lanes) (l : LaneIx) : t.lane l = s.lane l := by
  unfold State.lane
  rw [h]

section
variable (s : State) (g : GroupIx) (set : LaneSet) (k : SlotIx)

theorem State.disableBegun_lane (l : LaneIx) : (s.disableBegun g set k).lane l = (s.lane l).disableRole g := by
  unfold State.disableBegun
  rw [foldl_modLane_lane, State.lane_congr (s.disableTaken_discards g set k).lanes]
  rfl

/-- What the roles leave of the part: all but the lanes. -/
theorem State.disableBegun_rest : ∃ lanes, s.disableBegun g set k = { s.disableTaken g set k with lanes := lanes } :=
  ⟨_, foldl_modLane _ _⟩

theorem State.disableBegun_slot (j : SlotIx) :
    (s.disableBegun g set k).slot j = (takeSlot k (.groupDisable g) s).slot j := by
  obtain ⟨lanes, e⟩ := s.disableBegun_rest g set k
  rw [e]
  exact State.slot_congr (s.disableTaken_discards g set k).slots j

theorem State.disableBegun_group (h : GroupIx) : (s.disableBegun g set k).group h = (s.disableTaken g set k).group h := by
  obtain ⟨lanes, e⟩ := s.disableBegun_rest g set k
  rw [e]
  rfl

theorem State.disableBegun_timebase : (s.disableBegun g set k).timebase = s.timebase := by
  obtain ⟨lanes, e⟩ := s.disableBegun_rest g set k
  rw [e]
  exact (s.disableTaken_discards g set k).timebase

theorem State.disableBegun_storeFree : (s.disableBegun g set k).storeFree = s.storeFree + (s.group g).storeBytes := by
  obtain ⟨lanes, e⟩ := s.disableBegun_rest g set k
  rw [e]
  exact (s.disableTaken_discards g set k).storeFree
end

/-! ### The request answered (R158) -/

theorem reqGroupDisable_eq {s : State} {g : GroupIx} {group : Byte} (hg : group.toNat = g.val) :
    (Req.groupDisable group).run s =
      if (s.group g).tx.cutting = false then refuse .state s
      else match (abortOps g s).chooseSlot with
        | none => refuse .noRoom s
        | some k => acceptedReply k (((abortOps g s).slot k).gen + 1)
            (acceptDisable g (s.disableSet g) k (abortOps g s)) := by
  change reqGroupDisable group s = _
  unfold reqGroupDisable
  rw [groupOf_eq hg]
  dsimp only
  generalize abortOps g s = u
  cases (s.group g).tx.cutting with
  | false => rfl
  | true => cases u.chooseSlot <;> rfl

theorem abortOps_of_none {g : GroupIx} {s : State} (h : ∀ l, s.opOn g l = false) : abortOps g s = s :=
  foldl_keeps (P := fun u => u = s) (f := fun s l => if s.opOn g l then endLaneOp l .aborted s else s) allLanes rfl
    fun u l _ hu => by
      rw [hu, h l]
      rfl

/-- What GROUP-DISABLE leaves of its group's transmit state and of its slot's generation. -/
theorem acceptDisable_taken (g : GroupIx) (set : LaneSet) (k : SlotIx) (s : State) :
    ((acceptDisable g set k s).group g).tx = (if set = 0 then .disabled else .disabling) ∧
      ((acceptDisable g set k s).slot k).gen = (s.slot k).gen + 1 := by
  obtain ⟨hold, ctr, hgroup⟩ := (s.disableTaken_discards g set k).group
  have hgen : ((s.disableBegun g set k).slot k).gen = (s.slot k).gen + 1 := by
    rw [State.disableBegun_slot, takeSlot_gen]
  by_cases h : set = 0
  · subst h
    have hn := (acceptDisable_noted_of_empty g k s).notesOnly
    rw [hn.group_eq, hn.slot_eq, if_pos rfl, slotEnds_group, slotEnds_gen, State.groupDisabled_group, State.groupDisabled_slot,
      hgen]
    exact ⟨rfl, rfl⟩
  · have hn := (acceptDisable_noted (g := g) k s h).notesOnly
    rw [hn.group_eq, hn.slot_eq, if_neg h, State.disableBegun_group, hgroup]
    exact ⟨rfl, hgen⟩

/-- A GROUP-DISABLE accepted. -/
theorem groupDisable_accepted {s : State} {o : Origin} {g : GroupIx} {group : Byte} (hadm : s.Admits o 0x08 false)
    (hg : group.toNat = g.val) (hcut : (s.group g).tx.cutting = true) {k : SlotIx}
    (hk : (abortOps g s).chooseSlot = some k) : ∃ t, exec (.groupDisable o group) s = .next t ∧
      t = (acceptDisable g (s.disableSet g) k (abortOps g s)).answered 0x08 .accepted (tagBytes k ((s.slot k).gen + 1)) := by
  have hr := reqGroupDisable_eq (s := s) hg
  rw [if_neg (by rw [hcut]; decide), hk] at hr
  rw [← abortOps_gen g s k]
  exact ⟨_, congrArg Host.Outcome.next (entryRow_reply hadm hr), rfl⟩

/-- `t` is what an accepted GROUP-DISABLE with lanes in its set makes of `s`, as far as the statements speak of it (R141). -/
structure DisableBegins (g : GroupIx) (set : LaneSet) (k : SlotIx) (s t : State) : Prop where
  group : ∃ hold ctr, t.group g = { (s.group g).disabling (s.disableRec k set) with hold := hold, ctr := ctr }
  other : ∀ h, h ≠ g → t.group h = s.group h
  storeFree : t.storeFree = s.storeFree + (s.group g).storeBytes
  counted : t.groupCount g .groupDown =
    s.groupCount g .groupDown + BitVec.ofNat 32 ((s.group g).high.length + (s.group g).normal.length)
  slot : t.slot k = ⟨(s.slot k).gen + 1, .inFlight (.groupDisable g) s.timebase
    (s.timebase + BitVec.ofNat 32 (1000 * s.dev.opTimeout))⟩
  slots : ∀ j, j ≠ k → t.slot j = s.slot j
  lane : ∀ l, t.lane l = (s.lane l).disableRole g

theorem acceptDisable_begins {g : GroupIx} {set : LaneSet} (k : SlotIx) (s : State) (h : set ≠ 0) :
    DisableBegins g set k s (acceptDisable g set k s) := by
  have hn := (acceptDisable_noted (g := g) k s h).notesOnly
  have hd := s.disableTaken_discards g set k
  refine { group := ?_, other := fun h hne => ?_, storeFree := ?_, counted := ?_, slot := ?_, slots := fun j hj => ?_, lane := fun l => ?_ }
  · rw [hn.group_eq, State.disableBegun_group]
    exact hd.group
  · rw [hn.group_eq, State.disableBegun_group]
    exact hd.other h hne
  · rw [hn.storeFree_eq, State.disableBegun_storeFree]
  · have hctr : ((acceptDisable g set k s).group g).ctr = ((s.disableTaken g set k).group g).ctr := by
      rw [hn.group_eq, State.disableBegun_group]
    rw [State.groupCount_congr hctr]
    exact hd.counted
  · rw [hn.slot_eq, State.disableBegun_slot, takeSlot_slot, if_pos rfl]
    rfl
  · rw [hn.slot_eq, State.disableBegun_slot, takeSlot_slot, if_neg hj]
  · rw [hn.lane_eq, State.disableBegun_lane]

theorem State.groupDisabled_timebase (s : State) (g : GroupIx) : (s.groupDisabled g).timebase = s.timebase := rfl

/-- An accepted GROUP-DISABLE with no lane in its set completes at once (R142). -/
theorem acceptDisable_completes (g : GroupIx) (k : SlotIx) (s : State) :
    (∃ hold ctr, (acceptDisable g 0 k s).group g =
      (({ (s.group g).disabling (s.disableRec k 0) with hold := hold, ctr := ctr } : GroupState).discarded
        .disableDiscard).disabled) ∧
      (acceptDisable g 0 k s).slot k = ⟨(s.slot k).gen + 1, .complete (.groupDisable g) s.timebase
        (s.timebase + BitVec.ofNat 32 (1000 * s.dev.opTimeout)) .done s.timebase⟩ := by
  have hn := (acceptDisable_noted_of_empty g k s).notesOnly
  obtain ⟨hold, ctr, hgroup⟩ := (s.disableTaken_discards g 0 k).group
  have htime : ((s.disableBegun g 0 k).groupDisabled g).timebase = s.timebase :=
    (State.groupDisabled_timebase _ g).trans (s.disableBegun_timebase g 0 k)
  refine ⟨⟨hold, ctr, ?_⟩, ?_⟩
  · rw [hn.group_eq, slotEnds_group, State.groupDisabled_group, State.disableBegun_group, hgroup]
    rfl
  · rw [hn.slot_eq, slotEnds_slot, if_pos rfl, State.groupDisabled_slot, State.disableBegun_slot, takeSlot_slot, if_pos rfl,
      htime]
    rfl

/-- The lane once a GROUP-DISABLE has aborted its operation and changed its role, as the statements put it (R141). -/
theorem LaneState.disableRole_aborted (g : GroupIx) (x : LaneState) :
    (x.aborted g).disableRole g = { x with
      role := match x.role with
        | .active h => if h = g then (if x.queue = [] then .off else .draining g) else .active h
        | .withdrawn h => if h = g then .off else .withdrawn h
        | .probation h => if h = g then .off else .probation h
        | r => r
      deficit := match x.role with
        | .active h => if h = g then 0 else x.deficit
        | .withdrawn h => if h = g then 0 else x.deficit
        | .probation h => if h = g then 0 else x.deficit
        | _ => x.deficit
      op := if x.actsFor g then none else x.op } := by
  have hgroup : (x.aborted g).role.group? = x.role.group? := rfl
  unfold LaneState.disableRole
  rw [hgroup]
  change (if x.role.group? ≠ some g then x.aborted g else match x.role with
    | .active _ => { x.aborted g with role := if x.queue.isEmpty then .off else .draining g, deficit := 0 }
    | .withdrawn _ => { x.aborted g with role := .off, deficit := 0 }
    | .probation _ => { x.aborted g with role := .off, deficit := 0 }
    | _ => x.aborted g) = _
  cases hr : x.role with
  | off => simp [Role.group?, LaneState.aborted, hr]
  | draining h => simp [LaneState.aborted, hr]
  | probation h =>
    by_cases e : h = g
    · simp [Role.group?, LaneState.aborted, e]
    · simp [Role.group?, LaneState.aborted, e, hr]
  | withdrawn h =>
    by_cases e : h = g
    · simp [Role.group?, LaneState.aborted, e]
    · simp [Role.group?, LaneState.aborted, e, hr]
  | active h =>
    by_cases e : h = g
    · simp [Role.group?, LaneState.aborted, e]
    · simp [Role.group?, LaneState.aborted, e, hr]

/-- Settles O46: the answers by the group and its slots, and the effect with an EMPTY slot. -/
theorem groupDisableJudged : Obligations.GroupDisableJudged := by
  refine ⟨fun s o group hadm => ⟨fun h => ?_, fun g hg => ?_⟩, fun s o g k group hg hadm htx hk he => ?_⟩
  · have hr : (Req.groupDisable group).run s = refuse .badIndex s := by
      change reqGroupDisable group s = _
      unfold reqGroupDisable
      rw [groupOf_eq_none h]
    exact entryRow_refused hadm hr
  · have hr := reqGroupDisable_eq (s := s) hg
    rw [if_congr ((s.group g).tx.cutting_eq_false) rfl rfl] at hr
    by_cases htx : (s.group g).tx ≠ .forming ∧ (s.group g).tx ≠ .up
    · rw [if_pos htx] at hr ⊢
      exact entryRow_refused hadm hr
    rw [if_neg htx] at hr ⊢
    have hcut : (s.group g).tx.cutting = true :=
      Bool.of_not_eq_false fun h => htx (((s.group g).tx.cutting_eq_false).1 h)
    refine ⟨fun hnone hchoose => ?_, fun hops h => ?_⟩
    · rw [abortOps_of_none hnone, hchoose] at hr
      exact entryRow_refused hadm hr
    · obtain ⟨k, hk⟩ := Option.ne_none_iff_exists'.1 (abortOps_chooses hops h)
      obtain ⟨t, hexec, ht⟩ := groupDisable_accepted hadm hg hcut hk
      obtain ⟨htaken, hgen⟩ := acceptDisable_taken g (s.disableSet g) k (abortOps g s)
      refine ⟨t, k, hexec, by rw [ht]; rfl, ?_, ?_⟩
      · rw [← abortOps_gen g s k, ← hgen, ht]
        rfl
      · rw [← htaken, ht]
        rfl
  · have hcut : (s.group g).tx.cutting = true := by rcases htx with h | h <;> rw [h] <;> rfl
    obtain ⟨t, hexec, ht⟩ := groupDisable_accepted hadm hg hcut (abortOps_chooseSlot hk he)
    have hgen := abortOps_gen g s k
    have hanswer : ∀ (u : State) c data, (u.answered 0x08 c data).storeFree = u.storeFree ∧
        (∀ h, (u.answered 0x08 c data).group h = u.group h) ∧ (∀ l, (u.answered 0x08 c data).lane l = u.lane l) ∧
        (∀ j, (u.answered 0x08 c data).slot j = u.slot j) ∧
        ∀ h c', (u.answered 0x08 c data).groupCount h c' = u.groupCount h c' :=
      fun _ _ _ => ⟨rfl, fun _ => rfl, fun _ => rfl, fun _ => rfl, fun _ _ => rfl⟩
    obtain ⟨hstoret, hgroupt, hlanet, hslott, hcountt⟩ := hanswer (acceptDisable g (s.disableSet g) k (abortOps g s))
      .accepted (tagBytes k ((s.slot k).gen + 1))
    rw [← ht] at hstoret hgroupt hlanet hslott hcountt
    obtain ⟨htime, hdev, hstore⟩ := abortOps_rest g s
    have hgroup := abortOps_group g s
    refine ⟨t, hexec, by rw [ht]; rfl, ?_⟩
    by_cases hset : s.disableSet g = 0
    · rw [if_pos hset]
      rw [hset] at hgroupt hslott
      obtain ⟨⟨hold, ctr, hg'⟩, hk'⟩ := acceptDisable_completes g k (abortOps g s)
      rw [hgroupt, hg', hslott, hk', hgen, htime, hdev]
      exact ⟨rfl, rfl, rfl, rfl, rfl, rfl, rfl⟩
    · rw [if_neg hset]
      have hb := acceptDisable_begins (g := g) k (abortOps g s) hset
      obtain ⟨hold, ctr, hg'⟩ := hb.group
      rw [hgroup] at hg'
      have hrec : (abortOps g s).disableRec k (s.disableSet g) = ⟨k, (s.slot k).gen + 1, s.disableSet g, false⟩ := by
        unfold State.disableRec
        rw [hgen]
      rw [hrec] at hg'
      rw [hgroupt, hg']
      refine ⟨rfl, rfl, rfl, rfl, rfl, rfl, rfl, ?_, ?_, fun h hne => ?_, ?_, fun l p a e' hp hpg hps => ?_, fun l => ?_⟩
      · rw [hstoret, hb.storeFree, hstore, hgroup]
      · have hc : (abortOps g s).groupCount g .groupDown = s.groupCount g .groupDown :=
          State.groupCount_congr (by rw [hgroup]) _
        rw [hcountt, hb.counted, hgroup, hc]
      · rw [hgroupt, hb.other h hne, hgroup]
      · rw [hslott, hb.slot, hgen, htime, hdev]
      · have hne : p.slot ≠ k := fun h => by rw [← h, hps] at he; cases he
        rw [hslott, hb.slots _ hne, abortOps_slot_of_op hp hpg, hps]
        rfl
      · rw [hlanet, hb.lane, abortOps_lane, LaneState.disableRole_aborted]
        rfl

end Sys2Proof.Machine
end

section
/-! The completion of a GROUP-DISABLE as the statements put it, and the emptying of a lane that may bring it (R130, R142). -/

namespace Sys2Proof.Machine

/- The kernel checks the theorems one after another. -/
set_option Elab.async false

/-! ### The completion (R142) -/

/-- The completion where the group holds the buffers of its context and the slot stands IN-FLIGHT. -/
theorem slotEnds_groupDisabled {s : State} {g : GroupIx} {k : SlotIx} (o : OpOutcome)
    (hheld : (s.group g).inContext ≤ (s.group g).heldCount) (hk : (s.slot k).body.isInFlight = true) :
    slotEnds k o (s.groupDisabled g) = s.withGroupDisabled g k o := by
  have hcount : (s.group g).discardCount = (s.group g).inContext := min_eq_left hheld
  cases hb : (s.slot k).body with
  | empty => rw [hb] at hk; cases hk
  | complete op a e o' t => rw [hb] at hk; cases hk
  | inFlight op a e =>
    have hends : slotEnds k o (s.groupDisabled g) = { s with
        poolFree := s.poolFree + (s.group g).discardCount
        lanes := s.lanes.map (LaneState.dropped g)
        groups := (s.modGroup g fun x => (x.discarded .disableDiscard).disabled).groups
        slots := (s.modSlot k fun x => { x with body := .complete op a e o s.timebase }).slots
        completionOrder := s.completionOrder ++ [k] } := slotEnds_of_inFlight (s := s.groupDisabled g) o hb
    have hwith : s.withGroupDisabled g k o = { s with
        poolFree := s.poolFree + (s.group g).inContext
        lanes := s.lanes.map (LaneState.dropped g)
        groups := ((((s.modGroup g fun y => { y with
          tx := .disabled, ctx := .disabled, disable := none, store := [], expected := none, highest := none, hole := none
          building := none, held := none, awaitingFirst := true
          heldCount := y.heldCount - (s.group g).inContext }).countGroup g .disableDiscard
            (s.group g).store.length).countGroup g .assemblyDiscard
              ((s.group g).building.toList.length + (s.group g).held.toList.length)).countGroup g .buffersReturned
                (s.group g).inContext).groups
        slots := (s.modSlot k fun y => { y with body := y.body.ended o s.timebase }).slots
        completionOrder := s.completionOrder ++ [k] } := rfl
    have hslot : (s.modSlot k fun y => { y with body := y.body.ended o s.timebase }) =
        s.modSlot k fun x => { x with body := .complete op a e o s.timebase } := State.modSlot_congr (by rw [hb]; rfl)
    rw [hends, hwith, hslot, hcount]
    simp only [State.countGroup, State.modGroup_modGroup]
    rw [State.modGroup_congr (f := fun x => (x.discarded .disableDiscard).disabled)]
    unfold GroupState.discarded
    rw [hcount]
    rfl

/-! ### Whether the conditions of a completion hold (R142) -/

theorem inSet_ne_zero {set : LaneSet} {l : LaneIx} (h : inSet set l = true) : set ≠ 0 := by
  rintro rfl
  simp [inSet] at h

/-- A set that holds a lane: the conditions, as the statements put them. -/
theorem State.disableDone_iff {s : State} {d : DisableRec} {l : LaneIx} (h : inSet d.set l = true) (role : LaneIx → Role)
    (hrole : ∀ n, (s.lane n).role = role n) :
    s.disableDone d = s.peerReport.any fun r => d.completes role r.accepted := by
  unfold State.disableDone DisableRec.completes
  rw [decide_eq_true (inSet_ne_zero h), Bool.true_and]
  simp only [hrole]
  cases s.peerReport with
  | none => exact Bool.and_false _
  | some r => rfl

theorem checkDisableOf_of_free {l : LaneIx} {s : State} (h : s.inDisableSet l = false) : checkDisableOf l s = s := by
  have hno : ∀ g d, (s.group g).disable = some d → inSet d.set l = false := fun g d hd => by
    have hany := (List.any_eq_false.1 h) g (mem_allGroups g)
    rw [hd] at hany
    simpa using hany
  refine foldl_keeps (P := fun u => u = s) allGroups rfl fun u g _ hu => ?_
  rw [hu]
  cases hd : (s.group g).disable with
  | none => rfl
  | some d => exact if_neg (by rw [hno g d hd]; decide)

/-- A fold in which one group alone acts. -/
theorem foldl_one_group {f : State → GroupIx → State} {P : State → Prop} {g : GroupIx}
    (hself : ∀ u h, h ≠ g → P u → f u h = u) (hkeeps : ∀ u, P u → P (f u g)) {ls : List GroupIx} (hn : ls.Nodup) {s : State}
    (hs : P s) : ls.foldl f s = if g ∈ ls then f s g else s := by
  have hrest : ∀ (ls : List GroupIx) (u : State), g ∉ ls → P u → ls.foldl f u = u := by
    intro ls
    induction ls with
    | nil => exact fun u _ _ => rfl
    | cons h ls ih =>
      intro u hg hu
      rw [List.foldl_cons, hself u h (fun e => hg (e ▸ List.mem_cons_self)) hu]
      exact ih u (fun hm => hg (List.mem_cons_of_mem h hm)) hu
  induction ls generalizing s with
  | nil => rfl
  | cons h ls ih =>
    obtain ⟨hh, hls⟩ := List.nodup_cons.1 hn
    by_cases e : h = g
    · subst e
      rw [List.foldl_cons, hrest ls _ hh (hkeeps s hs), if_pos List.mem_cons_self]
    · rw [List.foldl_cons, hself s h e hs, ih hls hs]
      simp only [List.mem_cons, Ne.symm e, false_or]

/-- Lane `l` is of the set of `g` alone: the completion of no other group is judged. -/
theorem checkDisableOf_of_one {l : LaneIx} {g : GroupIx} {s : State} {d : DisableRec} (hd : (s.group g).disable = some d)
    (hl : inSet d.set l = true)
    (hone : ∀ h d', (s.group h).disable = some d' → inSet d'.set l = true → h = g) :
    checkDisableOf l s = if s.disableDone d then completeDisable g d d.outcome s else s := by
  have hg : checkDisable g s = if s.disableDone d then completeDisable g d d.outcome s else s := by
    unfold checkDisable
    rw [hd]
  unfold checkDisableOf
  rw [foldl_one_group (g := g)
    (P := fun u => ∀ h, h ≠ g → (u.group h).disable = (s.group h).disable) ?_ ?_ (by decide) fun _ _ => rfl,
    if_pos (mem_allGroups g), hd]
  · exact (if_pos hl).trans hg
  · intro u h hne hu
    rw [hu h hne]
    cases hd' : (s.group h).disable with
    | none => rfl
    | some d' => exact if_neg fun hin => hne (hone h d' hd' hin)
  · intro u hu h hne
    rw [← hu h hne]
    split
    · split
      · unfold checkDisable
        split
        · split
          · rw [(completeDisable_emits g _ _ u).notesOnly.group_eq, slotEnds_group, State.groupDisabled_group_of_ne u hne]
          · rfl
        · rfl
      · rfl
    · rfl

/-! ### The emptying of a DRAINING lane (R130, R142) -/

theorem State.disableRecords_length (s : State) (g : GroupIx) (k : SlotIx) (o : OpOutcome) :
    (s.disableRecords g k o).length ≤ 11 := by
  have hleft : ∀ p : LaneIx → Option NoteBody, (allLanes.filterMap p).length ≤ 8 := fun p => List.length_filterMap_le p allLanes
  unfold State.disableRecords
  simp only [List.length_append]
  refine Nat.add_le_add (Nat.add_le_add (Nat.add_le_add (hleft _) (?_ : _ ≤ 1)) (?_ : _ ≤ 1)) (?_ : _ ≤ 1)
  · split <;> simp
  · split <;> simp
  · split <;> simp

theorem drainIfEmpty_of_not {l : LaneIx} {s : State} (h : (s.lane l).queue ≠ [] ∨ ∀ g, (s.lane l).role ≠ .draining g) :
    drainIfEmpty l s = s := by
  unfold drainIfEmpty
  cases hr : (s.lane l).role with
  | draining g =>
    rcases h with h | h
    · exact if_neg (by simpa using h)
    · exact absurd hr (h g)
  | _ => rfl

theorem drainIfEmpty_of_draining {l : LaneIx} {g : GroupIx} {s : State} (hr : (s.lane l).role = .draining g)
    (hq : (s.lane l).queue = []) : drainIfEmpty l s = checkDisableOf l (setRole l .off .drained s) := by
  unfold drainIfEmpty
  rw [hr]
  exact if_pos (by rw [hq]; rfl)

/-- The part with lane `l` OFF. -/
def State.drained (s : State) (l : LaneIx) : State := s.modLane l fun y => { y with role := .off, deficit := 0 }

theorem drained_emits {l : LaneIx} {g : GroupIx} {s : State} (hr : (s.lane l).role = .draining g) :
    Emits [.laneRole l (.draining g) .off .drained] (s.drained l) (setRole l .off .drained s) := by
  have he := setRole_emits (s := s) (l := l) (new := .off) .drained (by rw [hr]; rfl) rfl
  rw [hr] at he
  exact he

theorem State.disableRecords_congr {s t : State} {g : GroupIx} {k : SlotIx} (o : OpOutcome)
    (ha : ∀ l, (t.lane l).assoc = (s.lane l).assoc) (hg : t.group g = s.group g) (hk : t.slot k = s.slot k) :
    t.disableRecords g k o = s.disableRecords g k o := by
  unfold State.disableRecords
  simp only [ha, hg, hk]

theorem NotesOnly.disableRecords_eq {s t : State} (h : NotesOnly s t) (g : GroupIx) (k : SlotIx) (o : OpOutcome) :
    t.disableRecords g k o = s.disableRecords g k o :=
  State.disableRecords_congr o (fun l => by rw [h.lane_eq]) (h.group_eq g) (h.slot_eq k)

theorem NotesOnly.disableDone_eq {s t : State} (h : NotesOnly s t) (d : DisableRec) : t.disableDone d = s.disableDone d := by
  unfold State.disableDone
  simp only [h.lane_eq, h.peerReport_eq]

theorem NotesOnly.inDisableSet_eq {s t : State} (h : NotesOnly s t) (l : LaneIx) : t.inDisableSet l = s.inDisableSet l := by
  unfold State.inDisableSet
  simp only [h.group_eq]

theorem State.drained_lane (s : State) (l n : LaneIx) :
    (s.drained l).lane n = if n = l then { s.lane l with role := .off, deficit := 0 } else s.lane n := State.lane_modLane ..

theorem State.drained_assoc (s : State) (l n : LaneIx) : ((s.drained l).lane n).assoc = (s.lane n).assoc := by
  rw [State.drained_lane]
  split
  · next h => rw [h]
  · rfl

section
variable {s : State} {l : LaneIx} {g : GroupIx} (hr : (s.lane l).role = .draining g) (hq : (s.lane l).queue = [])
include hr hq

/-- The lane is of no disable set. -/
theorem drainIfEmpty_free (h : s.inDisableSet l = false) :
    Emits [.laneRole l (.draining g) .off .drained] (s.drained l) (drainIfEmpty l s) := by
  have he := drained_emits hr
  rw [drainIfEmpty_of_draining hr hq, checkDisableOf_of_free]
  · exact he
  · rw [he.notesOnly.inDisableSet_eq]
    exact h

/-- The lane is of the set of one group. -/
theorem drainIfEmpty_of_set {d : DisableRec} {h : GroupIx} (hd : (s.group h).disable = some d) (hl : inSet d.set l = true)
    (hone : ∀ h' d', (s.group h').disable = some d' → inSet d'.set l = true → h' = h) :
    drainIfEmpty l s = if (s.drained l).disableDone d then completeDisable h d d.outcome (setRole l .off .drained s)
      else setRole l .off .drained s := by
  have hn := (drained_emits hr).notesOnly
  have hgroup : ∀ h, (setRole l .off .drained s).group h = s.group h := fun h => hn.group_eq h
  rw [drainIfEmpty_of_draining hr hq, checkDisableOf_of_one (by rw [hgroup]; exact hd) hl, hn.disableDone_eq]
  intro h' d' hd'
  rw [hgroup] at hd'
  exact hone h' d' hd'

/-- The emptying completes the GROUP-DISABLE. -/
theorem drainIfEmpty_completes {d : DisableRec} {h : GroupIx} (hd : (s.group h).disable = some d) (hl : inSet d.set l = true)
    (hone : ∀ h' d', (s.group h').disable = some d' → inSet d'.set l = true → h' = h)
    (hdone : (s.drained l).disableDone d = true) :
    Emits (.laneRole l (.draining g) .off .drained :: s.disableRecords h d.slot d.outcome)
      (slotEnds d.slot d.outcome ((s.drained l).groupDisabled h)) (drainIfEmpty l s) := by
  have he := drained_emits hr
  have hc := completeDisable_emits h d d.outcome (setRole l .off .drained s)
  have hblind : NoteBlind fun u => slotEnds d.slot d.outcome (u.groupDisabled h) :=
    (NoteBlind.slotEnds ..).comp ((NoteBlind.givesBack h _ _).comp (.withLanes _))
  rw [he.notesOnly.disableRecords_eq, State.disableRecords_congr (s := s) (t := s.drained l) d.outcome
    (fun n => s.drained_assoc l n) rfl rfl] at hc
  rw [drainIfEmpty_of_set hr hq hd hl hone, if_pos hdone]
  exact (he.map hblind).trans hc
end

end Sys2Proof.Machine
end

section
/-! What a Lane Transmitter begins, and the end of a transmission (R117, R118, R183 to R185). -/

namespace Sys2Proof.Machine

/- The kernel checks the theorems one after another. -/
set_option Elab.async false

/-! ### The choice (R117) -/

theorem State.maySend_eq_false (s : State) (l : LaneIx) :
    s.maySend l = false ↔ (s.lane l).inService = false ∨ s.txInhibit = true ∨ (s.lane l).flight ≠ none := by
  rw [← Bool.not_eq_true, State.maySend_iff]
  cases (s.lane l).inService <;> cases s.txInhibit <;> simp

theorem startTransmission_of_not {s : State} {l : LaneIx} (h : s.maySend l = false) : startTransmission l s = s := by
  have hchoice : s.txChoice l = none := by
    unfold State.txChoice
    rw [h]
    rfl
  unfold startTransmission
  rw [hchoice]

section
variable {s : State} {l : LaneIx} (hm : s.maySend l = true)
include hm

theorem txChoice_loopRemote (hd : (s.lane l).diag = .loopRemote) :
    s.txChoice l = if !(s.lane l).returnQueue.isEmpty then some .returned else none := by
  unfold State.txChoice
  dsimp only
  rw [if_neg (by rw [hm]; decide), hd]

/-- At the urgent level a marker goes before anything else. -/
theorem txChoice_urgent (hd : (s.lane l).diag ≠ .loopRemote) (hu : s.dev.urgentLevel ≤ (s.lane l).debt) :
    s.txChoice l = some .urgent := by
  unfold State.txChoice
  dsimp only
  rw [if_neg (by rw [hm]; decide)]
  cases h : (s.lane l).diag with
  | none => exact if_pos hu
  | loopLocal => exact if_pos hu
  | loopRemote => exact absurd h hd
  | test => exact if_pos hu

theorem txChoice_test (hd : (s.lane l).diag = .test) (hu : ¬ s.dev.urgentLevel ≤ (s.lane l).debt) :
    s.txChoice l = some .test := by
  unfold State.txChoice
  dsimp only
  rw [if_neg (by rw [hm]; decide), hd]
  exact if_neg hu

theorem txChoice_data (hd : (s.lane l).diag = .none) (hu : ¬ s.dev.urgentLevel ≤ (s.lane l).debt)
    (hq : (s.lane l).queue ≠ []) : s.txChoice l = some .data := by
  unfold State.txChoice
  dsimp only
  rw [if_neg (by rw [hm]; decide), hd]
  exact (if_neg hu).trans (if_pos (by simpa using hq))

/-- A lane with no data to send. -/
theorem txChoice_idle (hd : (s.lane l).diag = .none ∨ (s.lane l).diag = .loopLocal)
    (hu : ¬ s.dev.urgentLevel ≤ (s.lane l).debt) (hq : (s.lane l).queue = [] ∨ (s.lane l).diag = .loopLocal) :
    s.txChoice l = if 1 ≤ (s.lane l).debt then some .opportunistic else none := by
  unfold State.txChoice
  dsimp only
  rw [if_neg (by rw [hm]; decide)]
  rcases hd with hd | hd
  · have hempty : (s.lane l).queue = [] := hq.resolve_right (by rw [hd]; decide)
    rw [hd]
    exact (if_neg hu).trans (if_neg (by simp [hempty]))
  · rw [hd]
    exact if_neg hu
end

/-! ### What begins (R118) -/

theorem startTransmission_of_urgent {s : State} {l : LaneIx} (h : s.txChoice l = some .urgent) :
    startTransmission l s = startMarker l .urgentMarker s := by unfold startTransmission; rw [h]

theorem startTransmission_of_opportunistic {s : State} {l : LaneIx} (h : s.txChoice l = some .opportunistic) :
    startTransmission l s = startMarker l .opportunisticMarker s := by unfold startTransmission; rw [h]

theorem startTransmission_of_data {s : State} {l : LaneIx} (h : s.txChoice l = some .data) :
    startTransmission l s = startData l s := by unfold startTransmission; rw [h]

theorem startTransmission_of_test {s : State} {l : LaneIx} (h : s.txChoice l = some .test) :
    startTransmission l s = startTest l s := by unfold startTransmission; rw [h]

theorem startTransmission_of_returned {s : State} {l : LaneIx} (h : s.txChoice l = some .returned) :
    startTransmission l s = startReturned l s := by unfold startTransmission; rw [h]

theorem startTransmission_of_idle {s : State} {l : LaneIx} (h : s.txChoice l = none) : startTransmission l s = s := by
  unfold startTransmission; rw [h]

theorem beginFlight_eq (l : LaneIx) (bytes : List Byte) (s : State) :
    beginFlight l bytes s =
      s.modLane l fun y => { y with flight := some ⟨bytes, decide ((s.lane l).diag = .loopLocal)⟩ } := State.modLane_congr rfl

/-- The part once the segment at the head of the lane queue has begun, the lane's role as it was (R113, R118). -/
def State.dataBegun (s : State) (l : LaneIx) (d : DataSeg) (rest : List DataSeg) : State :=
  ((s.modLane l fun y => { y with flight := some ⟨d.bytes, decide ((s.lane l).diag = .loopLocal)⟩ }).modLane l fun y =>
    { y with queue := rest }).countLane l .dataSent

theorem startData_eq {s : State} {l : LaneIx} {d : DataSeg} {rest : List DataSeg} (hq : (s.lane l).queue = d :: rest) :
    startData l s = drainIfEmpty l (s.dataBegun l d rest) := by
  unfold startData State.dataBegun
  rw [hq]
  dsimp only
  rw [beginFlight_eq]

theorem State.dataBegun_lane (s : State) (l : LaneIx) (d : DataSeg) (rest : List DataSeg) :
    ((s.dataBegun l d rest).lane l).role = (s.lane l).role ∧ ((s.dataBegun l d rest).lane l).queue = rest := by
  unfold State.dataBegun
  rw [State.lane_countLane_same, State.lane_modLane_same, State.lane_modLane_same]
  exact ⟨rfl, rfl⟩

theorem State.dataBegun_other (s : State) (l : LaneIx) (d : DataSeg) (rest : List DataSeg) {n : LaneIx} (h : n ≠ l) :
    (s.dataBegun l d rest).lane n = s.lane n := by
  unfold State.dataBegun
  rw [State.lane_countLane, if_neg h, State.lane_modLane, if_neg h, State.lane_modLane, if_neg h]

theorem State.dataBegun_assoc (s : State) (l : LaneIx) (d : DataSeg) (rest : List DataSeg) (n : LaneIx) :
    ((s.dataBegun l d rest).lane n).assoc = (s.lane n).assoc := by
  by_cases h : n = l
  · subst h
    unfold State.dataBegun
    rw [State.lane_countLane_same, State.lane_modLane_same, State.lane_modLane_same]
  · rw [State.dataBegun_other s l d rest h]

theorem State.dataBegun_drained_role (s : State) (l : LaneIx) (d : DataSeg) (rest : List DataSeg) (n : LaneIx) :
    (((s.dataBegun l d rest).drained l).lane n).role = if n = l then .off else (s.lane n).role := by
  rw [State.drained_lane]
  split
  · rfl
  · next h => rw [State.dataBegun_other s l d rest h]

/-- The part once a marker has begun (R118). -/
def State.markerBegun (s : State) (l : LaneIx) (c : LaneCtr) : State :=
  (((s.modLane l fun y => { y with flight := some ⟨s.marker l, decide ((s.lane l).diag = .loopLocal)⟩ }).modLane l fun y =>
    { y with markerCount := y.markerCount + 1, debt := y.debt - 1 }).countLane l .markersSent).countLane l c

theorem startMarker_eq (l : LaneIx) (c : LaneCtr) (s : State) : startMarker l c s = s.markerBegun l c := by
  unfold startMarker
  rw [beginFlight_eq]
  rfl

theorem State.withGroupDisabled_unit (s : State) (g : GroupIx) (k : SlotIx) (o : OpOutcome) :
    (s.withGroupDisabled g k o).notes = s.notes ∧ (s.withGroupDisabled g k o).nextNote = s.nextNote ∧
      (s.withGroupDisabled g k o).tally = s.tally := by simp [State.withGroupDisabled]

theorem State.dataBegun_drained_unit (s : State) (l : LaneIx) (d : DataSeg) (rest : List DataSeg) :
    ((s.dataBegun l d rest).drained l).notes = s.notes ∧ ((s.dataBegun l d rest).drained l).nextNote = s.nextNote ∧
      ((s.dataBegun l d rest).drained l).tally = s.tally := by simp [State.dataBegun, State.drained]

/-- A data segment has begun: what its emptying the queue of a DRAINING lane brings (R130, R142). -/
theorem dataBegun_judged (s : State) (l : LaneIx) (d : DataSeg) (rest : List DataSeg) :
    let out : Host.Outcome State Fault Refusal := .next (drainIfEmpty l (s.dataBegun l d rest))
    let v := (s.dataBegun l d rest).drained l
    (rest ≠ [] ∨ (∀ g, (s.lane l).role ≠ .draining g) → out = .next (s.dataBegun l d rest)) ∧
    ∀ g, rest = [] → (s.lane l).role = .draining g →
      let drained := NoteBody.laneRole l (.draining g) .off .drained
      (s.inDisableSet l = false → ∃ t, out = .next t ∧ NotesOnly v t ∧ (s.HasRoom 1 → Posted [drained] s t)) ∧
      ∀ k, (s.group g).disable = some k → inSet k.set l = true →
        (∀ h k', (s.group h).disable = some k' → inSet k'.set l = true → h = g) →
        let role := fun n => if n = l then .off else (s.lane n).role
        if s.peerReport.any fun r => k.completes role r.accepted then
          (s.group g).inContext ≤ (s.group g).heldCount → (s.slot k.slot).body.isInFlight = true →
            ∃ t, out = .next t ∧ NotesOnly (v.withGroupDisabled g k.slot k.outcome) t ∧
              (s.HasRoom 12 → Posted (drained :: s.disableRecords g k.slot k.outcome) s t)
        else ∃ t, out = .next t ∧ NotesOnly v t ∧ (s.HasRoom 1 → Posted [drained] s t) := by
  obtain ⟨hrole, hqueue⟩ := s.dataBegun_lane l d rest
  dsimp only
  refine ⟨fun h => ?_, fun g hrest hdrain => ?_⟩
  · rw [drainIfEmpty_of_not (h.imp (fun h => by rw [hqueue]; exact h) fun h g => by rw [hrole]; exact h g)]
  · rw [hdrain] at hrole
    replace hqueue := hqueue.trans hrest
    have hunit := s.dataBegun_drained_unit l d rest
    have hone : Emits [.laneRole l (.draining g) .off .drained] ((s.dataBegun l d rest).drained l) _ := drained_emits hrole
    refine ⟨fun hfree => ?_, fun k hk hl hg => ?_⟩
    · exact exists_next_of_emits rfl (drainIfEmpty_free hrole hqueue hfree) le_rfl hunit
    · have hdone := State.disableDone_iff hl _ fun n => s.dataBegun_drained_role l d rest n
      have hset := drainIfEmpty_of_set hrole hqueue (h := g) hk hl hg
      by_cases hc : s.peerReport.any fun r => k.completes (fun n => if n = l then .off else (s.lane n).role) r.accepted
      · rw [if_pos hc]
        intro hheld hin
        have he := drainIfEmpty_completes hrole hqueue (h := g) hk hl hg (hdone.trans hc)
        rw [slotEnds_groupDisabled (s := (s.dataBegun l d rest).drained l) k.outcome hheld hin,
          State.disableRecords_congr (s := s) k.outcome (fun n => s.dataBegun_assoc l d rest n) rfl rfl] at he
        obtain ⟨h1, h2, h3⟩ := ((s.dataBegun l d rest).drained l).withGroupDisabled_unit g k.slot k.outcome
        refine exists_next_of_emits rfl he ?_ ⟨h1.trans hunit.1, h2.trans hunit.2.1, h3.trans hunit.2.2⟩
        have := s.disableRecords_length g k.slot k.outcome
        simp only [List.length_cons]
        omega
      · rw [if_neg hc]
        rw [if_neg fun h => hc (hdone.symm.trans h)] at hset
        rw [hset]
        exact exists_next_of_emits rfl hone le_rfl hunit

/-! ### The end of a transmission (R118, R183) -/

theorem endTransmission_of_none {s : State} {l : LaneIx} (h : (s.lane l).flight = none) : endTransmission l s = s := by
  unfold endTransmission
  rw [h]

/-- The part once the segment in flight has left. -/
def State.landed (s : State) (l : LaneIx) : State := s.modLane l fun y => { y with flight := none }

theorem State.landed_lane (s : State) (l : LaneIx) : (s.landed l).lane l = { s.lane l with flight := none } :=
  State.lane_modLane_same ..

theorem endTransmission_of_some {s : State} {l : LaneIx} {f : Flight} (h : (s.lane l).flight = some f) :
    endTransmission l s = if f.looped = true ∧ (s.lane l).diag = .loopLocal ∧ (s.lane l).rx ≠ .down then
      receiveSegment l f.bytes (s.landed l) else s.landed l := by
  unfold endTransmission loopDelivery
  rw [h]
  change (if f.looped = true ∧ ((s.landed l).lane l).diag = .loopLocal ∧ ((s.landed l).lane l).rx ≠ .down then _ else _) = _
  rw [State.landed_lane]
  rfl

/-- A marker at the receiver of a lane in LOOP-LOCAL is valid: its origin is not judged (R183). -/
theorem receiveSegment_marker_loopLocal {l : LaneIx} {m : MarkerBody} (S : Seq) {s : State}
    (hd : (s.lane l).diag = .loopLocal) (hl : m.lane = l) :
    receiveSegment l (markerBytes m S) s = (s.countLane l .segmentsReceived).markerTaken l m := by
  obtain ⟨q, -, hrecv⟩ := receiveSegment_marker l m S s
  have hu := s.lane_countLane_same l .segmentsReceived 1
  have hnot : (s.countLane l .segmentsReceived).isLooped l m = false := by
    unfold State.isLooped
    rw [hu]
    simp [hd]
  rw [hrecv, hnot, if_neg (by decide), if_neg (not_not.2 hl), loopCopy_of_ne _ (by rw [hu]; dsimp only; rw [hd]; decide),
    takeValid_eq, if_neg]
  rw [hu]
  rintro ⟨-, h⟩
  dsimp only at h
  rw [hd] at h
  cases h

theorem receiveSegment_data_loopLocal {l : LaneIx} {d : DataSeg} {s : State} (hd : (s.lane l).diag = .loopLocal)
    (h1 : 1 ≤ d.payload.length) (h2 : d.payload.length ≤ 192) :
    receiveSegment l d.bytes s = (s.countLane l .segmentsReceived).countLane l .diagnosticDiscard := by
  have hu := s.lane_countLane_same l .segmentsReceived 1
  rw [receiveSegment_good (segmentsReadBack.1 d h1 h2).1]
  unfold segmentGoesOn takeData
  dsimp only
  rw [loopCopy_of_ne _ (by rw [hu]; dsimp only; rw [hd]; decide), hu]
  exact if_pos (by dsimp only; rw [hd]; decide)

theorem receiveSegment_test_loopLocal {l : LaneIx} (q : Seq) {s : State} (hd : (s.lane l).diag = .loopLocal) :
    receiveSegment l (testBytes q) s = (s.countLane l .segmentsReceived).countLane l .testDiscarded := by
  have hu := s.lane_countLane_same l .segmentsReceived 1
  rw [receiveSegment_good (segmentsReadBack.2 q).1]
  unfold segmentGoesOn takeTest
  dsimp only
  rw [loopCopy_of_ne _ (by rw [hu]; dsimp only; rw [hd]; decide), hu]
  exact if_neg (by dsimp only; rw [hd]; decide)

/-- Settles O41: what a lane begins by its choice, what an emptying completes, and where a segment sent in LOOP-LOCAL goes. -/
theorem transmissionsBeginAndEnd : Obligations.TransmissionsBeginAndEnd := by
  intro s l
  refine ⟨?_, fun h => congrArg Host.Outcome.next (endTransmission_of_none h), fun f hf => ?_⟩
  · dsimp only
    rw [exec_segmentTransmitStart, if_congr (s.maySend_eq_false l).symm rfl rfl]
    cases hm : s.maySend l with
    | false => rw [if_pos rfl, startTransmission_of_not hm]
    | true =>
      rw [if_neg (by decide)]
      by_cases hremote : (s.lane l).diag = .loopRemote
      · rw [if_pos hremote]
        refine ⟨fun hq => ?_, fun b rest hq => ?_⟩
        · rw [startTransmission_of_idle]
          rw [txChoice_loopRemote hm hremote, hq]
          rfl
        · rw [startTransmission_of_returned (by rw [txChoice_loopRemote hm hremote, hq]; rfl)]
          unfold startReturned
          rw [hq]
          dsimp only
          rw [beginFlight_eq]
      rw [if_neg hremote]
      by_cases hurgent : s.dev.urgentLevel ≤ (s.lane l).debt
      · rw [if_pos hurgent, startTransmission_of_urgent (txChoice_urgent hm hremote hurgent), startMarker_eq]
        rfl
      rw [if_neg hurgent]
      by_cases htest : (s.lane l).diag = .test
      · rw [if_pos htest, startTransmission_of_test (txChoice_test hm htest hurgent)]
        unfold startTest
        rw [beginFlight_eq]
      rw [if_neg htest]
      have hd : (s.lane l).diag = .none ∨ (s.lane l).diag = .loopLocal := by
        cases h : (s.lane l).diag with
        | none => exact .inl rfl
        | loopLocal => exact .inr rfl
        | loopRemote => exact absurd h hremote
        | test => exact absurd h htest
      refine ⟨fun hq => ?_, fun d rest hq hnone => ?_⟩
      · have hidle := txChoice_idle hm hd hurgent hq
        by_cases hdebt : 1 ≤ (s.lane l).debt
        · rw [if_pos hdebt] at hidle ⊢
          rw [startTransmission_of_opportunistic hidle, startMarker_eq]
          rfl
        · rw [if_neg hdebt] at hidle ⊢
          rw [startTransmission_of_idle hidle]
      · rw [startTransmission_of_data (txChoice_data hm hnone hurgent (by rw [hq]; nofun)), startData_eq hq]
        exact dataBegun_judged s l d rest
  · dsimp only
    rw [exec_segmentTransmitEnd, endTransmission_of_some hf]
    by_cases hloop : f.looped = false ∨ (s.lane l).diag ≠ .loopLocal ∨ (s.lane l).rx = .down
    · rw [if_pos hloop, if_neg]
      · rfl
      · rintro ⟨h1, h2, h3⟩
        rcases hloop with h | h | h
        · rw [h1] at h; cases h
        · exact h h2
        · exact h3 h
    · rw [if_neg hloop]
      simp only [not_or, Bool.not_eq_false, not_not] at hloop
      obtain ⟨h1, hd, h3⟩ := hloop
      have hd' : ((s.landed l).lane l).diag = .loopLocal := by rw [State.landed_lane]; exact hd
      rw [if_pos ⟨h1, hd, h3⟩]
      refine ⟨fun m S hb hl => ?_, fun d hmin hmax hb => ?_, fun q hb => ?_⟩
      · rw [hb, receiveSegment_marker_loopLocal S hd' hl]
        unfold State.markerTaken
        rw [State.lane_countLane_same, State.landed_lane]
        rfl
      · rw [hb, receiveSegment_data_loopLocal hd' hmin hmax]
        rfl
      · rw [hb, receiveSegment_test_loopLocal q hd']
        rfl

end Sys2Proof.Machine
end

section
/-! What the judgment of a lane against its bits in a report makes of the part (R130, R137, R139, R141). -/

namespace Sys2Proof.Machine

/- The kernel checks the theorems one after another. -/
set_option Elab.async false

/-! ### Transmit states judged (R136) -/

/-- `x'` is `x` with its transmit state judged by the ACTIVE count, once or more. -/
structure TxJudged (x x' : GroupState) : Prop where
  rest : x' = { x with tx := x'.tx }
  kept : x.tx.cutting = false → x'.tx = x.tx
  cutting : x.tx.cutting = true → x'.tx.cutting = true

theorem TxJudged.refl (x : GroupState) : TxJudged x x := ⟨rfl, fun _ => rfl, id⟩

theorem TxJudged.trans {x y z : GroupState} (h : TxJudged x y) (k : TxJudged y z) : TxJudged x z := by
  refine ⟨?_, fun hx => ?_, fun hx => k.cutting (h.cutting hx)⟩
  · rw [k.rest, h.rest]
  · have hy := h.kept hx
    rw [k.kept (by rw [hy]; exact hx), hy]

theorem judgeTx_group (g : GroupIx) (s : State) (h : GroupIx) : TxJudged (s.group h) ((judgeTx g s).group h) := by
  rw [(judgeTx_noted g s).notesOnly.group_eq, State.txJudged, State.group_modGroup]
  split
  · next e =>
    subst e
    exact ⟨rfl, fun hx => judgedTx_of_not_cutting hx _ _, fun hx => judgedTx_cutting hx _ _⟩
  · exact .refl _

/-- What a judgment of transmit states leaves: all but the groups, and the Notification Unit. -/
theorem judgeTx_rest (g : GroupIx) (s : State) : ∃ v, NotesOnly { s with groups := v } (judgeTx g s) :=
  ⟨_, (judgeTx_noted g s).notesOnly⟩

theorem NotesOnly.withGroups {s t : State} (h : NotesOnly s t) (v : Vector GroupState 4) :
    NotesOnly { s with groups := v } { t with groups := v } := by
  obtain ⟨hrest, hcount, hout, hbusy⟩ := h
  refine ⟨?_, hcount, hout, hbusy⟩
  rw [hrest]

theorem judgeTxOf_rest (r : Role) (s : State) : ∃ v, NotesOnly { s with groups := v } (judgeTxOf r s) := by
  unfold judgeTxOf
  split
  · exact judgeTx_rest _ s
  · exact ⟨s.groups, .refl s⟩

theorem judgeTxOf_group (r : Role) (s : State) (h : GroupIx) : TxJudged (s.group h) ((judgeTxOf r s).group h) := by
  unfold judgeTxOf
  split
  · exact judgeTx_group ..
  · exact .refl _

/-! ### A change of role (R126) -/

/-- A change of role changes its lane's role and deficit, the transmit states, and the Notification Unit. -/
theorem setRole_rest (l : LaneIx) (new : Role) (c : RoleCause) (s : State) :
    ∃ v, NotesOnly { s.modLane l (fun x => { x with role := new, deficit := 0 }) with groups := v } (setRole l new c s) := by
  unfold setRole
  dsimp only
  have hpost := post_notesOnly (.laneRole l (s.lane l).role new c) (s.modLane l fun x => { x with role := new, deficit := 0 })
  generalize post (.laneRole l (s.lane l).role new c) (s.modLane l fun x => { x with role := new, deficit := 0 }) = u at *
  obtain ⟨v, hv⟩ := judgeTxOf_rest (s.lane l).role u
  generalize judgeTxOf (s.lane l).role u = w at *
  obtain ⟨v', hv'⟩ := judgeTxOf_rest new w
  exact ⟨v', ((hpost.withGroups v').trans (hv.withGroups v')).trans hv'⟩

theorem setRole_txJudged (l : LaneIx) (new : Role) (c : RoleCause) (s : State) (h : GroupIx) :
    TxJudged (s.group h) ((setRole l new c s).group h) := by
  unfold setRole
  dsimp only
  have hpost : ∀ b, (post b (s.modLane l fun x => { x with role := new, deficit := 0 })).group h = s.group h := fun b =>
    post_group ..
  have hjudge := (judgeTxOf_group (s.lane l).role (post (.laneRole l (s.lane l).role new c)
    (s.modLane l fun x => { x with role := new, deficit := 0 })) h).trans (judgeTxOf_group new _ h)
  rwa [hpost] at hjudge

/-- What changes of role, flushes and endings of operations leave of the part outside lanes, groups and slots. -/
structure RestKept (s t : State) : Prop where
  report : t.peerReport = s.peerReport
  timebase : t.timebase = s.timebase

theorem RestKept.refl (s : State) : RestKept s s := ⟨rfl, rfl⟩

theorem RestKept.trans {s t u : State} (h : RestKept s t) (k : RestKept t u) : RestKept s u :=
  ⟨k.report.trans h.report, k.timebase.trans h.timebase⟩

theorem RestKept.of_notes {s t : State} (h : NotesOnly s t) : RestKept s t := ⟨h.peerReport_eq, h.timebase_eq⟩

theorem setRole_keeps (l : LaneIx) (new : Role) (c : RoleCause) (s : State) : RestKept s (setRole l new c s) := by
  obtain ⟨v, hv⟩ := setRole_rest l new c s
  exact ⟨hv.peerReport_eq, hv.timebase_eq⟩

theorem setRole_order (l : LaneIx) (new : Role) (c : RoleCause) (s : State) :
    (setRole l new c s).completionOrder = s.completionOrder := by
  obtain ⟨v, hv⟩ := setRole_rest l new c s
  exact hv.completionOrder_eq

/-! ### The ending of a lane's operation (R161) -/

theorem slotEnds_keeps (k : SlotIx) (o : OpOutcome) (s : State) : RestKept s (slotEnds k o s) := by
  unfold slotEnds
  split
  · exact ⟨rfl, rfl⟩
  · exact .refl s

theorem laneOpEnds_lane (l : LaneIx) (o : OpOutcome) (s : State) (m : LaneIx) :
    (laneOpEnds l o s).lane m = if m = l then { s.lane l with op := none } else s.lane m := by
  unfold laneOpEnds
  cases h : (s.lane l).op with
  | none =>
    dsimp only
    split
    · next e => rw [e, ← h]
    · rfl
  | some p =>
    dsimp only
    rw [slotEnds_lane, State.lane_modLane]

theorem laneOpEnds_keeps (l : LaneIx) (o : OpOutcome) (s : State) : RestKept s (laneOpEnds l o s) := by
  unfold laneOpEnds
  split
  · exact .refl s
  · exact RestKept.trans (t := s.modLane l fun x => { x with op := none }) ⟨rfl, rfl⟩ (slotEnds_keeps ..)

theorem endLaneOp_lane (l : LaneIx) (o : OpOutcome) (s : State) (m : LaneIx) :
    (endLaneOp l o s).lane m = if m = l then { s.lane l with op := none } else s.lane m := by
  rw [(endLaneOp_emits l o s).notesOnly.lane_eq, laneOpEnds_lane]

theorem endLaneOp_keeps (l : LaneIx) (o : OpOutcome) (s : State) : RestKept s (endLaneOp l o s) :=
  (laneOpEnds_keeps l o s).trans (.of_notes (endLaneOp_emits l o s).notesOnly)

theorem endLaneOp_slot (l : LaneIx) (o : OpOutcome) (s : State) (j : SlotIx) :
    (endLaneOp l o s).slot j = match (s.lane l).op with
      | some p => if j = p.slot then ⟨(s.slot j).gen, (s.slot j).body.ended o s.timebase⟩ else s.slot j
      | none => s.slot j := by
  rw [(endLaneOp_emits l o s).notesOnly.slot_eq]
  unfold laneOpEnds
  cases (s.lane l).op with
  | none => rfl
  | some p =>
    dsimp only
    rw [slotEnds_slot]
    by_cases h : j = p.slot
    · rw [if_pos h, if_pos h, h]
      rfl
    · rw [if_neg h, if_neg h]
      rfl

/-! ### The loss mark (R141) -/

/-- The group with the loss mark of its disable set, if the lane is of its set. -/
def GroupState.lossMarked (l : LaneIx) (x : GroupState) : GroupState :=
  match x.disable with
  | some d => if inSet d.set l then { x with disable := some { d with loss := true } } else x
  | none => x

theorem markLoss_group (l : LaneIx) (s : State) (g : GroupIx) : (markLoss l s).group g = (s.group g).lossMarked l := by
  unfold markLoss State.group
  rw [Fin.getElem_fin, Vector.getElem_map]
  rfl

/-! ### The judgment of a lane (R130) -/

/-- The operation on the lane is a LANE-REMOVE. -/
def LaneState.beingRemoved (x : LaneState) : Bool :=
  match x.op with
  | some p => decide (p.kind = .remove)
  | none => false

theorem State.removing_eq (s : State) (l : LaneIx) : s.removing l = (s.lane l).beingRemoved := rfl

/-- How the judgment against a report ends the operation on the lane (R137, R139). -/
def LaneState.ending (acc al was : Bool) (x : LaneState) : Option OpOutcome :=
  match x.role with
  | .probation _ => if acc then some .done else if !al && was then some .laneFault else none
  | .draining _ => if !acc && x.beingRemoved then some .doneWithLoss else none
  | .off => if !acc && x.beingRemoved then some .done else none
  | _ => none

/-- The queue the judgment leaves the lane (R114, R130). -/
def LaneState.judgedQueue (acc : Bool) (x : LaneState) : List DataSeg :=
  match x.role with
  | .active _ => if acc then x.queue else []
  | .draining _ => if acc then x.queue else []
  | _ => x.queue

/-- The report drops the lane while it drains (R130). -/
def LaneState.drops (acc : Bool) (x : LaneState) : Bool :=
  !acc && match x.role with
    | .draining _ => true
    | _ => false

/-- `x'` is the lane `x` with role `new` and queue `q`, its operation ended where `ends`. -/
structure LaneChanged (new : Role) (q : List DataSeg) (ends : Bool) (x x' : LaneState) : Prop where
  rest : x' = { x with role := x'.role, deficit := x'.deficit, queue := x'.queue, op := x'.op, ctr := x'.ctr }
  role : x'.role = new
  queue : x'.queue = q
  op : x'.op = if ends then none else x.op
  counts : ∀ c : LaneCtr, c ≠ .activations → c ≠ .withdrawals → c ≠ .discardedOnWithdraw → x'.ctr[c.ix] = x.ctr[c.ix]

/-- The slot `j` after the operation `op` has ended with outcome `o`, if one has. -/
def Slot.endedIf (x : Slot) (op : Option LaneOp) (o : Option OpOutcome) (j : SlotIx) (now : Time) : Slot :=
  match op, o with
  | some p, some o => if j = p.slot then ⟨x.gen, x.body.ended o now⟩ else x
  | _, _ => x

theorem Slot.endedIf_none (x : Slot) (op : Option LaneOp) (j : SlotIx) (now : Time) : x.endedIf op none j now = x := by
  unfold Slot.endedIf
  split
  · next h => cases h
  · rfl

/-- `t` is `s` with lane `l` changed so, its operation ended with outcome `o` if any, the transmit states judged, and the loss
marked where `loss`. -/
structure LaneJudged (new : Role) (q : List DataSeg) (o : Option OpOutcome) (loss : Bool) (l : LaneIx) (s t : State) : Prop where
  lane : LaneChanged new q o.isSome (s.lane l) (t.lane l)
  others : ∀ m, m ≠ l → t.lane m = s.lane m
  slot : ∀ j, t.slot j = (s.slot j).endedIf (s.lane l).op o j s.timebase
  group : ∀ h, TxJudged (if loss then (s.group h).lossMarked l else s.group h) (t.group h)
  keeps : RestKept s t

section
variable {new : Role} {q : List DataSeg} {o : Option OpOutcome} {loss : Bool} {l : LaneIx} {s t : State}

theorem LaneJudged.same (l : LaneIx) (s : State) : LaneJudged (s.lane l).role (s.lane l).queue none false l s s where
  lane := ⟨rfl, rfl, rfl, rfl, fun _ _ _ _ => rfl⟩
  others _ _ := rfl
  slot j := by rw [Slot.endedIf_none]
  group h := .refl _
  keeps := .refl s

/-- A change of role, after a change of queue and counters. -/
theorem LaneJudged.setRole (new : Role) (c : RoleCause) (h : LaneJudged (s.lane l).role q none loss l s t) :
    LaneJudged new q none loss l s (Machine.setRole l new c t) where
  lane := by
    obtain ⟨hrest, -, hqueue, hop, hcounts⟩ := h.lane
    rw [setRole_lane, if_pos rfl]
    refine ⟨?_, rfl, hqueue, hop, hcounts⟩
    conv_lhs => rw [hrest]
  others m hm := by rw [setRole_lane, if_neg hm, h.others m hm]
  slot j := by rw [setRole_slot, h.slot]
  group i := (h.group i).trans (setRole_txJudged l new c t i)
  keeps := h.keeps.trans (setRole_keeps ..)

/-- The ending of the lane's operation. -/
theorem LaneJudged.endOp (o : OpOutcome) (h : LaneJudged new q none loss l s t) :
    LaneJudged new q (some o) loss l s (endLaneOp l o t) where
  lane := by
    obtain ⟨hrest, hrole, hqueue, hop, hcounts⟩ := h.lane
    rw [endLaneOp_lane, if_pos rfl]
    refine ⟨?_, hrole, hqueue, rfl, hcounts⟩
    conv_lhs => rw [hrest]
  others m hm := by rw [endLaneOp_lane, if_neg hm, h.others m hm]
  slot j := by
    have hop : (t.lane l).op = (s.lane l).op := h.lane.op
    rw [endLaneOp_slot, hop, h.slot, Slot.endedIf_none, h.keeps.timebase]
    unfold Slot.endedIf
    cases (s.lane l).op <;> rfl
  group i := by
    rw [endLaneOp_group]
    exact h.group i
  keeps := h.keeps.trans (endLaneOp_keeps ..)

/-- A counter of the report rises. -/
theorem LaneJudged.countLane {r : Role} {c : LaneCtr} (hc : c = .activations ∨ c = .withdrawals ∨ c = .discardedOnWithdraw) (n : Nat)
    (h : LaneJudged r q none loss l s t) : LaneJudged r q none loss l s (t.countLane l c n) where
  lane := by
    obtain ⟨hrest, hrole, hqueue, hop, hcounts⟩ := h.lane
    rw [State.lane_countLane_same]
    refine ⟨?_, hrole, hqueue, hop, fun c' h1 h2 h3 => ?_⟩
    · conv_lhs => rw [hrest]
    · have hne : c'.ix ≠ c.ix := fun e => by
        obtain rfl := LaneCtr.ix_injective c' c e
        rcases hc with h | h | h
        · exact h1 h
        · exact h2 h
        · exact h3 h
      exact ((raiseCounter_get _ _ _ n).trans (if_neg hne)).trans (hcounts c' h1 h2 h3)
  others m hm := by rw [State.lane_countLane, if_neg hm, h.others m hm]
  slot := h.slot
  group := h.group
  keeps := h.keeps.trans ⟨rfl, rfl⟩

/-- A flush by the report. -/
theorem LaneJudged.flush (l : LaneIx) (s : State) :
    LaneJudged (s.lane l).role [] none false l s (Machine.flush l .discardedOnWithdraw s) :=
  LaneJudged.countLane (t := s.modLane l fun x => { x with queue := [] }) (.inr (.inr rfl)) _
    { lane := by
        rw [State.lane_modLane_same]
        exact ⟨rfl, rfl, rfl, rfl, fun _ _ _ _ => rfl⟩
      others := fun m hm => by rw [State.lane_modLane, if_neg hm]
      slot := fun j => by rw [Slot.endedIf_none]; rfl
      group := fun h => .refl _
      keeps := ⟨rfl, rfl⟩ }

/-- The loss of the lane's segments is marked. -/
theorem LaneJudged.markLoss (h : LaneJudged new q o false l s t) (hg : ∀ i, t.group i = s.group i) :
    LaneJudged new q o true l s (Machine.markLoss l t) where
  lane := h.lane
  others := h.others
  slot := h.slot
  group i := by
    rw [markLoss_group, hg]
    exact .refl _
  keeps := h.keeps.trans ⟨rfl, rfl⟩
end

/-- What the judgment against its bits makes of a lane (R130). -/
theorem judgeBits_judged (acc al was : Bool) (l : LaneIx) (s : State) :
    LaneJudged (judgedRole (s.lane l).role acc al was) ((s.lane l).judgedQueue acc) ((s.lane l).ending acc al was)
      ((s.lane l).drops acc) l s (judgeBits acc al was l s) := by
  have hsame := LaneJudged.same l s
  have hflush := LaneJudged.flush l s
  have hgroup : ∀ i, (flush l .discardedOnWithdraw s).group i = s.group i := fun _ => rfl
  have hdrop : LaneJudged .off [] none true l s
      (setRole l .off .loss (markLoss l (flush l .discardedOnWithdraw s))) :=
    LaneJudged.setRole .off .loss (hflush.markLoss hgroup)
  have hremoving : (setRole l .off .loss (markLoss l (flush l .discardedOnWithdraw s))).removing l =
      (s.lane l).beingRemoved := by
    have hop : ((setRole l .off .loss (markLoss l (flush l .discardedOnWithdraw s))).lane l).op = (s.lane l).op := hdrop.lane.op
    rw [State.removing_eq, LaneState.beingRemoved, hop]
    rfl
  unfold judgeBits LaneState.judgedQueue LaneState.ending LaneState.drops judgedRole
  rw [hremoving, State.removing_eq]
  cases hr : (s.lane l).role with
  | off =>
    rw [hr] at hsame
    cases acc with
    | true => simpa using hsame
    | false => cases (s.lane l).beingRemoved with
      | false => simpa using hsame
      | true => simpa using hsame.endOp .done
  | probation g =>
    have hact := (hsame.setRole (.active g) .accepted).endOp .done
    have hoff := (hsame.setRole .off .fault).endOp .laneFault
    rw [hr] at hsame
    cases acc with
    | true => simpa using hact
    | false => cases hfault : !al && was with
      | false => simpa [hfault] using hsame
      | true => simpa [hfault] using hoff
  | active g =>
    rw [hr] at hsame
    cases acc with
    | true => simpa using hsame
    | false => simpa using (hflush.countLane (.inr (.inl rfl)) 1).setRole (.withdrawn g) .notAccepted
  | withdrawn g =>
    have hact := (hsame.countLane (.inl rfl) 1).setRole (.active g) .accepted
    rw [hr] at hsame
    cases acc with
    | true => simpa using hact
    | false => simpa using hsame
  | draining g =>
    rw [hr] at hsame
    cases acc with
    | true => simpa using hsame
    | false => cases (s.lane l).beingRemoved with
      | false => simpa using hdrop
      | true => simpa using hdrop.endOp .doneWithLoss

end Sys2Proof.Machine
end

section
/-! A peer report taken: every lane judged and every GROUP-DISABLE it completes, lane by lane (R128, R130, R142). -/

namespace Sys2Proof.Machine

/- The kernel checks the theorems one after another. -/
set_option Elab.async false

/-! ### A report and the part it finds -/

/-- A lane's bits: in the accepted map and the aligned map of a report, and in the aligned map of the one before. -/
def State.judgesLane (s : State) (old : Option PeerReport) (new : PeerReport) (n : LaneIx) (x' : LaneState) : Prop :=
  LaneChanged (judgedRole (s.lane n).role (inSet new.accepted n) (inSet new.aligned n) (wasAligned old n))
    ((s.lane n).judgedQueue (inSet new.accepted n))
    ((s.lane n).ending (inSet new.accepted n) (inSet new.aligned n) (wasAligned old n)).isSome (s.lane n) x'

/-- The role of lane `n` when the lanes `done` have been judged. -/
def State.roleAt (s : State) (old : Option PeerReport) (new : PeerReport) (done : LaneIx → Bool) (n : LaneIx) : Role :=
  if done n then judgedRole (s.lane n).role (inSet new.accepted n) (inSet new.aligned n) (wasAligned old n)
  else (s.lane n).role

/-- The conditions of the completion of the disable `d` hold when the lanes `done` have been judged (R142). -/
def State.doneAt (s : State) (old : Option PeerReport) (new : PeerReport) (done : LaneIx → Bool) (d : DisableRec) : Bool :=
  (allLanes.all fun n => !inSet d.set n || decide (s.roleAt old new done n = .off)) && decide (new.accepted &&& d.set = 0)

/-- The GROUP-DISABLE of `g` has completed when the lanes `done` have been judged. -/
def State.completedAt (s : State) (old : Option PeerReport) (new : PeerReport) (done : LaneIx → Bool) (g : GroupIx) : Bool :=
  match (s.group g).disable with
  | some d => (allLanes.any fun n => done n && inSet d.set n) && s.doneAt old new done d
  | none => false

/-- The loss mark of the disable `d` when the lanes `done` have been judged. -/
def State.lossAt (s : State) (new : PeerReport) (done : LaneIx → Bool) (d : DisableRec) : Bool :=
  d.loss || allLanes.any fun n => done n && (inSet d.set n && (s.lane n).drops (inSet new.accepted n))

/-- The group `g` when the lanes `done` have been judged, its disable not completed, but for its transmit state. -/
def State.groupAt (s : State) (new : PeerReport) (done : LaneIx → Bool) (g : GroupIx) : GroupState :=
  { s.group g with disable := (s.group g).disable.map fun d => { d with loss := s.lossAt new done d } }

/-- The lane `n` judged too. -/
def withLane (done : LaneIx → Bool) (n : LaneIx) : LaneIx → Bool := fun m => done m || decide (m = n)

/-- The group of a completed disable: what the statements say of it. -/
structure DisabledFrom (x x' : GroupState) : Prop where
  tx : x'.tx = .disabled
  ctx : x'.ctx = .disabled
  disable : x'.disable = none
  store : x'.store = []
  expected : x'.expected = none
  egress : x'.egress = x.egress

/-- The lane with its association dropped where its group's disable has completed. -/
def LaneState.droppedBy (completed : GroupIx → Bool) (x : LaneState) : LaneState :=
  if x.assoc.group?.any completed then { x with assoc := .none, skewHold := none } else x

/-- `u` is the part `s` when the lanes `done` have been judged and the disables `completed` have completed. The slots are those
of the operations in flight where no two stand in one slot. -/
structure ReportTaken (s : State) (old : Option PeerReport) (new : PeerReport) (done : LaneIx → Bool) (completed : GroupIx → Bool)
    (u : State) : Prop where
  report : u.peerReport = some new
  timebase : u.timebase = s.timebase
  lane : ∀ n, ∃ y, (if done n then s.judgesLane old new n y else y = s.lane n) ∧ u.lane n = y.droppedBy completed
  disabled : ∀ g, completed g = true → DisabledFrom (s.group g) (u.group g)
  group : ∀ g, completed g = false → TxJudged (s.groupAt new done g) (u.group g)
  ready : ∀ g d, completed g = true → (s.group g).disable = some d → s.doneAt old new done d = true
  laneSlot : ∀ n p, (s.lane n).op = some p → (∀ m q, m ≠ n → (s.lane m).op = some q → q.slot ≠ p.slot) →
    (∀ g d, (s.group g).disable = some d → d.slot ≠ p.slot) →
    u.slot p.slot = if done n then (s.slot p.slot).endedIf (some p)
      ((s.lane n).ending (inSet new.accepted n) (inSet new.aligned n) (wasAligned old n)) p.slot s.timebase
      else s.slot p.slot
  setSlot : ∀ g d, (s.group g).disable = some d → (∀ n p, (s.lane n).op = some p → p.slot ≠ d.slot) →
    (∀ h e, h ≠ g → (s.group h).disable = some e → e.slot ≠ d.slot) →
    u.slot d.slot = if completed g then ⟨(s.slot d.slot).gen, (s.slot d.slot).body.ended
      (if s.lossAt new done d then .doneWithLoss else .done) s.timebase⟩ else s.slot d.slot

section
variable {s : State} {old : Option PeerReport} {new : PeerReport} {done : LaneIx → Bool} {completed : GroupIx → Bool} {u : State}

/-! ### Sets of lanes judged -/

theorem judgedRole_off (acc al was : Bool) : judgedRole .off acc al was = .off := rfl

theorem State.roleAt_withLane_off {n m : LaneIx} (h : s.roleAt old new done m = .off) :
    s.roleAt old new (withLane done n) m = .off := by
  unfold State.roleAt withLane at *
  cases hd : done m with
  | true =>
    rw [hd] at h
    exact h
  | false =>
    rw [hd, if_neg (by decide)] at h
    rw [h, judgedRole_off, ite_self]

/-- The conditions of a completion, once they hold, go on holding. -/
theorem State.doneAt_withLane {d : DisableRec} (n : LaneIx) (h : s.doneAt old new done d = true) :
    s.doneAt old new (withLane done n) d = true := by
  unfold State.doneAt at *
  rw [Bool.and_eq_true, List.all_eq_true] at *
  obtain ⟨hall, hacc⟩ := h
  refine ⟨fun m hm => ?_, hacc⟩
  have hm' := hall m hm
  rw [Bool.or_eq_true, decide_eq_true_eq] at *
  exact hm'.imp_right State.roleAt_withLane_off

/-- A lane that is not of the set does not bear on the conditions. -/
theorem State.doneAt_of_not_inSet {d : DisableRec} {n : LaneIx} (h : inSet d.set n = false) :
    s.doneAt old new (withLane done n) d = s.doneAt old new done d := by
  unfold State.doneAt
  congr 1
  refine Bool.eq_iff_iff.2 ?_
  rw [List.all_eq_true, List.all_eq_true]
  refine forall₂_congr fun m _ => ?_
  by_cases hm : m = n
  · subst hm
    simp [h]
  · have hrole : s.roleAt old new (withLane done n) m = s.roleAt old new done m := by simp [State.roleAt, withLane, hm]
    rw [hrole]

theorem State.lossAt_withLane (d : DisableRec) (n : LaneIx) :
    s.lossAt new (withLane done n) d =
      (s.lossAt new done d || (inSet d.set n && (s.lane n).drops (inSet new.accepted n))) := by
  refine Bool.eq_iff_iff.2 ?_
  unfold State.lossAt withLane
  simp only [Bool.or_eq_true, Bool.and_eq_true, List.any_eq_true, decide_eq_true_eq]
  constructor
  · rintro (h | ⟨m, hm, hd | rfl, h⟩)
    · exact .inl (.inl h)
    · exact .inl (.inr ⟨m, hm, hd, h⟩)
    · exact .inr h
  · rintro ((h | ⟨m, hm, hd, h⟩) | h)
    · exact .inl h
    · exact .inr ⟨m, hm, .inl hd, h⟩
    · exact .inr ⟨n, mem_allLanes n, .inr rfl, h⟩

theorem LaneState.drops_of_off {x : LaneState} (h : x.role = .off) (acc : Bool) : x.drops acc = false := by
  unfold LaneState.drops
  rw [h]
  exact Bool.and_false _

/-- No drain of a set whose lanes are all OFF is cut short any more. -/
theorem State.lossAt_of_doneAt {d : DisableRec} {n : LaneIx} (hn : done n = false) (h : s.doneAt old new done d = true) :
    s.lossAt new (withLane done n) d = s.lossAt new done d := by
  rw [State.lossAt_withLane]
  cases hs : inSet d.set n with
  | false => simp
  | true =>
    unfold State.doneAt at h
    rw [Bool.and_eq_true, List.all_eq_true] at h
    have hoff := h.1 n (mem_allLanes n)
    rw [hs, Bool.not_true, Bool.false_or, decide_eq_true_eq, State.roleAt, hn, if_neg (by decide)] at hoff
    rw [LaneState.drops_of_off hoff]
    simp

/-! ### A lane judged -/

theorem LaneState.droppedBy_fields (completed : GroupIx → Bool) (x : LaneState) :
    x.droppedBy completed = { x with assoc := (x.droppedBy completed).assoc, skewHold := (x.droppedBy completed).skewHold } := by
  unfold LaneState.droppedBy
  split <;> rfl

theorem ReportTaken.lane_of_not_done (h : ReportTaken s old new done completed u) {n : LaneIx} (hn : done n = false) :
    u.lane n = (s.lane n).droppedBy completed := by
  obtain ⟨y, hy, hu⟩ := h.lane n
  rw [hn, if_neg (by decide)] at hy
  rw [hu, hy]

theorem LaneState.droppedBy_role (completed : GroupIx → Bool) (x : LaneState) : (x.droppedBy completed).role = x.role := by
  rw [LaneState.droppedBy_fields]

theorem LaneState.droppedBy_op (completed : GroupIx → Bool) (x : LaneState) : (x.droppedBy completed).op = x.op := by
  rw [LaneState.droppedBy_fields]

theorem LaneState.droppedBy_queue (completed : GroupIx → Bool) (x : LaneState) : (x.droppedBy completed).queue = x.queue := by
  rw [LaneState.droppedBy_fields]

theorem ReportTaken.role (h : ReportTaken s old new done completed u) (n : LaneIx) :
    (u.lane n).role = s.roleAt old new done n := by
  obtain ⟨y, hy, hu⟩ := h.lane n
  rw [hu, LaneState.droppedBy_role]
  unfold State.roleAt
  split at hy
  · next hd => rw [if_pos hd]; exact hy.role
  · next hd => rw [if_neg hd, hy]

/-- The judgment of a lane, seen from the part before the report. -/
theorem LaneState.ending_congr {x y : LaneState} (hr : x.role = y.role) (ho : x.op = y.op) (acc al was : Bool) :
    x.ending acc al was = y.ending acc al was := by
  unfold LaneState.ending LaneState.beingRemoved
  rw [hr, ho]

theorem LaneState.judgedQueue_congr {x y : LaneState} (hr : x.role = y.role) (hq : x.queue = y.queue) (acc : Bool) :
    x.judgedQueue acc = y.judgedQueue acc := by
  unfold LaneState.judgedQueue
  rw [hr, hq]

theorem LaneState.drops_congr {x y : LaneState} (hr : x.role = y.role) (acc : Bool) : x.drops acc = y.drops acc := by
  unfold LaneState.drops
  rw [hr]

/-- A change of a lane whose association was dropped is the change of the lane, its association dropped. -/
theorem LaneChanged.of_dropped {r : Role} {q : List DataSeg} {b : Bool} {x x' : LaneState}
    (h : LaneChanged r q b (x.droppedBy completed) x') : ∃ y, LaneChanged r q b x y ∧ x' = y.droppedBy completed := by
  obtain ⟨hrest, hrole, hqueue, hop, hcounts⟩ := h
  refine ⟨{ x with role := x'.role, deficit := x'.deficit, queue := x'.queue, op := x'.op, ctr := x'.ctr },
    ⟨rfl, hrole, hqueue, ?_, fun c h1 h2 h3 => ?_⟩, ?_⟩
  · rw [LaneState.droppedBy_op] at hop
    exact hop
  · rw [hcounts c h1 h2 h3, LaneState.droppedBy_fields]
  · unfold LaneState.droppedBy at hrest ⊢
    dsimp only
    split at hrest
    · next hc =>
      rw [if_pos hc]
      exact hrest
    · next hc =>
      rw [if_neg hc]
      exact hrest

theorem GroupState.lossMarked_of_none {x : GroupState} (l : LaneIx) (h : x.disable = none) : x.lossMarked l = x := by
  unfold GroupState.lossMarked
  rw [h]

theorem DisabledFrom.txJudged {x y z : GroupState} (h : DisabledFrom x y) (k : TxJudged y z) : DisabledFrom x z := by
  have htx : z.tx = y.tx := k.kept (by rw [h.tx]; rfl)
  have hz : z = y := k.rest.trans (by rw [htx])
  rw [hz]
  exact h

/-! ### One lane judged -/

/-- The disable of a group once a lane has been judged: its loss mark. -/
theorem State.groupAt_withLane (g : GroupIx) (n : LaneIx) :
    s.groupAt new (withLane done n) g = if (s.lane n).drops (inSet new.accepted n) then (s.groupAt new done g).lossMarked n
      else s.groupAt new done g := by
  unfold State.groupAt
  cases hx : (s.group g).disable with
  | none =>
    rw [GroupState.lossMarked_of_none n rfl, ite_self]
    rfl
  | some d =>
    cases hd : (s.lane n).drops (inSet new.accepted n) with
    | false =>
      rw [if_neg (by decide)]
      simp only [Option.map_some, State.lossAt_withLane, hd, Bool.and_false, Bool.or_false]
    | true =>
      rw [if_pos rfl]
      unfold GroupState.lossMarked
      simp only [Option.map_some, State.lossAt_withLane, hd, Bool.and_true]
      cases inSet d.set n with
      | false => simp
      | true => simp

theorem GroupState.lossMarked_congr {x y : GroupState} (h : TxJudged x y) (n : LaneIx) :
    TxJudged (x.lossMarked n) (y.lossMarked n) := by
  obtain ⟨hrest, hkept, hcut⟩ := h
  have hd : y.disable = x.disable := by rw [hrest]
  unfold GroupState.lossMarked
  rw [hd]
  cases x.disable with
  | none => exact ⟨hrest, hkept, hcut⟩
  | some d =>
    dsimp only
    split
    · exact ⟨by rw [hrest], hkept, hcut⟩
    · exact ⟨hrest, hkept, hcut⟩

theorem ReportTaken.judged (h : ReportTaken s old new done completed u) {n : LaneIx} (hn : done n = false) :
    ReportTaken s old new (withLane done n) completed
      (judgeBits (inSet new.accepted n) (inSet new.aligned n) (wasAligned old n) n u) := by
  have hlane := h.lane_of_not_done hn
  have hrole : (u.lane n).role = (s.lane n).role := by rw [hlane, LaneState.droppedBy_role]
  have hop : (u.lane n).op = (s.lane n).op := by rw [hlane, LaneState.droppedBy_op]
  have hqueue : (u.lane n).queue = (s.lane n).queue := by rw [hlane, LaneState.droppedBy_queue]
  have hj := judgeBits_judged (inSet new.accepted n) (inSet new.aligned n) (wasAligned old n) n u
  rw [hrole, LaneState.judgedQueue_congr hrole hqueue, LaneState.ending_congr hrole hop, LaneState.drops_congr hrole] at hj
  generalize judgeBits (inSet new.accepted n) (inSet new.aligned n) (wasAligned old n) n u = v at hj ⊢
  obtain ⟨jlane, jothers, jslot, jgroup, jkeeps⟩ := hj
  rw [hlane] at jlane
  rw [hop, h.timebase] at jslot
  refine { report := ?_, timebase := ?_, lane := fun m => ?_, disabled := fun g hc => ?_, group := fun g hc => ?_, ready := fun g d hc hd => ?_,
           laneSlot := fun m p hp hones hsets => ?_, setSlot := fun g d hd hlanes hones => ?_ }
  · rw [jkeeps.report, h.report]
  · rw [jkeeps.timebase, h.timebase]
  · by_cases hm : m = n
    · subst hm
      obtain ⟨y, hy, hv⟩ := jlane.of_dropped
      exact ⟨y, by rw [if_pos (by simp [withLane])]; exact hy, hv⟩
    · obtain ⟨y, hy, hv⟩ := h.lane m
      have hd : withLane done n m = done m := by simp [withLane, hm]
      exact ⟨y, by rw [hd]; exact hy, by rw [jothers m hm, hv]⟩
  · have hd := h.disabled g hc
    have jg := jgroup g
    rw [GroupState.lossMarked_of_none n hd.disable, ite_self] at jg
    exact hd.txJudged jg
  · have hg := h.group g hc
    have jg := jgroup g
    rw [State.groupAt_withLane]
    split
    · next hdrop =>
      rw [if_pos hdrop] at jg
      exact (GroupState.lossMarked_congr hg n).trans jg
    · next hdrop =>
      rw [if_neg hdrop] at jg
      exact hg.trans jg
  · exact State.doneAt_withLane n (h.ready g d hc hd)
  · rw [jslot, h.laneSlot m p hp hones hsets]
    by_cases hm : m = n
    · subst hm
      rw [hp, hn, if_neg (by decide), if_pos (by simp [withLane])]
    · have hd : withLane done n m = done m := by simp [withLane, hm]
      rw [hd]
      cases hq : (s.lane n).op with
      | none =>
        unfold Slot.endedIf
        rfl
      | some q =>
        have hne : p.slot ≠ q.slot := (hones n q (Ne.symm hm) hq).symm
        cases (s.lane n).ending (inSet new.accepted n) (inSet new.aligned n) (wasAligned old n) with
        | none => rw [Slot.endedIf_none]
        | some o => exact if_neg hne
  · have hloss : completed g = true → s.lossAt new (withLane done n) d = s.lossAt new done d := fun hc =>
      State.lossAt_of_doneAt hn (h.ready g d hc hd)
    rw [jslot, h.setSlot g d hd hlanes hones]
    have hsame : ∀ x : Slot, x.endedIf (s.lane n).op
        ((s.lane n).ending (inSet new.accepted n) (inSet new.aligned n) (wasAligned old n)) d.slot s.timebase = x := fun x => by
      cases hq : (s.lane n).op with
      | none => rfl
      | some q =>
        cases (s.lane n).ending (inSet new.accepted n) (inSet new.aligned n) (wasAligned old n) with
        | none => rw [Slot.endedIf_none]
        | some o => exact if_neg (hlanes n q hq).symm
    rw [hsame]
    split
    · next hc => rw [hloss hc]
    · rfl

/-! ### The disables of a lane judged (R142) -/

/-- The judgment of the GROUP-DISABLE of `g` for the lane `n` of its set. -/
def checkStep (n : LaneIx) (u : State) (g : GroupIx) : State :=
  match (u.group g).disable with
  | some d => if inSet d.set n then checkDisable g u else u
  | none => u

theorem checkDisableOf_eq (n : LaneIx) (u : State) : checkDisableOf n u = allGroups.foldl (checkStep n) u := rfl

/-- The disable of `g` completes as the lane `n` is judged last of `done`. -/
def State.completesFor (s : State) (old : Option PeerReport) (new : PeerReport) (done : LaneIx → Bool) (n : LaneIx)
    (g : GroupIx) : Bool :=
  match (s.group g).disable with
  | some d => inSet d.set n && s.doneAt old new done d
  | none => false

/-- The disable of `g` has completed too. -/
def withGroup (completed : GroupIx → Bool) (g : GroupIx) (b : Bool) : GroupIx → Bool := fun h => completed h || (decide (h = g) && b)

theorem withGroup_false (g : GroupIx) : withGroup completed g false = completed := by
  funext h
  simp [withGroup]

theorem withGroup_of_completed {g : GroupIx} (h : completed g = true) (b : Bool) : withGroup completed g b = completed := by
  funext i
  unfold withGroup
  by_cases hi : i = g
  · rw [hi, h]
    rfl
  · simp [hi]

theorem LaneState.droppedBy_dropped (g : GroupIx) (x : LaneState) :
    (x.droppedBy completed).dropped g = x.droppedBy (withGroup completed g true) := by
  unfold LaneState.droppedBy LaneState.dropped withGroup
  cases ha : x.assoc.group? with
  | none => simp [ha]
  | some h =>
    cases hc : completed h with
    | true => simp [ha, hc, Assoc.group?]
    | false =>
      by_cases e : h = g
      · subst e
        simp [ha, hc]
      · simp [ha, hc, e]

/-- The conditions of a completion, as the part shows them. -/
theorem ReportTaken.disableDone_eq (h : ReportTaken s old new done completed u) (d : DisableRec) (loss : Bool) :
    u.disableDone { d with loss := loss } = s.doneAt old new done d := by
  unfold State.disableDone State.doneAt
  rw [h.report]
  simp only [h.role]

theorem DisabledFrom.of_disabled (x y : GroupState) (he : y.egress = x.egress) :
    DisabledFrom x (y.discarded .disableDiscard).disabled := ⟨rfl, rfl, rfl, rfl, rfl, he⟩

theorem ReportTaken.completes (h : ReportTaken s old new done completed u) {g : GroupIx} {d : DisableRec}
    (hc : completed g = false) (hd : (s.group g).disable = some d) (hdone : s.doneAt old new done d = true) {t : State}
    (ht : NotesOnly (slotEnds d.slot (if s.lossAt new done d then .doneWithLoss else .done) (u.groupDisabled g)) t) :
    ReportTaken s old new done (withGroup completed g true) t := by
  have hself : withGroup completed g true g = true := by simp [withGroup]
  have hother : ∀ i, i ≠ g → withGroup completed g true i = completed i := fun i hi => by simp [withGroup, hi]
  have hslot : ∀ j, t.slot j = if j = d.slot then ⟨(u.slot d.slot).gen, (u.slot d.slot).body.ended
      (if s.lossAt new done d then .doneWithLoss else .done) u.timebase⟩ else u.slot j := fun j => by
    rw [ht.slot_eq, slotEnds_slot, State.groupDisabled_slot, State.groupDisabled_timebase, State.groupDisabled_slot]
  have hkeeps := (slotEnds_keeps d.slot (if s.lossAt new done d then .doneWithLoss else .done) (u.groupDisabled g)).trans
    (.of_notes ht)
  refine { report := hkeeps.report.trans h.report, timebase := hkeeps.timebase.trans h.timebase, lane := fun n => ?_,
           disabled := fun i hi => ?_, group := fun i hi => ?_, ready := fun i e hi he => ?_,
           laneSlot := fun n p hp hones hsets => ?_, setSlot := fun i e he hlanes hones => ?_ }
  · obtain ⟨y, hy, hu⟩ := h.lane n
    exact ⟨y, hy, by rw [ht.lane_eq, slotEnds_lane, State.groupDisabled_lane, hu, LaneState.droppedBy_dropped]⟩
  · rw [ht.group_eq, slotEnds_group]
    by_cases e : i = g
    · subst e
      rw [State.groupDisabled_group]
      exact .of_disabled _ _ (by rw [(h.group i hc).rest]; rfl)
    · rw [State.groupDisabled_group_of_ne _ e]
      exact h.disabled i ((hother i e).symm.trans hi)
  · have e : i ≠ g := fun e => by rw [e, hself] at hi; cases hi
    rw [ht.group_eq, slotEnds_group, State.groupDisabled_group_of_ne _ e]
    exact h.group i ((hother i e).symm.trans hi)
  · by_cases e' : i = g
    · subst e'
      rw [hd] at he
      cases he
      exact hdone
    · exact h.ready i e ((hother i e').symm.trans hi) he
  · rw [hslot, if_neg (hsets g d hd).symm]
    exact h.laneSlot n p hp hones hsets
  · by_cases e' : i = g
    · subst e'
      rw [hd] at he
      cases he
      have hu := h.setSlot i d hd hlanes hones
      rw [hc, if_neg (by decide)] at hu
      rw [hslot, if_pos rfl, hu, h.timebase, hself, if_pos rfl]
    · have hne : e.slot ≠ d.slot := (hones g d (Ne.symm e') hd).symm
      rw [hslot, if_neg hne, hother i e']
      exact h.setSlot i e he hlanes hones

/-- The disable of `g` as the part shows it, not completed yet. -/
theorem ReportTaken.disable_eq (h : ReportTaken s old new done completed u) {g : GroupIx} (hc : completed g = false) :
    (u.group g).disable = (s.group g).disable.map fun d => { d with loss := s.lossAt new done d } := by
  rw [(h.group g hc).rest]
  rfl

theorem checkStep_of_none {n : LaneIx} {g : GroupIx} (h : (u.group g).disable = none) : checkStep n u g = u := by
  unfold checkStep
  rw [h]

theorem checkStep_of_some {n : LaneIx} {g : GroupIx} {d : DisableRec} (h : (u.group g).disable = some d) :
    checkStep n u g = if inSet d.set n && u.disableDone d then completeDisable g d d.outcome u else u := by
  unfold checkStep checkDisable
  rw [h]
  dsimp only
  by_cases hset : inSet d.set n = true
  · rw [if_pos hset, hset, Bool.true_and]
  · rw [if_neg hset, Bool.eq_false_of_not_eq_true hset, Bool.false_and, if_neg (by decide)]

theorem ReportTaken.checked (h : ReportTaken s old new done completed u) (n : LaneIx) (g : GroupIx) :
    ReportTaken s old new done (withGroup completed g (s.completesFor old new done n g)) (checkStep n u g) := by
  cases hc : completed g with
  | true =>
    rw [withGroup_of_completed hc, checkStep_of_none (h.disabled g hc).disable]
    exact h
  | false =>
    have hg := h.disable_eq hc
    unfold State.completesFor
    cases hd : (s.group g).disable with
    | none =>
      rw [hd] at hg
      rw [checkStep_of_none hg]
      dsimp only
      rw [withGroup_false]
      exact h
    | some d =>
      rw [hd] at hg
      rw [checkStep_of_some hg, h.disableDone_eq]
      dsimp only
      cases hb : inSet d.set n && s.doneAt old new done d with
      | false =>
        rw [withGroup_false, if_neg (by decide)]
        exact h
      | true =>
        have hdone := (Bool.and_eq_true_iff.1 hb).2
        rw [if_pos rfl]
        exact h.completes hc hd hdone (completeDisable_emits g { d with loss := s.lossAt new done d } _ u).notesOnly

/-- All the disables of a lane judged. -/
theorem ReportTaken.checkedAll (h : ReportTaken s old new done completed u) (n : LaneIx) :
    ReportTaken s old new done (fun g => completed g || s.completesFor old new done n g) (checkDisableOf n u) := by
  have hfold : ∀ (ls : List GroupIx) (c : GroupIx → Bool) (v : State), ReportTaken s old new done c v →
      ReportTaken s old new done (fun g => c g || (decide (g ∈ ls) && s.completesFor old new done n g))
        (ls.foldl (checkStep n) v) := by
    intro ls
    induction ls with
    | nil =>
      intro c v hv
      simpa using hv
    | cons i ls ih =>
      intro c v hv
      have hnext := ih _ _ (hv.checked n i)
      have hfun : (fun g => withGroup c i (s.completesFor old new done n i) g ||
          (decide (g ∈ ls) && s.completesFor old new done n g)) =
          fun g => c g || (decide (g ∈ i :: ls) && s.completesFor old new done n g) := by
        funext g
        unfold withGroup
        by_cases e : g = i
        · subst e
          cases c g <;> cases s.completesFor old new done n g <;> simp
        · simp [e]
      rwa [hfun] at hnext
  have hall := hfold allGroups completed u h
  rw [checkDisableOf_eq]
  simpa [mem_allGroups] using hall

/-! ### The report (R128) -/

/-- The completions by the lanes judged, one lane more. -/
theorem State.completedAt_withLane {n : LaneIx} (g : GroupIx) :
    (s.completedAt old new done g || s.completesFor old new (withLane done n) n g) =
      s.completedAt old new (withLane done n) g := by
  unfold State.completedAt State.completesFor
  cases (s.group g).disable with
  | none => rfl
  | some d =>
    have hany : (allLanes.any fun m => withLane done n m && inSet d.set m) =
        ((allLanes.any fun m => done m && inSet d.set m) || inSet d.set n) := by
      refine Bool.eq_iff_iff.2 ?_
      unfold withLane
      simp only [Bool.or_eq_true, Bool.and_eq_true, List.any_eq_true, decide_eq_true_eq]
      constructor
      · rintro ⟨m, hm, hd | rfl, h⟩
        · exact .inl ⟨m, hm, hd, h⟩
        · exact .inr h
      · rintro (⟨m, hm, hd, h⟩ | h)
        · exact ⟨m, hm, .inl hd, h⟩
        · exact ⟨n, mem_allLanes n, .inr rfl, h⟩
    dsimp only
    rw [hany]
    cases hs : inSet d.set n with
    | false => simp [State.doneAt_of_not_inSet hs]
    | true =>
      cases hd : s.doneAt old new done d with
      | false => simp
      | true => simp [State.doneAt_withLane n hd]

end

/-- The lanes of a list. -/
def judgedOf (ls : List LaneIx) : LaneIx → Bool := fun n => decide (n ∈ ls)

theorem ReportTaken.lanes {s : State} {old : Option PeerReport} {new : PeerReport} {ls : List LaneIx} (hn : ls.Nodup)
    {done : LaneIx → Bool} (hd : ∀ n ∈ ls, done n = false) {u : State}
    (h : ReportTaken s old new done (s.completedAt old new done) u) :
    ReportTaken s old new (fun n => done n || judgedOf ls n) (s.completedAt old new fun n => done n || judgedOf ls n)
      (ls.foldl (judgeLane old new) u) := by
  induction ls generalizing done u with
  | nil => simpa [judgedOf] using h
  | cons n ls ih =>
    obtain ⟨hnot, hls⟩ := List.nodup_cons.1 hn
    have hstep := (h.judged (hd n List.mem_cons_self)).checkedAll n
    simp only [State.completedAt_withLane] at hstep
    have hnext := ih hls (fun m hm => by
      have hne : m ≠ n := fun e => hnot (e ▸ hm)
      simp [withLane, hd m (List.mem_cons_of_mem n hm), hne]) hstep
    have hfun : (fun m => withLane done n m || judgedOf ls m) = fun m => done m || judgedOf (n :: ls) m := by
      funext m
      simp [withLane, judgedOf, Bool.or_assoc]
    rw [hfun] at hnext
    exact hnext

/-- What a report makes of the part. -/
theorem takeReport_taken (l : LaneIx) (m : MarkerBody) (s : State) :
    ReportTaken s s.peerReport ⟨m.aligned, m.accepted, l⟩ (fun _ => true)
      (s.completedAt s.peerReport ⟨m.aligned, m.accepted, l⟩ fun _ => true) (takeReport l m s) := by
  let new : PeerReport := ⟨m.aligned, m.accepted, l⟩
  have hnone : s.completedAt s.peerReport new (fun _ => false) = fun _ => false := by
    funext g
    unfold State.completedAt
    cases (s.group g).disable with
    | none => rfl
    | some d => simp
  have hdrop : ∀ x : LaneState, x.droppedBy (fun _ => false) = x := fun x => by
    unfold LaneState.droppedBy
    cases x.assoc.group? with
    | none => rfl
    | some g => rfl
  have hloss : ∀ d, s.lossAt new (fun _ => false) d = d.loss := fun d => by
    unfold State.lossAt
    simp
  have hat : ∀ g, s.groupAt new (fun _ => false) g = s.group g := fun g => by
    unfold State.groupAt
    simp only [hloss]
    cases hd : (s.group g).disable with
    | none =>
      rw [Option.map_none, ← hd]
    | some d =>
      rw [Option.map_some]
      exact congrArg (fun o => { s.group g with disable := o }) hd.symm
  have hstart : ReportTaken s s.peerReport new (fun _ => false) (s.completedAt s.peerReport new fun _ => false)
      { s with peerReport := some new } := by
    rw [hnone]
    refine { report := rfl, timebase := rfl, lane := fun n => ⟨s.lane n, rfl, (hdrop _).symm⟩, disabled := nofun,
             group := fun g _ => ?_, ready := nofun, laneSlot := fun n p _ _ _ => rfl, setSlot := fun g d _ _ _ => rfl }
    rw [hat]
    exact .refl _
  have hall := hstart.lanes allLanes_nodup fun _ _ => rfl
  have hfun : (fun n => false || judgedOf allLanes n) = fun _ => true := by
    funext n
    simp [judgedOf, mem_allLanes]
  rw [hfun] at hall
  exact hall

end Sys2Proof.Machine
end

section
/-! A valid marker taken: its report in the words of the statements, its association and its context (R128 to R132). -/

namespace Sys2Proof.Machine

/- The kernel checks the theorems one after another. -/
set_option Elab.async false

theorem exists_inSet {set : LaneSet} (h : set ≠ 0) : ∃ n, inSet set n = true := by
  by_contra hnone
  refine h (BitVec.eq_of_getLsbD_eq fun i hi => ?_)
  exact (Bool.eq_false_iff.2 fun hb => hnone ⟨⟨i, hi⟩, hb⟩).trans BitVec.getLsbD_zero.symm

/-! ### The report of a marker -/

/-- The report of a marker from lane `l`. -/
def MarkerBody.report (m : MarkerBody) (l : LaneIx) : PeerReport := ⟨m.aligned, m.accepted, l⟩

theorem State.roleAt_all (s : State) (m : MarkerBody) (l n : LaneIx) :
    s.roleAt s.peerReport (m.report l) (fun _ => true) n = s.reportedRole m n := rfl

theorem State.completedAt_all (s : State) (m : MarkerBody) (l : LaneIx) :
    s.completedAt s.peerReport (m.report l) (fun _ => true) = s.reportCompletes m := by
  funext g
  unfold State.completedAt State.reportCompletes DisableRec.completes State.doneAt
  cases (s.group g).disable with
  | none => rfl
  | some d =>
    have hany : (allLanes.any fun n => true && inSet d.set n) = decide (d.set ≠ 0) := by
      refine Bool.eq_iff_iff.2 ?_
      rw [List.any_eq_true, decide_eq_true_eq]
      constructor
      · rintro ⟨n, -, hn⟩
        exact inSet_ne_zero (Bool.and_eq_true_iff.1 hn).2
      · intro hne
        obtain ⟨n, hn⟩ := exists_inSet hne
        exact ⟨n, mem_allLanes n, by rw [hn]; rfl⟩
    dsimp only
    rw [hany, Bool.and_assoc]
    rfl

theorem State.lossAt_all (s : State) (m : MarkerBody) (l : LaneIx) (d : DisableRec) :
    s.lossAt (m.report l) (fun _ => true) d = (d.loss || s.reportDrops m d) := by
  unfold State.lossAt State.reportDrops LaneState.drops
  simp only [Bool.true_and, Bool.and_assoc]
  rfl

theorem takeReport_reported (l : LaneIx) (m : MarkerBody) (s : State) :
    ReportTaken s s.peerReport (m.report l) (fun _ => true) (s.reportCompletes m) (takeReport l m s) := by
  rw [← State.completedAt_all s m l]
  exact takeReport_taken l m s

/-! ### What the association of a lane and its context may change -/

/-- `t` is `s` but for the association of lane `l`, its hold, flag and counters, and the delivery side of the groups; a group
that works in neither direction, and that the lane does not name, is left alone. -/
structure AssocJudged (l : LaneIx) (s t : State) : Prop where
  lane : t.lane l = { s.lane l with
    assoc := (t.lane l).assoc, skewHold := (t.lane l).skewHold, mismatch := (t.lane l).mismatch, ctr := (t.lane l).ctr }
  others : ∀ n, n ≠ l → t.lane n = s.lane n
  slot : ∀ k, t.slot k = s.slot k
  keeps : RestKept s t
  order : t.completionOrder = s.completionOrder
  tx : ∀ h, (t.group h).tx = (s.group h).tx
  disable : ∀ h, (t.group h).disable = (s.group h).disable
  idle : ∀ h, (s.group h).ctx = .disabled → (s.group h).tx ≠ .up → (s.lane l).assoc.group? ≠ some h →
    t.group h = s.group h ∧ (t.lane l).assoc.group? ≠ some h

namespace AssocJudged
variable {l : LaneIx} {s t u : State}

theorem refl (l : LaneIx) (s : State) : AssocJudged l s s :=
  ⟨rfl, fun _ _ => rfl, fun _ => rfl, .refl s, rfl, fun _ => rfl, fun _ => rfl, fun _ _ _ h => ⟨rfl, h⟩⟩

theorem trans (h : AssocJudged l s t) (k : AssocJudged l t u) : AssocJudged l s u where
  lane := by
    rw [k.lane]
    conv_lhs => rw [h.lane]
  others n hn := (k.others n hn).trans (h.others n hn)
  slot j := (k.slot j).trans (h.slot j)
  keeps := h.keeps.trans k.keeps
  order := k.order.trans h.order
  tx i := (k.tx i).trans (h.tx i)
  disable i := (k.disable i).trans (h.disable i)
  idle i hctx htx hname := by
    obtain ⟨hgroup, hname'⟩ := h.idle i hctx htx hname
    obtain ⟨hgroup', hname''⟩ := k.idle i (by rw [hgroup]; exact hctx) (by rw [hgroup]; exact htx) hname'
    exact ⟨hgroup'.trans hgroup, hname''⟩

/-- What a delivery to a context that is not DISABLED, or that the lane names, makes of the part. -/
theorem of_delivers {g : GroupIx} (h : Delivers g s t) (hg : (s.group g).ctx ≠ .disabled ∨ (s.lane l).assoc.group? = some g) :
    AssocJudged l s t where
  lane := by rw [h.lane]
  others n _ := h.lane n
  slot := h.slot
  keeps := ⟨h.peerReport, h.timebase⟩
  order := h.completionOrder
  tx := h.tx
  disable := h.disable
  idle i hctx htx hname := by
    have hne : i ≠ g := by
      rintro rfl
      exact hg.elim (fun hd => hd hctx) hname
    exact ⟨h.other i hne htx, by rw [h.lane]; exact hname⟩

theorem departed (g : GroupIx) (s : State) : AssocJudged l s (Machine.departed g s) := by
  by_cases h : (s.group g).ctx = .disabled
  · have hself : Machine.departed g s = s := by
      unfold Machine.departed
      rw [h]
      rfl
    rw [hself]
    exact refl l s
  · exact of_delivers (.departed s) (.inl h)

theorem of_notes (h : NotesOnly s t) : AssocJudged l s t where
  lane := by rw [h.lane_eq]
  others n _ := h.lane_eq n
  slot := h.slot_eq
  keeps := .of_notes h
  order := h.completionOrder_eq
  tx i := by rw [h.group_eq]
  disable i := by rw [h.group_eq]
  idle i _ _ hname := ⟨h.group_eq i, by rw [h.lane_eq]; exact hname⟩

/-- A change of the association, the hold, the flag and the counters of the lane. -/
theorem modLane (s : State) (f : LaneState → LaneState)
    (hrest : f (s.lane l) = { s.lane l with
      assoc := (f (s.lane l)).assoc, skewHold := (f (s.lane l)).skewHold, mismatch := (f (s.lane l)).mismatch
      ctr := (f (s.lane l)).ctr })
    (hname : ∀ h, (f (s.lane l)).assoc.group? = some h → (s.lane l).assoc.group? = some h ∨ (s.group h).ctx ≠ .disabled) :
    AssocJudged l s (s.modLane l f) where
  lane := by
    rw [State.lane_modLane_same]
    exact hrest
  others n hn := by rw [State.lane_modLane, if_neg hn]
  slot _ := rfl
  keeps := ⟨rfl, rfl⟩
  order := rfl
  tx _ := rfl
  disable _ := rfl
  idle i hctx _ hn := ⟨rfl, fun h => (hname i (by rwa [State.lane_modLane_same] at h)).elim hn fun hd => hd hctx⟩

theorem countLane (s : State) (c : LaneCtr) (n : Nat) : AssocJudged l s (s.countLane l c n) :=
  modLane s _ rfl fun _ h => .inl h

theorem clearMismatch (s : State) : AssocJudged l s (Machine.clearMismatch l s) := modLane s _ rfl fun _ h => .inl h

theorem leaveGroup (h : GroupIx) (s : State) : AssocJudged l s (Machine.leaveGroup l h s) := by
  have hleft : AssocJudged l s (s.modLane l fun x => { x with assoc := .none, skewHold := none }) := modLane s _ rfl nofun
  unfold Machine.leaveGroup
  dsimp only
  split
  · exact (hleft.trans (of_notes (post_notesOnly ..))).trans (departed ..)
  · exact hleft.trans (of_notes (post_notesOnly ..))

theorem refuseAdmission (g : GroupIx) (s : State) : AssocJudged l s (Machine.refuseAdmission l g s) := by
  have hcount : AssocJudged l s (s.countLane l .groupMismatch) := countLane s ..
  unfold Machine.refuseAdmission
  dsimp only
  split
  · exact hcount
  · exact (hcount.trans (modLane _ _ rfl fun _ h => .inl h)).trans (of_notes (post_notesOnly ..))

theorem memberAdded (g : GroupIx) (s : State) : AssocJudged l s (Machine.memberAdded g s) := by
  unfold Machine.memberAdded
  split
  · next h => exact of_delivers (.setCtx _ s) (.inl (by rw [h]; decide))
  · exact refl l s

theorem admitLane {g : GroupIx} (S : Seq) (c : SetCause) (ctr : LaneCtr) {s : State} (hg : (s.group g).ctx ≠ .disabled) :
    AssocJudged l s (Machine.admitLane l g S c ctr s) := by
  have hassoc : AssocJudged l s (s.modLane l fun x => { x with assoc := .member g (S - 1) 0 }) :=
    modLane s _ rfl fun h e => .inr (by cases e; exact hg)
  unfold Machine.admitLane
  exact (((hassoc.trans (clearMismatch _)).trans (countLane ..)).trans (of_notes (post_notesOnly ..))).trans
    (memberAdded ..)

theorem judgeNone (g : GroupIx) (S : Seq) (s : State) : AssocJudged l s (Machine.judgeNone l g S s) := by
  unfold Machine.judgeNone
  split
  · next h => exact admitLane S _ _ (of_decide_eq_true (Bool.and_eq_true_iff.1 h).1)
  · exact refuseAdmission g s

theorem judgeAssoc (named : Option GroupIx) (S : Seq) (s : State) : AssocJudged l s (Machine.judgeAssoc l named S s) := by
  unfold Machine.judgeAssoc
  split
  · exact clearMismatch s
  · exact (leaveGroup _ s).trans (clearMismatch _)
  · exact (leaveGroup _ s).trans (clearMismatch _)
  · exact judgeNone _ S s
  · split
    · exact clearMismatch s
    · exact (leaveGroup _ s).trans (judgeNone ..)
  · split
    · exact (leaveGroup _ s).trans (judgeNone ..)
    · split
      · exact countLane s ..
      · split
        · next h => exact admitLane S _ _ (of_decide_eq_true (Bool.and_eq_true_iff.1 h).1)
        · exact refuseAdmission _ s

theorem suspend (g : GroupIx) (c : SetCause) {s : State} (hg : (s.lane l).assoc.group? = some g) :
    AssocJudged l s (Machine.suspend l g c s) := by
  have hassoc : AssocJudged l s (s.modLane l fun x => { x with assoc := .suspended g }) :=
    modLane s _ rfl fun h e => .inl (by cases e; exact hg)
  exact (hassoc.trans (of_notes (post_notesOnly ..))).trans (departed ..)

end AssocJudged

/-! ### A marker at its context (R53 to R56) -/

theorem Assoc.group?_withMark (a : Assoc) (f : Seq → Seq) : (a.withMark f).group? = a.group? := by
  cases a <;> rfl

theorem Assoc.group?_withStrikes (a : Assoc) (k : Nat) : (a.withStrikes k).group? = a.group? := by
  cases a <;> rfl

theorem Assoc.group?_of_memberOf {a : Assoc} {g : GroupIx} (h : a.memberOf g = true) : a.group? = some g := by
  cases a with
  | member h' _ _ => exact congrArg some (of_decide_eq_true h)
  | none => cases h
  | suspended _ => cases h

/-- The lane `l` with its strikes or mark changed. -/
theorem AssocJudged.reassoc {l : LaneIx} (s : State) (f : Assoc → Assoc) (hf : ∀ a, (f a).group? = a.group?) :
    AssocJudged l s (s.modLane l fun x => { x with assoc := f x.assoc }) :=
  .modLane s _ rfl fun h e => .inl ((hf _).symm.trans e)

theorem suspendForSkew_assocJudged {l : LaneIx} {g : GroupIx} {s : State} (hg : (s.lane l).assoc.group? = some g) :
    AssocJudged l s (suspendForSkew l g s) := by
  have hhold : AssocJudged l s (s.modLane l fun x => { x with skewHold := some (s.after (ms (s.group g).skewHold)) }) :=
    .modLane s _ rfl fun _ e => .inl e
  have hname : ((s.modLane l fun x => { x with skewHold := some (s.after (ms (s.group g).skewHold)) }).lane l).assoc.group? =
      some g := by
    rw [State.lane_modLane_same]
    exact hg
  exact (hhold.trans (.of_delivers (.countGroup .skewSuspensions 1 _) (.inr hname))).trans (.suspend g .skew hname)

theorem measureSkew_assocJudged {l : LaneIx} {g : GroupIx} (S : Seq) {s : State} (hg : (s.lane l).assoc.group? = some g) :
    AssocJudged l s (measureSkew l g S s) := by
  unfold measureSkew
  split
  · next k _ =>
    split
    · have hstrikes : AssocJudged l s (s.modLane l fun x => { x with assoc := x.assoc.withStrikes (k + 1) }) :=
        .reassoc s (fun a => a.withStrikes (k + 1)) fun a => a.group?_withStrikes _
      have hname : ((s.modLane l fun x => { x with assoc := x.assoc.withStrikes (k + 1) }).lane l).assoc.group? = some g := by
        rw [State.lane_modLane_same, Assoc.group?_withStrikes, hg]
      have hcount := hstrikes.trans (.of_delivers (.countGroup .skewStrikes 1 _) (.inr hname))
      dsimp only
      split
      · exact hcount.trans (suspendForSkew_assocJudged hname)
      · exact hcount
    · exact .reassoc s (fun a => a.withStrikes 0) fun a => a.group?_withStrikes _
  · exact .refl l s

theorem resolveIfLive_assocJudged (l : LaneIx) (g : GroupIx) (s : State) : AssocJudged l s (resolveIfLive g s) := by
  unfold resolveIfLive
  split
  · next h => exact .of_delivers (.resolve s) (.inl fun hd => by rw [hd] at h; cases h)
  · exact .refl l s

theorem applyMarker_assocJudged {l : LaneIx} {g : GroupIx} (S : Seq) (was : Bool) {s : State}
    (hg : (s.lane l).assoc.group? = some g) : AssocJudged l s (applyMarker l g S was s) := by
  have hmark : AssocJudged l s (s.modLane l fun x => { x with assoc := x.assoc.withMark fun m => raiseTo m (S - 1) }) :=
    .reassoc s (fun a => a.withMark _) fun a => a.group?_withMark _
  have hname : ((s.modLane l fun x => { x with assoc := x.assoc.withMark fun m => raiseTo m (S - 1) }).lane l).assoc.group? =
      some g := by
    rw [State.lane_modLane_same, Assoc.group?_withMark, hg]
  unfold applyMarker
  dsimp only
  split
  · have hleave : Delivers g (s.modLane l fun x => { x with assoc := x.assoc.withMark fun m => raiseTo m (S - 1) })
        (leaveResync g S (s.modLane l fun x => { x with assoc := x.assoc.withMark fun m => raiseTo m (S - 1) })) :=
      (Delivers.modGroup _ _).trans (.setCtx _ _)
    exact (hmark.trans (.of_delivers hleave (.inr hname))).trans (resolveIfLive_assocJudged ..)
  · split
    · exact (hmark.trans (measureSkew_assocJudged S hname)).trans (resolveIfLive_assocJudged ..)
    · exact hmark.trans (resolveIfLive_assocJudged ..)

/-- What the taking of a marker makes of the part, from its report on (R128). -/
theorem takeMarker_assocJudged (l : LaneIx) (m : MarkerBody) (S : Seq) (s : State) :
    AssocJudged l (takeReport l m s) (takeMarker l m S s) := by
  have hjudge := AssocJudged.judgeAssoc (l := l) m.role.group? S (takeReport l m s)
  unfold takeMarker
  dsimp only
  split
  · exact hjudge
  · split
    · next h => exact hjudge.trans (applyMarker_assocJudged S _ (Assoc.group?_of_memberOf h))
    · exact hjudge

/-! ### A valid marker at the receiver -/

theorem judgeAssoc_none (l : LaneIx) (q S : Seq) (s : State) : judgeAssoc l none q s = judgeAssoc l none S s := by
  unfold judgeAssoc
  cases (s.lane l).assoc <;> rfl

/-- A marker that names no group has no use of its sequence. -/
theorem takeMarker_seq {m : MarkerBody} {q S : Seq} (h : ∀ g, m.role.group? = some g → q = S) (l : LaneIx) (s : State) :
    takeMarker l m q s = takeMarker l m S s := by
  cases hm : m.role.group? with
  | some g => rw [h g hm]
  | none =>
    unfold takeMarker
    rw [hm]
    exact judgeAssoc_none l q S _

/-- The part with a valid marker of lane `l` received, before it goes on. -/
def State.received (s : State) (l : LaneIx) (m : MarkerBody) : State := (s.countLane l .segmentsReceived).markerTaken l m

/-- A valid marker on an ALIGNED lane in no diagnostic mode goes on to the Membership Controller. -/
theorem exec_segmentTaken_marker {s : State} {l : LaneIx} {m : MarkerBody} (S : Seq) (hrx : (s.lane l).rx = .aligned)
    (hdiag : (s.lane l).diag = .none) (hcd : (s.lane l).cdPresent = true) (hm : m.lane = l)
    (htoken : s.dev.stationToken = 0 ∨ m.token ≠ s.dev.stationToken) :
    exec (.segmentTaken l (markerBytes m S)) s = .next (takeMarker l m S (s.received l m)) := by
  have hdl : (s.lane l).diag ≠ .loopLocal := by rw [hdiag]; decide
  obtain ⟨q, hq, hrecv⟩ := receiveSegment_marker l m S s
  have hu := s.lane_countLane_same l .segmentsReceived 1
  have hnot : ¬(s.countLane l .segmentsReceived).isLooped l m = true := fun h => by
    obtain ⟨h0, ht⟩ := (s.isLooped_countLane l .segmentsReceived m hdl).1 h
    exact htoken.elim h0 fun hne => hne ht
  rw [loopCopy_of_ne _ (by rw [hu]; dsimp only; rw [hdiag]; decide), if_neg hnot, if_neg (fun hne => hne hm), takeValid_eq,
    if_pos (by rw [hu]; exact ⟨hrx, hdiag⟩), takeMarker_seq hq] at hrecv
  rw [exec_segmentTaken, lineSegment_of_taken _ (by rw [hrx]; decide) hcd hdl, hrecv]
  rfl

/-- A lane with a valid marker received. -/
def LaneState.received (m : MarkerBody) (x : LaneState) : LaneState :=
  { x with
    ctr := raiseCounter (raiseCounter (raiseCounter x.ctr LaneCtr.segmentsReceived.ix 1) LaneCtr.validMarkers.ix 1)
      LaneCtr.markerGap.ix (missingMarkers x.lastCount m.count)
    interval := { x.interval with markerSeen := true }
    lastCount := some m.count }

section
variable (s : State) (l : LaneIx) (m : MarkerBody)

theorem State.received_lane (n : LaneIx) :
    (s.received l m).lane n = if n = l then (s.lane l).received m else s.lane n := by
  unfold State.received State.markerTaken
  rw [State.lane_modLane]
  split
  · simp only [State.lane_countLane_same]
    rfl
  · next h => simp only [State.lane_countLane, if_neg h]

theorem State.received_group (g : GroupIx) : (s.received l m).group g = s.group g := rfl

theorem State.received_peerReport : (s.received l m).peerReport = s.peerReport := rfl

theorem State.received_role (n : LaneIx) : ((s.received l m).lane n).role = (s.lane n).role := by
  rw [State.received_lane]
  split
  · next e => rw [e]; rfl
  · rfl

theorem State.received_reportedRole : (s.received l m).reportedRole m = s.reportedRole m := by
  funext n
  unfold State.reportedRole
  rw [State.received_role, State.received_peerReport]

theorem State.received_reportCompletes : (s.received l m).reportCompletes m = s.reportCompletes m := by
  funext g
  unfold State.reportCompletes
  rw [State.received_reportedRole, State.received_group]

theorem State.received_reportDrops (d : DisableRec) : (s.received l m).reportDrops m d = s.reportDrops m d := by
  unfold State.reportDrops
  simp only [State.received_role]
end

end Sys2Proof.Machine
end

section
/-! The laws of the operations as a structure, and the changes of the part that keep them (L4, L11, R113, R126, R160). -/

namespace Sys2Proof.Machine

/- The kernel checks the theorems one after another. -/
set_option Elab.async false

/-! ### The laws, named -/

/-- The operation `op` in slot `k` has its owner: a lane or a group. -/
def State.owns (s : State) (k : SlotIx) : OpKind → Prop
  | .laneAdd l => ∃ p, (s.lane l).op = some p ∧ p.slot = k ∧ p.kind = .add
  | .laneRemove l => ∃ p, (s.lane l).op = some p ∧ p.slot = k ∧ p.kind = .remove
  | .groupDisable g => ∃ d, (s.group g).disable = some d ∧ d.slot = k

/-- The slot holds an operation that has ended. -/
def SlotBody.isComplete (b : SlotBody) : Prop := ∃ op a e o t, b = .complete op a e o t

/-- The ties between slots, operations, disable records and roles. -/
structure OpsTies (s : State) : Prop where
  laneSlot : ∀ l p, (s.lane l).op = some p → s.holdsOp p.slot p.gen (p.kind.on l)
  setSlot : ∀ g d, (s.group g).disable = some d → s.holdsOp d.slot d.gen (.groupDisable g)
  owned : ∀ k op a e, (s.slot k).body = .inFlight op a e → s.owns k op
  disabling : ∀ g, (s.group g).disable.isSome = true ↔ (s.group g).tx = .disabling
  member : ∀ g d l, (s.group g).disable = some d → inSet d.set l = true →
    (s.lane l).op = none ∧ ((s.lane l).role = .off ∨ (s.lane l).role = .draining g)
  live : ∀ l g, (s.lane l).role.group? = some g → (s.group g).tx ≠ .disabled
  named : ∀ l g d, (s.lane l).role.group? = some g → (s.group g).disable = some d → inSet d.set l = true
  opGroup : ∀ l p, (s.lane l).op = some p → (s.group p.group).disable = none
  nodup : s.completionOrder.Nodup
  complete : ∀ k, k ∈ s.completionOrder ↔ (s.slot k).body.isComplete

theorem State.opsLawful_iff (s : State) : s.OpsLawful ↔ OpsTies s ∧ ∀ l, s.RoleLawful l := by
  constructor
  · rintro ⟨hlane, hset, hadd, hremove, hdisable, hdisabling, hmember, hlive, hnamed, hgroup, hnodup, hcomplete, hrole⟩
    refine ⟨⟨hlane, hset, fun k op a e hb => ?_, hdisabling, hmember, hlive, hnamed, hgroup, hnodup, hcomplete⟩, hrole⟩
    cases op with
    | laneAdd l => exact hadd k l a e hb
    | laneRemove l => exact hremove k l a e hb
    | groupDisable g => exact hdisable k g a e hb
  · rintro ⟨⟨hlane, hset, howned, hdisabling, hmember, hlive, hnamed, hgroup, hnodup, hcomplete⟩, hrole⟩
    exact ⟨hlane, hset, fun k l a e hb => howned k _ a e hb, fun k l a e hb => howned k _ a e hb,
      fun k g a e hb => howned k _ a e hb, hdisabling, hmember, hlive, hnamed, hgroup, hnodup, hcomplete, hrole⟩

theorem State.OpsLawful.ties {s : State} (h : s.OpsLawful) : OpsTies s := (s.opsLawful_iff.1 h).1

theorem State.OpsLawful.roles {s : State} (h : s.OpsLawful) (l : LaneIx) : s.RoleLawful l := (s.opsLawful_iff.1 h).2 l

theorem LaneOpKind.on_injective {k k' : LaneOpKind} {n n' : LaneIx} (h : k.on n = k'.on n') : n = n' := by
  cases k <;> cases k' <;> simp_all [LaneOpKind.on]

/-- No two operations in flight stand in one slot. -/
theorem OpsTies.lane_slots {s : State} (h : OpsTies s) {n m : LaneIx} {p q : LaneOp} (hp : (s.lane n).op = some p)
    (hq : (s.lane m).op = some q) (hne : m ≠ n) : q.slot ≠ p.slot := by
  intro e
  obtain ⟨-, a, b, hbody⟩ := h.laneSlot n p hp
  obtain ⟨-, a', b', hbody'⟩ := h.laneSlot m q hq
  rw [e, hbody] at hbody'
  injection hbody' with hop
  exact hne (LaneOpKind.on_injective hop).symm

theorem OpsTies.set_slot {s : State} (h : OpsTies s) {n : LaneIx} {g : GroupIx} {p : LaneOp} {d : DisableRec}
    (hp : (s.lane n).op = some p) (hd : (s.group g).disable = some d) : d.slot ≠ p.slot := by
  intro e
  obtain ⟨-, a, b, hbody⟩ := h.laneSlot n p hp
  obtain ⟨-, a', b', hbody'⟩ := h.setSlot g d hd
  rw [e, hbody] at hbody'
  injection hbody' with hop
  cases hk : p.kind <;> rw [hk] at hop <;> cases hop

theorem OpsTies.set_slots {s : State} (h : OpsTies s) {g i : GroupIx} {d e : DisableRec}
    (hd : (s.group g).disable = some d) (he : (s.group i).disable = some e) (hne : i ≠ g) : e.slot ≠ d.slot := by
  intro heq
  obtain ⟨-, a, b, hbody⟩ := h.setSlot g d hd
  obtain ⟨-, a', b', hbody'⟩ := h.setSlot i e he
  rw [heq, hbody] at hbody'
  injection hbody' with hop
  injection hop with hgi
  exact hne hgi.symm

/-! ### Parts alike in operations, slots and disables -/

/-- What the ties speak of in a disable record: all but its loss mark. -/
def DisableRec.tie (d : DisableRec) : SlotIx × BitVec 12 × LaneSet := (d.slot, d.gen, d.set)

/-- The same operations, slots and disables, but for loss marks and for transmit states that go on cutting. -/
structure OpsAlike (s t : State) : Prop where
  op : ∀ l, (t.lane l).op = (s.lane l).op
  slot : ∀ k, t.slot k = s.slot k
  order : t.completionOrder = s.completionOrder
  disabling : ∀ g, (t.group g).tx = .disabling ↔ (s.group g).tx = .disabling
  disabled : ∀ g, (t.group g).tx = .disabled ↔ (s.group g).tx = .disabled
  tie : ∀ g, (t.group g).disable.map DisableRec.tie = (s.group g).disable.map DisableRec.tie

/-- The same in roles and queues too. -/
structure OpsSame (s t : State) : Prop extends OpsAlike s t where
  role : ∀ l, (t.lane l).role = (s.lane l).role
  queue : ∀ l, (t.lane l).queue = (s.lane l).queue

theorem OpsAlike.refl (s : State) : OpsAlike s s :=
  ⟨fun _ => rfl, fun _ => rfl, rfl, fun _ => Iff.rfl, fun _ => Iff.rfl, fun _ => rfl⟩

theorem OpsSame.refl (s : State) : OpsSame s s := ⟨.refl s, fun _ => rfl, fun _ => rfl⟩

theorem OpsAlike.trans {s t u : State} (h : OpsAlike s t) (k : OpsAlike t u) : OpsAlike s u where
  op l := (k.op l).trans (h.op l)
  slot j := (k.slot j).trans (h.slot j)
  order := k.order.trans h.order
  disabling g := (k.disabling g).trans (h.disabling g)
  disabled g := (k.disabled g).trans (h.disabled g)
  tie g := (k.tie g).trans (h.tie g)

theorem OpsSame.trans {s t u : State} (h : OpsSame s t) (k : OpsSame t u) : OpsSame s u where
  toOpsAlike := h.toOpsAlike.trans k.toOpsAlike
  role l := (k.role l).trans (h.role l)
  queue l := (k.queue l).trans (h.queue l)

section
variable {s t : State}

theorem OpsAlike.disable_some (h : OpsAlike s t) {g : GroupIx} {d' : DisableRec} (hd : (t.group g).disable = some d') :
    ∃ d, (s.group g).disable = some d ∧ d.slot = d'.slot ∧ d.gen = d'.gen ∧ d.set = d'.set := by
  have htie := h.tie g
  rw [hd] at htie
  cases hs : (s.group g).disable with
  | none =>
    rw [hs] at htie
    cases htie
  | some d =>
    rw [hs] at htie
    have heq : d'.tie = d.tie := Option.some.inj htie
    simp only [DisableRec.tie, Prod.mk.injEq] at heq
    obtain ⟨h1, h2, h3⟩ := heq
    exact ⟨d, rfl, h1.symm, h2.symm, h3.symm⟩

theorem OpsAlike.disable_none (h : OpsAlike s t) (g : GroupIx) : (t.group g).disable = none ↔ (s.group g).disable = none := by
  have htie := h.tie g
  rw [← Option.map_eq_none_iff (f := DisableRec.tie), htie, Option.map_eq_none_iff]

/-- A role that the ties allow lane `l`. -/
structure RoleFits (s : State) (l : LaneIx) (r : Role) : Prop where
  member : ∀ g d, (s.group g).disable = some d → inSet d.set l = true → r = .off ∨ r = .draining g
  live : ∀ g, r.group? = some g → (s.group g).tx ≠ .disabled
  named : ∀ g d, r.group? = some g → (s.group g).disable = some d → inSet d.set l = true

theorem OpsTies.roleFits (h : OpsTies s) (l : LaneIx) : RoleFits s l (s.lane l).role :=
  ⟨fun g d hd hin => (h.member g d l hd hin).2, h.live l, h.named l⟩

theorem RoleFits.off (s : State) (l : LaneIx) : RoleFits s l .off := ⟨fun _ _ _ _ => .inl rfl, nofun, nofun⟩

/-- Parts alike but for roles that fit. -/
theorem OpsTies.alike (h : OpsTies s) (k : OpsAlike s t) (hrole : ∀ l, RoleFits s l (t.lane l).role) : OpsTies t where
  laneSlot l p hp := by
    unfold State.holdsOp
    rw [k.slot]
    exact h.laneSlot l p (by rw [← k.op]; exact hp)
  setSlot g d' hd' := by
    obtain ⟨d, hd, hslot, hgen, -⟩ := k.disable_some hd'
    unfold State.holdsOp
    rw [k.slot, ← hslot, ← hgen]
    exact h.setSlot g d hd
  owned j op a e hb := by
    have howns := h.owned j op a e (by rw [← k.slot]; exact hb)
    cases op with
    | laneAdd l =>
      obtain ⟨p, hp, hslot, hkind⟩ := howns
      exact ⟨p, (k.op l).trans hp, hslot, hkind⟩
    | laneRemove l =>
      obtain ⟨p, hp, hslot, hkind⟩ := howns
      exact ⟨p, (k.op l).trans hp, hslot, hkind⟩
    | groupDisable g =>
      obtain ⟨d, hd, hslot⟩ := howns
      cases hd' : (t.group g).disable with
      | none => exact absurd ((k.disable_none g).1 hd') (by rw [hd]; nofun)
      | some d' =>
        obtain ⟨d2, hd2, hslot2, -⟩ := k.disable_some hd'
        rw [hd] at hd2
        cases hd2
        exact ⟨d', hd', hslot2.symm.trans hslot⟩
  disabling g := by
    rw [k.disabling, ← h.disabling, Option.isSome_iff_ne_none, Option.isSome_iff_ne_none, ne_eq, ne_eq, k.disable_none]
  member g d' l hd' hin := by
    obtain ⟨d, hd, -, -, hset⟩ := k.disable_some hd'
    rw [← hset] at hin
    exact ⟨(k.op l).trans (h.member g d l hd hin).1, (hrole l).member g d hd hin⟩
  live l g hg := by
    rw [ne_eq, k.disabled]
    exact (hrole l).live g hg
  named l g d' hg hd' := by
    obtain ⟨d, hd, -, -, hset⟩ := k.disable_some hd'
    rw [← hset]
    exact (hrole l).named g d hg hd
  opGroup l p hp := (k.disable_none _).2 (h.opGroup l p (by rw [← k.op]; exact hp))
  nodup := by
    rw [k.order]
    exact h.nodup
  complete j := by
    rw [k.order, k.slot]
    exact h.complete j

/-- The role of a lane stands as lawfully in a part with the same record of its set. -/
theorem State.RoleLawful.alike {l : LaneIx} (h : s.RoleLawful l) (hrole : (t.lane l).role = (s.lane l).role)
    (hqueue : (t.lane l).queue = (s.lane l).queue) (hop : (t.lane l).op = (s.lane l).op)
    (hset : ∀ g d, (s.group g).disable = some d → inSet d.set l = true → (s.lane l).role = .draining g →
      ∃ d', (t.group g).disable = some d' ∧ inSet d'.set l = true) : t.RoleLawful l := by
  unfold State.RoleLawful at *
  rw [hrole, hqueue, hop]
  cases hr : (s.lane l).role with
  | draining g =>
    rw [hr] at h
    obtain ⟨hq, hremove | ⟨hnone, d, hd, hin⟩⟩ := h
    · exact ⟨hq, .inl hremove⟩
    · exact ⟨hq, .inr ⟨hnone, hset g d hd hin hr⟩⟩
  | off => simpa [hr] using h
  | probation g => simpa [hr] using h
  | active g => simpa [hr] using h
  | withdrawn g => simpa [hr] using h

theorem OpsAlike.set_of (k : OpsAlike s t) {g : GroupIx} {d : DisableRec} (hd : (s.group g).disable = some d) :
    ∃ d', (t.group g).disable = some d' ∧ d'.set = d.set := by
  cases hd' : (t.group g).disable with
  | none => exact absurd ((k.disable_none g).1 hd') (by rw [hd]; nofun)
  | some d' =>
    obtain ⟨d2, hd2, -, -, hset⟩ := k.disable_some hd'
    rw [hd] at hd2
    cases hd2
    exact ⟨d', rfl, hset.symm⟩

theorem OpsSame.lawful (k : OpsSame s t) (hs : s.OpsLawful) : t.OpsLawful := by
  obtain ⟨hties, hroles⟩ := s.opsLawful_iff.1 hs
  refine t.opsLawful_iff.2 ⟨hties.alike k.toOpsAlike fun l => ?_, fun l => ?_⟩
  · rw [k.role]
    exact hties.roleFits l
  · refine (hroles l).alike (k.role l) (k.queue l) (k.op l) fun g d hd hin _ => ?_
    obtain ⟨d', hd', hset⟩ := k.set_of hd
    exact ⟨d', hd', by rw [hset]; exact hin⟩

end

end Sys2Proof.Machine
end

section
/-! What the report of a marker makes of every lane, operation and group (R128 to R130, R137, R139, R141, R142). -/

namespace Sys2Proof.Machine

/- The kernel checks the theorems one after another. -/
set_option Elab.async false

/-! ### Every lane -/

theorem State.received_opsSame (s : State) (l : LaneIx) (m : MarkerBody) : OpsSame s (s.received l m) where
  role n := by rw [State.received_lane]; split <;> simp_all [LaneState.received]
  op n := by rw [State.received_lane]; split <;> simp_all [LaneState.received]
  queue n := by rw [State.received_lane]; split <;> simp_all [LaneState.received]
  disabling _ := Iff.rfl
  disabled _ := Iff.rfl
  tie _ := rfl
  slot _ := rfl
  order := rfl

/-- How the report of the marker `m` ends the operation on lane `n`. -/
def State.reportEnds (s : State) (m : MarkerBody) (n : LaneIx) : Option OpOutcome :=
  (s.lane n).ending (inSet m.accepted n) (inSet m.aligned n) (wasAligned s.peerReport n)

theorem AssocJudged.lane_eq {l : LaneIx} {s t : State} (h : AssocJudged l s t) (n : LaneIx) : t.lane n = { s.lane n with
    assoc := (t.lane n).assoc, skewHold := (t.lane n).skewHold, mismatch := (t.lane n).mismatch, ctr := (t.lane n).ctr } := by
  by_cases hn : n = l
  · rw [hn]
    exact h.lane
  · rw [h.others n hn]

/-- A lane judged by a report, in one equation. -/
theorem takeReport_lane (l : LaneIx) (m : MarkerBody) (s : State) (n : LaneIx) :
    ∃ y, LaneChanged (s.reportedRole m n) ((s.lane n).judgedQueue (inSet m.accepted n)) (s.reportEnds m n).isSome (s.lane n) y ∧
      (takeReport l m s).lane n = y.droppedBy (s.reportCompletes m) := by
  obtain ⟨y, hy, hr⟩ := (takeReport_reported l m s).lane n
  exact ⟨y, hy, hr⟩

/-- A lane after a marker, in one equation. -/
theorem takeMarker_lane (l : LaneIx) (m : MarkerBody) (S : Seq) (s : State) (n : LaneIx) :
    (takeMarker l m S s).lane n = { s.lane n with
      role := s.reportedRole m n
      queue := (s.lane n).judgedQueue (inSet m.accepted n)
      op := if (s.reportEnds m n).isSome then none else (s.lane n).op
      deficit := ((takeMarker l m S s).lane n).deficit
      assoc := ((takeMarker l m S s).lane n).assoc
      skewHold := ((takeMarker l m S s).lane n).skewHold
      mismatch := ((takeMarker l m S s).lane n).mismatch
      ctr := ((takeMarker l m S s).lane n).ctr } := by
  have ha := (takeMarker_assocJudged l m S s).lane_eq n
  obtain ⟨y, ⟨hrest, hrole, hqueue, hop, -⟩, hr⟩ := takeReport_lane l m s n
  generalize takeMarker l m S s = t at ha ⊢
  rw [hr, LaneState.droppedBy_fields, hrest] at ha
  rw [hrole, hqueue, hop] at ha
  have hdeficit : (t.lane n).deficit = y.deficit := by rw [ha]
  rw [hdeficit]
  exact ha

/-! ### The operations of the lanes -/

/-- In a lawful state an operation ends as the table of the endings says. -/
theorem State.RoleLawful.ending_eq {s : State} {n : LaneIx} {p : LaneOp} (h : s.RoleLawful n) (hp : (s.lane n).op = some p)
    (acc al was : Bool) : (s.lane n).ending acc al was = reportEnding (s.lane n).role p.kind acc al was := by
  have hrem : (s.lane n).beingRemoved = decide (p.kind = .remove) := by
    unfold LaneState.beingRemoved
    rw [hp]
  unfold State.RoleLawful at h
  unfold LaneState.ending reportEnding
  rw [hrem]
  cases hr : (s.lane n).role with
  | off =>
    rw [hr] at h
    rw [h.2 p hp]
    cases acc <;> rfl
  | probation g =>
    rw [hr] at h
    obtain ⟨-, q, hq, hkind, -⟩ := h
    rw [hp] at hq
    cases hq
    rw [hkind]
  | active g =>
    simp only [hr] at h
    cases h.symm.trans hp
  | withdrawn g =>
    simp only [hr] at h
    cases h.2.symm.trans hp
  | draining g =>
    rw [hr] at h
    obtain ⟨-, ⟨q, hq, hkind, -⟩ | ⟨hnone, -⟩⟩ := h
    · rw [hp] at hq
      cases hq
      rw [hkind]
      cases acc <;> rfl
    · cases hnone.symm.trans hp

/-- The slot of an operation of a lane, after the report. -/
theorem takeReport_slot {s : State} (h : s.OpsLawful) (l : LaneIx) (m : MarkerBody) {n : LaneIx} {p : LaneOp}
    (hp : (s.lane n).op = some p) : (takeReport l m s).slot p.slot =
      (s.slot p.slot).endedIf (some p) (s.reportEnds m n) p.slot s.timebase :=
  (takeReport_reported l m s).laneSlot n p hp (fun _ _ hne hq => h.ties.lane_slots hp hq hne) fun _ _ hd => h.ties.set_slot hp hd

/-- The slot of a GROUP-DISABLE, after the report. -/
theorem takeReport_setSlot {s : State} (h : s.OpsLawful) (l : LaneIx) (m : MarkerBody) {g : GroupIx} {d : DisableRec}
    (hd : (s.group g).disable = some d) : (takeReport l m s).slot d.slot =
      if s.reportCompletes m g then ⟨(s.slot d.slot).gen, (s.slot d.slot).body.ended
        (if d.loss || s.reportDrops m d then .doneWithLoss else .done) s.timebase⟩ else s.slot d.slot := by
  have hslot := (takeReport_reported l m s).setSlot g d hd (fun _ _ hp => (h.ties.set_slot hp hd).symm)
    fun _ _ hne he => h.ties.set_slots hd he hne
  rw [State.lossAt_all] at hslot
  exact hslot

/-! ### The disables -/

/-- A group whose disable completes, after the marker. -/
theorem takeMarker_disabled {s : State} {m : MarkerBody} {g : GroupIx} (h : s.reportCompletes m g = true) (l : LaneIx) (S : Seq) :
    DisabledFrom (s.group g) ((takeMarker l m S s).group g) := by
  have hd := (takeReport_reported l m s).disabled g h
  have hidle := (takeMarker_assocJudged l m S s).idle g hd.ctx (by rw [hd.tx]; decide)
  have hname : ((takeReport l m s).lane l).assoc.group? ≠ some g := by
    obtain ⟨y, -, hr⟩ := takeReport_lane l m s l
    rw [hr]
    unfold LaneState.droppedBy
    split
    · nofun
    · next hno =>
      intro e
      rw [e] at hno
      exact hno h
  rw [(hidle hname).1]
  exact hd

/-- A lane of a group whose disable completes, after the marker of another lane. -/
theorem takeMarker_dropped {s : State} {m : MarkerBody} {g : GroupIx} (h : s.reportCompletes m g = true) {l n : LaneIx} (hn : n ≠ l)
    (hname : (s.lane n).assoc.group? = some g) (S : Seq) :
    ((takeMarker l m S s).lane n).assoc = .none ∧ ((takeMarker l m S s).lane n).skewHold = none := by
  obtain ⟨y, hy, hr⟩ := takeReport_lane l m s n
  have hassoc : y.assoc = (s.lane n).assoc := by rw [hy.rest]
  have hdrop : y.droppedBy (s.reportCompletes m) = { y with assoc := .none, skewHold := none } := by
    unfold LaneState.droppedBy
    rw [hassoc, hname]
    exact if_pos h
  rw [(takeMarker_assocJudged l m S s).others n hn, hr, hdrop]
  exact ⟨rfl, rfl⟩

/-- A group whose disable goes on, or that has none, after the marker. -/
theorem takeMarker_group {s : State} {m : MarkerBody} {g : GroupIx} (h : s.reportCompletes m g = false) (l : LaneIx) (S : Seq) :
    ((takeMarker l m S s).group g).disable =
        (s.group g).disable.map (fun d => { d with loss := d.loss || s.reportDrops m d }) ∧
      ((s.group g).tx.cutting = false → ((takeMarker l m S s).group g).tx = (s.group g).tx) := by
  obtain ⟨hrest, hkept, -⟩ := (takeReport_reported l m s).group g h
  rw [(takeMarker_assocJudged l m S s).disable, (takeMarker_assocJudged l m S s).tx]
  refine ⟨?_, hkept⟩
  rw [hrest]
  simp only [← State.lossAt_all s m l]
  rfl

/-- The marker, received, finds every lane in its role, queue and operation. -/
theorem State.received_reportEnds (s : State) (l : LaneIx) (m : MarkerBody) (n : LaneIx) :
    (s.received l m).reportEnds m n = s.reportEnds m n := by
  have hsame := s.received_opsSame l m
  exact LaneState.ending_congr (hsame.role n) (hsame.op n) ..

/-- An operation that the report ends, in its slot. -/
theorem takeMarker_ends {s : State} (h : s.OpsLawful) (l : LaneIx) (m : MarkerBody) (S : Seq) {n : LaneIx} {p : LaneOp} {a e : Time}
    (hp : (s.lane n).op = some p) (hslot : s.slot p.slot = ⟨p.gen, .inFlight (p.kind.on n) a e⟩) :
    match reportEnding (s.lane n).role p.kind (inSet m.accepted n) (inSet m.aligned n) (wasAligned s.peerReport n) with
    | none => ((takeMarker l m S s).lane n).op = some p ∧ (takeMarker l m S s).slot p.slot = s.slot p.slot
    | some o => ((takeMarker l m S s).lane n).op = none ∧
        (takeMarker l m S s).slot p.slot = ⟨p.gen, .complete (p.kind.on n) a e o s.timebase⟩ := by
  have hrole : s.RoleLawful n := by
    obtain ⟨-, -, -, -, -, -, -, -, -, -, -, -, hroles⟩ := h
    exact hroles n
  have hends : s.reportEnds m n = reportEnding (s.lane n).role p.kind (inSet m.accepted n) (inSet m.aligned n)
      (wasAligned s.peerReport n) := hrole.ending_eq hp ..
  have hop : ((takeMarker l m S s).lane n).op = if (s.reportEnds m n).isSome then none else (s.lane n).op := by
    rw [takeMarker_lane]
  rw [(takeMarker_assocJudged l m S s).slot, takeReport_slot h l m hp, hop, hp, ← hends]
  cases s.reportEnds m n with
  | none => exact ⟨rfl, Slot.endedIf_none ..⟩
  | some o =>
    refine ⟨rfl, (if_pos rfl).trans ?_⟩
    rw [hslot]
    rfl

/-- Settles O42: the report is taken on the part with the marker received, and the association leaves what it made. -/
theorem reportJudgesEveryRole : Obligations.ReportJudgesEveryRole := by
  intro s l m S hrx hdiag hcd hm htoken
  have hsame := s.received_opsSame l m
  have hlane := takeMarker_lane l m S (s.received l m)
  have hreport : (takeMarker l m S (s.received l m)).peerReport = some (m.report l) :=
    (takeMarker_assocJudged l m S _).keeps.report.trans (takeReport_reported l m _).report
  refine ⟨_, exec_segmentTaken_marker S hrx hdiag hcd hm htoken, hreport, fun n => ?_, fun g d hd => ?_⟩
  · have hn := hlane n
    rw [State.received_reportedRole, LaneState.judgedQueue_congr (hsame.role n) (hsame.queue n), State.received_reportEnds,
      hsame.op] at hn
    have hother : n ≠ l → (s.received l m).lane n = s.lane n := fun hne => by rw [State.received_lane, if_neg hne]
    have hweight : ((s.received l m).lane n).weight = (s.lane n).weight ∧
        ((s.received l m).lane n).flight = (s.lane n).flight := by
      rw [State.received_lane]
      split
      · next e => rw [e]; exact ⟨rfl, rfl⟩
      · exact ⟨rfl, rfl⟩
    refine ⟨?_, ?_, ?_, ?_, fun hne => ?_, fun hop => ?_, fun p a e hlaw hp hslot => ?_⟩
    · rw [hn]
      rfl
    · rw [hn]
      rfl
    · rw [hn]
      exact hweight.1
    · rw [hn]
      exact hweight.2
    · rw [hn, hother hne]
      exact ⟨rfl, rfl⟩
    · rw [hn, hop]
      exact ite_self _
    · have hends := takeMarker_ends (hsame.lawful hlaw) l m S ((hsame.op n).trans hp) ((hsame.slot p.slot).trans hslot)
      rw [hsame.role] at hends
      exact hends
  · have hd' : ((s.received l m).group g).disable = some d := hd
    dsimp only
    rw [← s.received_reportCompletes l m, ← s.received_reportDrops l m]
    split
    · next hc =>
      obtain ⟨htx, hctx, hdisable, hstore, hexpected, hegress⟩ := takeMarker_disabled hc l S
      refine ⟨htx, hctx, hdisable, hstore, hexpected, hegress, fun n hne hname => ?_, fun a e hlaw hslot => ?_⟩
      · refine takeMarker_dropped hc hne ?_ S
        rw [State.received_lane, if_neg hne]
        exact hname
      · rw [(takeMarker_assocJudged l m S _).slot, takeReport_setSlot (hsame.lawful hlaw) l m hd', if_pos hc,
          (hsame.slot d.slot).trans hslot]
        rfl
    · next hc =>
      obtain ⟨hdisable, htx⟩ := takeMarker_group (Bool.eq_false_of_not_eq_true hc) l S
      rw [hd'] at hdisable
      exact ⟨hdisable, fun h => (htx (by rw [State.received_group, h]; rfl)).trans h⟩

end Sys2Proof.Machine
end

section
/-! A marker applied at the context of its lane's group, and departures, in closed form (R40, R52 to R56). -/

namespace Sys2Proof.Machine

/- The kernel checks the theorems one after another. -/
set_option Elab.async false

/-- The members of a group, where the lanes are members alike. -/
theorem State.memberCount_congr {s t : State} {g : GroupIx} (h : ∀ n, t.isMember g n = s.isMember g n) :
    t.memberCount g = s.memberCount g := by
  unfold State.memberCount
  rw [funext h]

/-- The lane `l` MEMBER of `g` with this mark and these strikes. -/
def State.membered (s : State) (l : LaneIx) (g : GroupIx) (mark : Seq) (k : Nat) : State :=
  s.modLane l fun y => { y with assoc := .member g mark k }

section
variable {s : State} {l : LaneIx} {g : GroupIx} {mark : Seq} {k : Nat}

theorem State.membered_lane (s : State) (l : LaneIx) (g : GroupIx) (mark : Seq) (k : Nat) (n : LaneIx) :
    (s.membered l g mark k).lane n = if n = l then { s.lane l with assoc := .member g mark k } else s.lane n :=
  State.lane_modLane ..

theorem State.membered_group (s : State) (l : LaneIx) (g : GroupIx) (mark : Seq) (k : Nat) (h : GroupIx) :
    (s.membered l g mark k).group h = s.group h := rfl

theorem State.membered_isMember (h : (s.lane l).assoc = .member g mark k) (mark' : Seq) (j : Nat) (n : LaneIx) :
    (s.membered l g mark' j).isMember g n = s.isMember g n := by
  unfold State.isMember
  rw [State.membered_lane]
  split
  · next e =>
    rw [e, h]
    rfl
  · rfl

theorem State.membered_memberCount (h : (s.lane l).assoc = .member g mark k) (mark' : Seq) (j : Nat) :
    (s.membered l g mark' j).memberCount g = s.memberCount g :=
  State.memberCount_congr (State.membered_isMember h mark' j)

/-- The raise of the passed mark by a marker carrying `S`. -/
theorem raise_eq (h : (s.lane l).assoc = .member g mark k) (q : Seq) :
    (s.modLane l fun x => { x with assoc := x.assoc.withMark fun m => raiseTo m q }) = s.membered l g (raiseTo mark q) k :=
  State.modLane_congr (by rw [h]; rfl)

theorem resolveIfLive_of_live {g : GroupIx} {s : State} (h : (s.group g).ctx.live = true) : resolveIfLive g s = resolve g s :=
  if_pos h

theorem resolveIfLive_of_not_live {g : GroupIx} {s : State} (h : (s.group g).ctx.live = false) : resolveIfLive g s = s :=
  if_neg (by rw [h]; decide)

theorem applyMarker_eq (h : (s.lane l).assoc = .member g mark k) (S : Seq) (was : Bool) :
    applyMarker l g S was s =
      if (s.group g).ctx = .resync then resolveIfLive g (leaveResync g S (s.membered l g (raiseTo mark (S - 1)) k))
      else if (s.group g).ctx.live && was then resolveIfLive g (measureSkew l g S (s.membered l g (raiseTo mark (S - 1)) k))
      else resolveIfLive g (s.membered l g (raiseTo mark (S - 1)) k) := by
  rw [← raise_eq h]
  rfl

theorem applyMarker_of_disabled (h : (s.lane l).assoc = .member g mark k) (S : Seq) (was : Bool)
    (hctx : (s.group g).ctx = .disabled) : applyMarker l g S was s = s.membered l g (raiseTo mark (S - 1)) k := by
  rw [applyMarker_eq h, hctx, if_neg (by decide), if_neg (by simp [CtxState.live])]
  exact resolveIfLive_of_not_live (by rw [State.membered_group, hctx]; rfl)

/-- The exit from RESYNC, as the statement puts it. -/
theorem leaveResync_eq (h : (s.group g).ctx = .resync) (S : Seq) :
    leaveResync g S s = post (.groupRx g .resync (if s.memberCount g < (s.group g).minLanes then .forming else .up))
      (s.modGroup g fun y => { y with
        ctx := if s.memberCount g < (s.group g).minLanes then .forming else .up, expected := some S, highest := some (S - 1) }) := by
  unfold leaveResync setCtx State.liveState
  dsimp only
  have hctx : ((s.modGroup g fun x => { x with expected := some S, highest := some (S - 1) }).group g).ctx = .resync := by
    rw [State.group_modGroup, if_pos rfl]
    exact h
  rw [hctx, if_neg (by split <;> decide), State.modGroup_modGroup]

theorem applyMarker_of_resync (h : (s.lane l).assoc = .member g mark k) (S : Seq) (was : Bool)
    (hctx : (s.group g).ctx = .resync) : applyMarker l g S was s =
      resolve g (post (.groupRx g .resync (if s.memberCount g < (s.group g).minLanes then .forming else .up))
        ((s.membered l g (raiseTo mark (S - 1)) k).modGroup g fun y => { y with
          ctx := if s.memberCount g < (s.group g).minLanes then .forming else .up
          expected := some S, highest := some (S - 1) })) := by
  rw [applyMarker_eq h, if_pos hctx, leaveResync_eq (by rw [State.membered_group, hctx]), State.membered_memberCount h,
    State.membered_group]
  refine resolveIfLive_of_live ?_
  rw [post_group, State.group_modGroup, if_pos rfl]
  dsimp only
  split <;> rfl

theorem applyMarker_of_admitted (h : (s.lane l).assoc = .member g mark k) (S : Seq) (hctx : (s.group g).ctx.live = true) :
    applyMarker l g S false s = resolve g (s.membered l g (raiseTo mark (S - 1)) k) := by
  rw [applyMarker_eq h, if_neg (by intro e; rw [e] at hctx; cases hctx), Bool.and_false, if_neg (by decide)]
  exact resolveIfLive_of_live hctx

theorem applyMarker_of_member (h : (s.lane l).assoc = .member g mark k) (S : Seq) (hctx : (s.group g).ctx.live = true) :
    applyMarker l g S true s = resolveIfLive g (measureSkew l g S (s.membered l g (raiseTo mark (S - 1)) k)) := by
  rw [applyMarker_eq h, if_neg (by intro e; rw [e] at hctx; cases hctx), hctx]
  rfl

/-- The lag, as the statement puts it. -/
theorem skewLag_eq (S : Seq) (highest : Option Seq) : skewLag S highest =
    match highest with
    | some h => if 1 ≤ dist (S - 1) h ∧ dist (S - 1) h ≤ 32767 then dist (S - 1) h else 0
    | none => 0 := by
  unfold skewLag
  cases highest with
  | none => rfl
  | some h =>
    dsimp only
    unfold aheadOf
    rw [← Bool.decide_and]
    refine if_congr ?_ rfl rfl
    rw [decide_eq_true_eq]
    exact and_congr Iff.rfl (by omega)

/-- A strike changes the strikes alone. -/
theorem strike_eq (s : State) (l : LaneIx) (g : GroupIx) (mark : Seq) (k j : Nat) :
    ((s.membered l g mark k).modLane l fun x => { x with assoc := x.assoc.withStrikes j }) = s.membered l g mark j :=
  State.modLane_modLane ..

/-- The part with a strike of the lane counted. -/
def State.struck (s : State) (l : LaneIx) (g : GroupIx) (mark : Seq) (k : Nat) : State :=
  (s.membered l g mark k).countGroup g .skewStrikes

/-- A suspension for skew, as the statement puts it. -/
theorem suspendForSkew_eq (s : State) (l : LaneIx) (g : GroupIx) (mark : Seq) (k : Nat) :
    suspendForSkew l g (s.struck l g mark k) = departed g
      (post (.receiveSet l (.member g mark k) (.suspended g) g .skew)
        (((s.struck l g mark k).countGroup g .skewSuspensions).modLane l fun y => { y with
          assoc := .suspended g
          skewHold := some (s.timebase + BitVec.ofNat 32 (1000 * (s.group g).skewHold)) })) := by
  have hassoc : ((s.struck l g mark k).lane l).assoc = .member g mark k := by
    rw [State.struck, State.lane_countGroup, State.membered_lane, if_pos rfl]
  have hhold : ((s.struck l g mark k).group g).skewHold = (s.group g).skewHold := by
    rw [State.struck, State.group_countGroup, if_pos rfl]
    rfl
  unfold suspendForSkew suspend
  rw [hhold, countGroup_modLane, State.modLane_modLane, State.lane_modLane_same, State.lane_countGroup]
  dsimp only
  rw [hassoc]
  rfl

theorem measureSkew_eq (s : State) (l : LaneIx) (g : GroupIx) (mark : Seq) (k : Nat) (S : Seq) :
    measureSkew l g S (s.membered l g mark k) =
      if skewLag S (s.group g).highest ≤ (s.group g).skewLimit then s.membered l g mark 0
      else if k + 1 < (s.group g).strikeLimit then s.struck l g mark (k + 1)
      else suspendForSkew l g (s.struck l g mark (k + 1)) := by
  have hassoc : ((s.membered l g mark k).lane l).assoc = .member g mark k := by
    rw [State.membered_lane, if_pos rfl]
  unfold measureSkew
  rw [hassoc]
  dsimp only
  rw [State.membered_group, strike_eq, strike_eq]
  by_cases hlag : skewLag S (s.group g).highest ≤ (s.group g).skewLimit
  · rw [if_neg (Nat.not_lt.2 hlag), if_pos hlag]
  · rw [if_pos (Nat.not_le.1 hlag), if_neg hlag]
    by_cases hstrike : k + 1 < (s.group g).strikeLimit
    · rw [if_neg (Nat.not_le.2 hstrike), if_pos hstrike]
      rfl
    · rw [if_pos (Nat.not_lt.1 hstrike), if_neg hstrike]
      rfl

/-- The skew measurement changes no context but by a suspension. -/
theorem State.struck_ctx (s : State) (l : LaneIx) (g : GroupIx) (mark : Seq) (k : Nat) :
    ((s.struck l g mark k).group g).ctx = (s.group g).ctx := by
  rw [State.struck, State.group_countGroup, if_pos rfl]
  rfl

theorem applyMarker_of_measured (h : (s.lane l).assoc = .member g mark k) (S : Seq) (hctx : (s.group g).ctx.live = true) :
    applyMarker l g S true s =
      if skewLag S (s.group g).highest ≤ (s.group g).skewLimit then resolve g (s.membered l g (raiseTo mark (S - 1)) 0)
      else if k + 1 < (s.group g).strikeLimit then resolve g (s.struck l g (raiseTo mark (S - 1)) (k + 1))
      else resolveIfLive g (suspendForSkew l g (s.struck l g (raiseTo mark (S - 1)) (k + 1))) := by
  rw [applyMarker_of_member h S hctx, measureSkew_eq]
  split
  · exact resolveIfLive_of_live hctx
  · split
    · exact resolveIfLive_of_live (by rw [State.struck_ctx, hctx])
    · rfl

end

/-! ### Departures (R40) -/

theorem departed_of_idle {g : GroupIx} {s : State} (h : (s.group g).ctx.live = false) : departed g s = s := by
  unfold departed
  rw [h]
  rfl

theorem departed_of_last {g : GroupIx} {s : State} (h : (s.group g).ctx.live = true) (hm : s.memberCount g = 0) :
    departed g s = enterResync g s := by
  unfold departed
  rw [h, Bool.not_true, if_neg (by decide), if_pos hm]

theorem departed_of_members {g : GroupIx} {s : State} (h : (s.group g).ctx.live = true) (hm : s.memberCount g ≠ 0) :
    departed g s = resolve g
      (if (s.group g).ctx = .up ∧ s.memberCount g < (s.group g).minLanes then
        post (.groupRx g .up .forming) (s.modGroup g fun y => { y with ctx := .forming })
      else s) := by
  unfold departed
  rw [h, Bool.not_true, if_neg (by decide), if_neg hm]
  congr 1
  by_cases hup : (s.group g).ctx = .up
  · rw [if_pos hup]
    unfold setCtx State.liveState
    rw [hup]
    dsimp only
    by_cases hfew : s.memberCount g < (s.group g).minLanes
    · rw [if_pos hfew, if_neg (by decide), if_pos ⟨rfl, hfew⟩]
    · rw [if_neg hfew, if_pos rfl, if_neg fun h => hfew h.2]
  · rw [if_neg hup, if_neg fun h => hup h.1]

end Sys2Proof.Machine
end

section
/-! The association of a lane after its marker (R128, R131, R132). -/

namespace Sys2Proof.Machine

/- The kernel checks the theorems one after another. -/
set_option Elab.async false

/-! ### The part after the report, at the lane of the marker -/

/-- The association of lane `n` once the report of `m` is taken. -/
def State.keptAssoc (s : State) (m : MarkerBody) (n : LaneIx) : Assoc :=
  if (s.lane n).assoc.group?.any (s.reportCompletes m) then .none else (s.lane n).assoc

/-- What the judgment of an association asks of the part that the report left: `r` from `s`. -/
structure ReportLeft (m : MarkerBody) (l : LaneIx) (s r : State) : Prop where
  assoc : ∀ n, (r.lane n).assoc = s.keptAssoc m n
  hold : (r.lane l).skewHold = if (s.lane l).assoc.group?.any (s.reportCompletes m) then none else (s.lane l).skewHold
  role : (r.lane l).role = s.reportedRole m l
  count : ∀ c, c = .admitted ∨ c = .restored ∨ c = .groupMismatch ∨ c = .holdIgnored → r.laneCount l c = s.laneCount l c
  ctx : ∀ g, (r.group g).ctx ≠ .disabled ↔ (s.group g).ctx ≠ .disabled ∧ s.reportCompletes m g = false
  context : ∀ g, s.reportCompletes m g = false → (r.group g).context = (s.group g).context

/-- A counter of the association is none of those of a received marker. -/
theorem LaneState.received_count (m : MarkerBody) (x : LaneState) {c : LaneCtr}
    (hc : c = .admitted ∨ c = .restored ∨ c = .groupMismatch ∨ c = .holdIgnored) : (x.received m).ctr[c.ix] = x.ctr[c.ix] := by
  have hne : ∀ d : LaneCtr, d = .segmentsReceived ∨ d = .validMarkers ∨ d = .markerGap → c.ix ≠ d.ix := fun d hd e => by
    obtain rfl := LaneCtr.ix_injective c d e
    rcases hc with rfl | rfl | rfl | rfl <;> rcases hd with h | h | h <;> cases h
  exact ((raiseCounter_get _ _ _ _).trans (if_neg (hne _ (.inr (.inr rfl))))).trans
    (((raiseCounter_get _ _ _ _).trans (if_neg (hne _ (.inr (.inl rfl))))).trans
      ((raiseCounter_get _ _ _ _).trans (if_neg (hne _ (.inl rfl)))))

theorem TxJudged.context {x y : GroupState} (h : TxJudged x y) : y.context = x.context := by
  rw [h.rest]
  rfl

theorem State.groupAt_context (s : State) (new : PeerReport) (done : LaneIx → Bool) (g : GroupIx) :
    (s.groupAt new done g).context = (s.group g).context := rfl

theorem takeReport_left (l : LaneIx) (m : MarkerBody) (s : State) : ReportLeft m l s (takeReport l m (s.received l m)) := by
  have hr := takeReport_reported l m (s.received l m)
  have hassoc : ∀ n, ((s.received l m).lane n).assoc = (s.lane n).assoc := fun n => by
    rw [State.received_lane]
    split
    · next e => rw [e]; rfl
    · rfl
  rw [State.received_reportCompletes] at hr
  refine { assoc := fun n => ?_, hold := ?_, role := ?_, count := fun c hc => ?_, ctx := fun g => ?_, context := fun g hg => ?_ }
  · obtain ⟨y, hy, hl⟩ := hr.lane n
    have hya : y.assoc = (s.lane n).assoc := by rw [(show LaneChanged _ _ _ _ y from hy).rest, ← hassoc n]
    rw [hl, State.keptAssoc, LaneState.droppedBy, hya]
    split
    · rfl
    · exact hya
  · obtain ⟨y, hy, hl⟩ := hr.lane l
    have hya : y.assoc = (s.lane l).assoc := by rw [(show LaneChanged _ _ _ _ y from hy).rest, ← hassoc l]
    have hyh : y.skewHold = (s.lane l).skewHold := by
      rw [(show LaneChanged _ _ _ _ y from hy).rest, State.received_lane, if_pos rfl]
      rfl
    rw [hl, LaneState.droppedBy, hya]
    split
    · rfl
    · exact hyh
  · rw [hr.role, State.roleAt_all, State.received_reportedRole]
  · obtain ⟨y, hy, hl⟩ := hr.lane l
    have hcount := (show LaneChanged _ _ _ _ y from hy).counts c (by rintro rfl; simp at hc) (by rintro rfl; simp at hc)
      (by rintro rfl; simp at hc)
    have hctr : (y.droppedBy (s.reportCompletes m)).ctr = y.ctr := by rw [LaneState.droppedBy_fields]
    have hlane : (s.received l m).lane l = (s.lane l).received m := by rw [State.received_lane, if_pos rfl]
    have htaken : ((takeReport l m (s.received l m)).lane l).ctr = y.ctr := by rw [hl, hctr]
    exact (congrArg (fun v => v[c.ix]) htaken).trans
      (hcount.trans ((congrArg (fun x : LaneState => x.ctr[c.ix]) hlane).trans (LaneState.received_count m _ hc)))
  · cases hg : s.reportCompletes m g with
    | true => simp [(hr.disabled g hg).ctx]
    | false =>
      rw [(hr.group g hg).rest]
      simp [State.groupAt, State.received_group]
  · exact (hr.group g hg).context.trans (State.groupAt_context ..)

/-! ### The judgment of the association (R131) -/

/-- The lane `l` about to be judged for `g`: it names no other group. -/
structure ReadyFor (g : GroupIx) (l : LaneIx) (r r' : State) : Prop where
  lane : ∃ hold, r'.lane l = { r.lane l with
    assoc := if (r.lane l).assoc = .suspended g then .suspended g else .none, skewHold := hold }
  context : (r'.group g).context = (r.group g).context

theorem leaveGroup_lane (l : LaneIx) (h : GroupIx) (r : State) :
    (leaveGroup l h r).lane l = { r.lane l with assoc := .none, skewHold := none } := by
  have hleft : ((r.modLane l fun x => { x with assoc := .none, skewHold := none }).lane l) =
      { r.lane l with assoc := .none, skewHold := none } := State.lane_modLane_same ..
  unfold leaveGroup
  dsimp only
  split
  · rw [departed_lane, post_lane, hleft]
  · rw [post_lane, hleft]

theorem leaveGroup_context (l : LaneIx) {g h : GroupIx} (hne : g ≠ h) (r : State) :
    ((leaveGroup l h r).group g).context = (r.group g).context := by
  unfold leaveGroup
  dsimp only
  split
  · rw [(Delivers.departed _).elsewhere g hne, post_group, State.group_modLane]
  · rw [post_group, State.group_modLane]

theorem ReadyFor.left {l : LaneIx} {g h : GroupIx} {r : State} (hg : (r.lane l).assoc.group? = some h) (hne : h ≠ g) :
    ReadyFor g l r (leaveGroup l h r) where
  lane := by
    refine ⟨none, ?_⟩
    rw [leaveGroup_lane, if_neg]
    intro e
    rw [e] at hg
    exact hne (Option.some.inj hg).symm
  context := leaveGroup_context l hne.symm r

theorem ReadyFor.refl {l : LaneIx} {g : GroupIx} {r : State} (h : (r.lane l).assoc = .none ∨ (r.lane l).assoc = .suspended g) :
    ReadyFor g l r r where
  lane := by
    refine ⟨(r.lane l).skewHold, ?_⟩
    have hassoc : (if (r.lane l).assoc = .suspended g then Assoc.suspended g else .none) = (r.lane l).assoc := by
      rcases h with h | h
      · rw [h, if_neg nofun]
      · rw [if_pos h, h]
    rw [hassoc]
  context := rfl

/-- The judgment of a lane that is not MEMBER of the group its marker names, its hold not running (R131, R132). -/
theorem judgeAssoc_named {l : LaneIx} {g : GroupIx} {r : State} (S : Seq) (hm : (r.lane l).assoc.memberOf g = false)
    (hh : ¬((r.lane l).assoc = .suspended g ∧ (r.lane l).skewHold ≠ none)) :
    ∃ r', ReadyFor g l r r' ∧ judgeAssoc l (some g) S r =
      if r'.admissible l g then
        if (r.lane l).assoc = .suspended g then admitLane l g S .restored .restored r'
        else admitLane l g S .admitted .admitted r'
      else refuseAdmission l g r' := by
  unfold judgeAssoc judgeNone
  cases ha : (r.lane l).assoc with
  | none =>
    refine ⟨r, .refl (.inl ha), ?_⟩
    rw [if_neg (show ¬Assoc.none = .suspended g from nofun)]
  | member h mark k =>
    have hne : h ≠ g := of_decide_eq_false (by rw [ha] at hm; exact hm)
    refine ⟨leaveGroup l h r, .left (by rw [ha]; rfl) hne, ?_⟩
    dsimp only
    rw [if_neg hne, if_neg (show ¬Assoc.member h mark k = .suspended g from nofun)]
  | suspended h =>
    dsimp only
    by_cases hne : h ≠ g
    · refine ⟨leaveGroup l h r, .left (by rw [ha]; rfl) hne, ?_⟩
      rw [if_pos hne, if_neg (show ¬Assoc.suspended h = .suspended g from fun e => hne (by cases e; rfl))]
    · obtain rfl : h = g := Decidable.not_not.1 hne
      refine ⟨r, .refl (.inr ha), ?_⟩
      have hnone : (r.lane l).skewHold.isSome = false := by
        rw [Option.isSome_eq_false_iff, Option.isNone_iff_eq_none]
        exact Decidable.not_not.1 fun hn => hh ⟨ha, hn⟩
      rw [if_neg hne, hnone, if_neg (by decide), if_pos rfl]

/-! ### Admission and its refusal, in closed form -/

theorem memberAdded_lane (g : GroupIx) (s : State) (n : LaneIx) : (memberAdded g s).lane n = s.lane n := by
  unfold memberAdded
  split
  · exact (Delivers.setCtx _ s).lane n
  · rfl

theorem memberAdded_context (g : GroupIx) (s : State) : ((memberAdded g s).group g).context =
    { s.group g with ctx := if (s.group g).ctx = CtxState.forming ∧ (s.group g).minLanes ≤ (memberAdded g s).memberCount g then .up
      else (s.group g).ctx }.context := by
  have hcount : (memberAdded g s).memberCount g = s.memberCount g := State.memberCount_congr fun n => by
    unfold State.isMember
    rw [memberAdded_lane]
  rw [hcount]
  unfold memberAdded
  by_cases h : (s.group g).ctx = .forming
  · rw [if_pos h, (setCtx_emits ..).notesOnly.group_eq, State.group_modGroup, if_pos rfl, h, State.liveState]
    by_cases hfew : s.memberCount g < (s.group g).minLanes
    · rw [if_pos hfew, if_neg fun hm => Nat.not_le.2 hfew hm.2]
    · rw [if_neg hfew, if_pos ⟨rfl, Nat.not_lt.1 hfew⟩]
  · rw [if_neg h, if_neg fun hm => h hm.1]

theorem admitLane_lane (l : LaneIx) (g : GroupIx) (S : Seq) (c : SetCause) (ctr : LaneCtr) (s : State) :
    (admitLane l g S c ctr s).lane l = { s.lane l with
      assoc := .member g (S - 1) 0, mismatch := false, ctr := raiseCounter (s.lane l).ctr ctr.ix 1 } := by
  unfold admitLane clearMismatch
  rw [memberAdded_lane, post_lane, State.lane_countLane_same, State.lane_modLane_same, State.lane_modLane_same]

theorem admitLane_context (l : LaneIx) (g : GroupIx) (S : Seq) (c : SetCause) (ctr : LaneCtr) (s : State) :
    ((admitLane l g S c ctr s).group g).context = { s.group g with
      ctx := if (s.group g).ctx = CtxState.forming ∧ (s.group g).minLanes ≤ (admitLane l g S c ctr s).memberCount g then .up
        else (s.group g).ctx }.context := by
  have hgroup : (post (.receiveSet l (s.lane l).assoc (.member g (S - 1) 0) g c)
      ((clearMismatch l (s.modLane l fun x => { x with assoc := .member g (S - 1) 0 })).countLane l ctr)).group g = s.group g :=
    post_group ..
  unfold admitLane
  rw [memberAdded_context, hgroup]

/-- A lane refused admission: its flag stands, and the refusal is counted. -/
theorem refuseAdmission_lane (l : LaneIx) (g : GroupIx) (s : State) :
    (refuseAdmission l g s).lane l = { s.lane l with
      mismatch := true, ctr := raiseCounter (s.lane l).ctr LaneCtr.groupMismatch.ix 1 } := by
  unfold refuseAdmission
  dsimp only
  split
  · next h => rw [State.lane_countLane_same, ← h]
  · rw [post_lane, State.lane_modLane_same, State.lane_countLane_same]

/-! ### The lane after its marker is applied -/

theorem raiseTo_self {w : Nat} (x : BitVec w) : raiseTo x x = x := by
  unfold raiseTo
  exact ite_self x

theorem resolveIfLive_lane (g : GroupIx) (s : State) (n : LaneIx) : (resolveIfLive g s).lane n = s.lane n :=
  (Delivers.resolveIfLive s).lane n

/-- A lane admitted by the marker that is applied. -/
theorem applyMarker_admitted_lane {s : State} {l : LaneIx} {g : GroupIx} {S : Seq} (h : (s.lane l).assoc = .member g (S - 1) 0) :
    (applyMarker l g S false s).lane l = s.lane l := by
  have hlane : (s.membered l g (raiseTo (S - 1) (S - 1)) 0).lane l = s.lane l := by
    rw [State.membered_lane, if_pos rfl, raiseTo_self, ← h]
  rw [applyMarker_eq h, Bool.and_false]
  split
  · next hctx => rw [resolveIfLive_lane, leaveResync_eq (by rw [State.membered_group, hctx]), post_lane, State.lane_modGroup, hlane]
  · rw [if_neg (by decide), resolveIfLive_lane, hlane]

theorem Assoc.of_memberOf {a : Assoc} {g : GroupIx} (h : a.memberOf g = true) : ∃ mark k, a = .member g mark k := by
  cases a with
  | member h' mark k => exact ⟨mark, k, by rw [of_decide_eq_true (show decide (h' = g) = true from h)]⟩
  | none => cases h
  | suspended _ => cases h

/-- A MEMBER lane whose marker is applied: its mark is raised, or it is SUSPENDED. -/
theorem applyMarker_member_lane {s : State} {l : LaneIx} {g : GroupIx} {mark : Seq} {k : Nat} (S : Seq)
    (ha : (s.lane l).assoc = .member g mark k) :
    ∃ a hold, (a = .suspended g ∨ ∃ j, a = .member g (raiseTo mark (S - 1)) j) ∧
      (applyMarker l g S true s).lane l = { s.lane l with assoc := a, skewHold := hold } := by
  have hmember : ∀ j, (s.membered l g (raiseTo mark (S - 1)) j).lane l =
      { s.lane l with assoc := .member g (raiseTo mark (S - 1)) j } := fun j => by rw [State.membered_lane, if_pos rfl]
  have hstruck : ∀ j, (s.struck l g (raiseTo mark (S - 1)) j).lane l =
      { s.lane l with assoc := .member g (raiseTo mark (S - 1)) j } := hmember
  cases hctx : (s.group g).ctx.live with
  | true =>
    rw [applyMarker_of_measured ha S hctx]
    split
    · exact ⟨_, _, .inr ⟨0, rfl⟩, by rw [(Delivers.resolve _).lane, hmember]⟩
    · split
      · exact ⟨_, _, .inr ⟨k + 1, rfl⟩, by rw [(Delivers.resolve _).lane, hstruck]⟩
      · refine ⟨.suspended g, some (s.timebase + BitVec.ofNat 32 (1000 * (s.group g).skewHold)), .inl rfl, ?_⟩
        rw [resolveIfLive_lane, suspendForSkew_eq, departed_lane, post_lane, State.lane_modLane_same, State.lane_countGroup,
          hstruck]
  | false =>
    rw [applyMarker_eq ha, hctx, Bool.false_and, if_neg Bool.false_ne_true]
    split
    · next hr =>
      refine ⟨.member g (raiseTo mark (S - 1)) k, (s.lane l).skewHold, .inr ⟨k, rfl⟩, ?_⟩
      rw [resolveIfLive_lane, leaveResync_eq (by rw [State.membered_group, hr]), post_lane, State.lane_modGroup, hmember]
    · exact ⟨.member g (raiseTo mark (S - 1)) k, _, .inr ⟨k, rfl⟩, by rw [resolveIfLive_lane, hmember]⟩

end Sys2Proof.Machine
end

section
/-! The association of a lane after its valid marker, and the marker at the group's context (R128, R131, R132). -/

namespace Sys2Proof.Machine

/- The kernel checks the theorems one after another. -/
set_option Elab.async false

/-! ### The taking of a marker, from its report on -/

theorem takeMarker_none {m : MarkerBody} (h : m.role.group? = none) (l : LaneIx) (S : Seq) (s : State) :
    takeMarker l m S s = judgeAssoc l none S (takeReport l m s) := by
  unfold takeMarker
  rw [h]

/-- A marker that names `g`, judged and applied on the part `r` that the report left. -/
def afterReport (l : LaneIx) (g : GroupIx) (S : Seq) (r : State) : State :=
  if (judgeAssoc l (some g) S r).isMember g l then applyMarker l g S (r.isMember g l) (judgeAssoc l (some g) S r)
  else judgeAssoc l (some g) S r

theorem takeMarker_some {m : MarkerBody} {g : GroupIx} (h : m.role.group? = some g) (l : LaneIx) (S : Seq) (s : State) :
    takeMarker l m S s = afterReport l g S (takeReport l m s) := by
  unfold takeMarker afterReport
  rw [h]

/-! ### Associations kept by the report -/

theorem State.keptAssoc_of_named {s : State} {m : MarkerBody} {n : LaneIx} {g : GroupIx} (h : (s.keptAssoc m n).group? = some g) :
    s.keptAssoc m n = (s.lane n).assoc ∧ s.reportCompletes m g = false := by
  unfold State.keptAssoc at *
  cases hc : (s.lane n).assoc.group?.any (s.reportCompletes m) with
  | true =>
    rw [hc, if_pos rfl] at h
    cases h
  | false =>
    rw [hc, if_neg (by decide)] at h
    rw [h, Option.any_some] at hc
    exact ⟨if_neg (by decide), hc⟩

theorem State.keptAssoc_of_none {s : State} {m : MarkerBody} {n : LaneIx} (h : s.keptAssoc m n = .none) :
    (s.lane n).assoc = .none ∨ (s.lane n).assoc.group?.any (s.reportCompletes m) = true := by
  unfold State.keptAssoc at h
  split at h
  · next hc => exact .inr hc
  · exact .inl h

theorem clearMismatch_lane (l : LaneIx) (s : State) : (clearMismatch l s).lane l = { s.lane l with mismatch := false } :=
  State.lane_modLane_same ..

section
variable {l : LaneIx} {m : MarkerBody} {s r : State}

/-- A marker that names no group: the lane is left with none (R131). -/
theorem judgeAssoc_unnamed (h : ReportLeft m l s r) (S : Seq) :
    ((judgeAssoc l none S r).lane l).assoc = .none ∧ ((judgeAssoc l none S r).lane l).mismatch = false ∧
      ((judgeAssoc l none S r).lane l).skewHold =
        if (s.lane l).assoc.group?.isSome then none else (s.lane l).skewHold := by
  have hnamed : ∀ g, (r.lane l).assoc.group? = some g → (s.lane l).assoc.group?.isSome = true := fun g hg => by
    rw [h.assoc l] at hg
    rw [← (State.keptAssoc_of_named hg).1, hg]
    rfl
  unfold judgeAssoc
  cases ha : (r.lane l).assoc with
  | none =>
    dsimp only
    rw [clearMismatch_lane]
    refine ⟨ha, rfl, ?_⟩
    dsimp only
    rw [h.hold]
    rcases State.keptAssoc_of_none ((h.assoc l).symm.trans ha) with hx | hx
    · rw [hx]
      rfl
    · have hsome : (s.lane l).assoc.group?.isSome = true := by
        obtain ⟨g, hg, -⟩ := (Option.any_eq_true _ _).1 hx
        rw [hg]
        rfl
      rw [if_pos hx, if_pos hsome]
  | member g mark k =>
    dsimp only
    rw [clearMismatch_lane, leaveGroup_lane, if_pos (hnamed g (by rw [ha]; rfl))]
    exact ⟨rfl, rfl, rfl⟩
  | suspended g =>
    dsimp only
    rw [clearMismatch_lane, leaveGroup_lane, if_pos (hnamed g (by rw [ha]; rfl))]
    exact ⟨rfl, rfl, rfl⟩

theorem State.laneCount_of_ctr {s t : State} {l : LaneIx} (h : (t.lane l).ctr = (s.lane l).ctr) (c : LaneCtr) :
    t.laneCount l c = s.laneCount l c := congrArg (fun v => v[c.ix]) h

/-- A MEMBER lane of the group its marker names: the marker is applied (R131). -/
theorem afterReport_of_member {g : GroupIx} {mark : Seq} {k : Nat} (S : Seq) (ha : (r.lane l).assoc = .member g mark k) :
    afterReport l g S r = applyMarker l g S true (clearMismatch l r) := by
  have hjudge : judgeAssoc l (some g) S r = clearMismatch l r := by
    unfold judgeAssoc
    rw [ha]
    exact if_pos rfl
  have hwas : r.isMember g l = true := by
    unfold State.isMember
    rw [ha]
    exact decide_eq_true rfl
  have hmember : (clearMismatch l r).isMember g l = true := by
    unfold State.isMember
    rw [clearMismatch_lane]
    exact hwas
  unfold afterReport
  rw [hjudge, if_pos hmember, hwas]

theorem afterReport_member {g : GroupIx} (S : Seq) (h : ReportLeft m l s r) (hk : (s.keptAssoc m l).memberOf g = true) :
    afterReport l g S r = applyMarker l g S true (clearMismatch l r) ∧
      ((afterReport l g S r).lane l).assoc.group? = some g ∧ ((afterReport l g S r).lane l).mismatch = false ∧
      (afterReport l g S r).laneCount l .admitted = s.laneCount l .admitted := by
  obtain ⟨mark, k, ha⟩ := Assoc.of_memberOf (show (r.lane l).assoc.memberOf g = true by rw [h.assoc]; exact hk)
  have hclear := clearMismatch_lane l r
  obtain ⟨a, hold, hcases, hlane⟩ := applyMarker_member_lane S (show ((clearMismatch l r).lane l).assoc = _ by rw [hclear]; exact ha)
  have hname : a.group? = some g := by
    rcases hcases with rfl | ⟨j, rfl⟩ <;> rfl
  rw [afterReport_of_member S ha]
  refine ⟨rfl, by rw [hlane]; exact hname, by rw [hlane, hclear], ?_⟩
  refine (State.laneCount_of_ctr ?_ _).trans (h.count .admitted (.inl rfl))
  rw [hlane, hclear]

/-- A SUSPENDED lane whose hold runs stays (R131). -/
theorem afterReport_held {g : GroupIx} (S : Seq) (h : ReportLeft m l s r) (hk : s.keptAssoc m l = .suspended g)
    (hh : (s.lane l).skewHold ≠ none) :
    ((afterReport l g S r).lane l).assoc = .suspended g ∧
      (afterReport l g S r).laneCount l .holdIgnored = s.laneCount l .holdIgnored + 1 := by
  have ha : (r.lane l).assoc = .suspended g := (h.assoc l).trans hk
  have hhold : (r.lane l).skewHold.isSome = true := by
    obtain ⟨hx, hc⟩ := State.keptAssoc_of_named (m := m) (n := l) (g := g) (by rw [hk]; rfl)
    rw [h.hold, ← hx, hk]
    simp only [Assoc.group?, Option.any_some, hc, Bool.false_eq_true, if_false]
    exact Option.isSome_iff_ne_none.2 hh
  have hjudge : judgeAssoc l (some g) S r = r.countLane l .holdIgnored := by
    unfold judgeAssoc
    rw [ha]
    dsimp only
    rw [if_neg (fun hne => hne rfl), if_pos hhold]
  have hlane := r.lane_countLane_same l .holdIgnored 1
  have hnot : ¬(r.countLane l .holdIgnored).isMember g l = true := by
    unfold State.isMember
    rw [hlane, ha]
    exact Bool.false_ne_true
  unfold afterReport
  rw [hjudge, if_neg hnot]
  refine ⟨by rw [hlane]; exact ha, ?_⟩
  rw [State.laneCount_countLane, if_pos ⟨rfl, rfl⟩, h.count .holdIgnored (.inr (.inr (.inr rfl)))]
  rfl

/-! ### Lanes judged for admission (R131, R132) -/

variable {r' : State} {g : GroupIx}

/-- The condition of admission, as the statement puts it (R132). -/
theorem ReadyFor.admissible_iff (h : ReadyFor g l r r') (hr : ReportLeft m l s r) : r'.admissible l g = true ↔
    (s.group g).ctx ≠ .disabled ∧ s.reportCompletes m g = false ∧
      ((s.reportedRole m l).group? = none ∨ (s.reportedRole m l).group? = some g) := by
  obtain ⟨hold, hlane⟩ := h.lane
  have hctx : (r'.group g).ctx = (r.group g).ctx := congrArg Prod.fst h.context
  have hrole : (r'.lane l).role = s.reportedRole m l := by rw [hlane]; exact hr.role
  unfold State.admissible
  rw [Bool.and_eq_true, decide_eq_true_eq, hctx, hr.ctx, hrole, and_assoc]
  refine and_congr_right' (and_congr_right' ?_)
  cases (s.reportedRole m l).group? with
  | none => simp
  | some i => simp

theorem ReadyFor.count (h : ReadyFor g l r r') (hr : ReportLeft m l s r) {c : LaneCtr}
    (hc : c = .admitted ∨ c = .restored ∨ c = .groupMismatch ∨ c = .holdIgnored) : r'.laneCount l c = s.laneCount l c := by
  obtain ⟨hold, hlane⟩ := h.lane
  refine (State.laneCount_of_ctr ?_ c).trans (hr.count c hc)
  rw [hlane]

/-- A lane admitted: its marker is applied at the context, on a part whose context is the one before. -/
theorem afterReport_admits (S : Seq) (h : ReadyFor g l r r') (hr : ReportLeft m l s r) (hk : (s.keptAssoc m l).memberOf g = false)
    (hc : s.reportCompletes m g = false) {c : SetCause} {ctr : LaneCtr} (hj : judgeAssoc l (some g) S r = admitLane l g S c ctr r') :
    ((afterReport l g S r).lane l).assoc = .member g (S - 1) 0 ∧ ((afterReport l g S r).lane l).mismatch = false ∧
      (∀ d, d = .admitted ∨ d = .restored ∨ d = .groupMismatch ∨ d = .holdIgnored →
        (afterReport l g S r).laneCount l d = s.laneCount l d + if d = ctr then 1 else 0) ∧
      ∃ w, afterReport l g S r = applyMarker l g S false w ∧ (w.lane l).assoc = .member g (S - 1) 0 ∧
        (w.group g).expected = (s.group g).expected ∧ (w.group g).highest = (s.group g).highest ∧
        (w.group g).store = (s.group g).store ∧ (w.group g).building = (s.group g).building ∧
        (w.group g).ctx = (if (s.group g).ctx = .forming ∧ (s.group g).minLanes ≤ w.memberCount g then .up
          else (s.group g).ctx) := by
  have hlane := admitLane_lane l g S c ctr r'
  have hcontext := admitLane_context l g S c ctr r'
  have hbefore : (r'.group g).context = (s.group g).context := h.context.trans (hr.context g hc)
  have hnot : r.isMember g l = false := by
    unfold State.isMember
    rw [hr.assoc]
    exact hk
  have hassoc : ((admitLane l g S c ctr r').lane l).assoc = .member g (S - 1) 0 := by rw [hlane]
  have hmember : (admitLane l g S c ctr r').isMember g l = true := by
    unfold State.isMember
    rw [hassoc]
    exact decide_eq_true rfl
  have ht : afterReport l g S r = applyMarker l g S false (admitLane l g S c ctr r') := by
    unfold afterReport
    rw [hj, if_pos hmember, hnot]
  rw [ht, applyMarker_admitted_lane hassoc]
  refine ⟨hassoc, by rw [hlane], fun d hd => ?_, _, rfl, hassoc, ?_⟩
  · have hctr : ((applyMarker l g S false (admitLane l g S c ctr r')).lane l).ctr = raiseCounter (r'.lane l).ctr ctr.ix 1 := by
      rw [applyMarker_admitted_lane hassoc, hlane]
    rw [← h.count hr hd]
    refine (congrArg (fun v => v[d.ix]) hctr).trans ((raiseCounter_get _ _ _ 1).trans ?_)
    by_cases e : d = ctr
    · rw [if_pos (congrArg LaneCtr.ix e), if_pos e, e]
      rfl
    · rw [if_neg fun hi => e (LaneCtr.ix_injective _ _ hi), if_neg e]
      exact (BitVec.add_zero _).symm
  · simp only [GroupState.context, Prod.mk.injEq] at hcontext hbefore
    obtain ⟨hctx, hexpected, hhighest, hstore, hbuilding, -⟩ := hcontext
    obtain ⟨bctx, bexpected, bhighest, bstore, bbuilding, bmin⟩ := hbefore
    rw [bctx, bmin] at hctx
    exact ⟨hexpected.trans bexpected, hhighest.trans bhighest, hstore.trans bstore, hbuilding.trans bbuilding, hctx⟩

/-- A lane refused admission. -/
theorem afterReport_refused (S : Seq) (h : ReadyFor g l r r') (hr : ReportLeft m l s r)
    (hk : (s.keptAssoc m l).memberOf g = false) (hj : judgeAssoc l (some g) S r = refuseAdmission l g r') :
    ((afterReport l g S r).lane l).assoc = (if s.keptAssoc m l = .suspended g then .suspended g else .none) ∧
      ((afterReport l g S r).lane l).mismatch = true ∧
      (afterReport l g S r).laneCount l .groupMismatch = s.laneCount l .groupMismatch + 1 := by
  obtain ⟨hold, hready⟩ := h.lane
  have hlane := refuseAdmission_lane l g r'
  have hassoc : ((refuseAdmission l g r').lane l).assoc =
      if s.keptAssoc m l = .suspended g then .suspended g else .none := by rw [hlane, hready, hr.assoc]
  have hnot : ¬(refuseAdmission l g r').isMember g l = true := by
    unfold State.isMember
    rw [hassoc]
    split <;> exact Bool.false_ne_true
  unfold afterReport
  rw [hj, if_neg hnot]
  refine ⟨hassoc, by rw [hlane], ?_⟩
  rw [← h.count hr (.inr (.inr (.inl rfl)))]
  refine (congrArg (fun x : LaneState => x.ctr[LaneCtr.groupMismatch.ix]) hlane).trans ?_
  exact (raiseCounter_get _ _ _ 1).trans (if_pos rfl)

end

/-- The part with the marker received, as the statement puts it. -/
theorem State.received_eq (s : State) (l : LaneIx) (m : MarkerBody) : s.received l m =
    (((s.countLane l .segmentsReceived).countLane l .validMarkers).countLane l .markerGap
      (missingMarkers (s.lane l).lastCount m.count)).modLane l fun y =>
        { y with interval := { y.interval with markerSeen := true }, lastCount := some m.count } := by
  unfold State.received State.markerTaken
  rw [State.lane_countLane_same]

/-- A lane that is neither MEMBER of the group its marker names nor held SUSPENDED in it (R131, R132). -/
theorem afterReport_judged {l : LaneIx} {m : MarkerBody} {s r : State} {g : GroupIx} (S : Seq) (hr : ReportLeft m l s r)
    (hk : (s.keptAssoc m l).memberOf g = false) (hh : ¬(s.keptAssoc m l = .suspended g ∧ (s.lane l).skewHold ≠ none)) :
    if (s.group g).ctx ≠ .disabled ∧ s.reportCompletes m g = false ∧
        ((s.reportedRole m l).group? = none ∨ (s.reportedRole m l).group? = some g) then
      ((afterReport l g S r).lane l).assoc = .member g (S - 1) 0 ∧ ((afterReport l g S r).lane l).mismatch = false ∧
        (afterReport l g S r).laneCount l .restored =
          s.laneCount l .restored + (if s.keptAssoc m l = .suspended g then 1 else 0) ∧
        (afterReport l g S r).laneCount l .admitted =
          s.laneCount l .admitted + (if s.keptAssoc m l = .suspended g then 0 else 1) ∧
        ∃ w, afterReport l g S r = applyMarker l g S false w ∧ (w.lane l).assoc = .member g (S - 1) 0 ∧
          (w.group g).expected = (s.group g).expected ∧ (w.group g).highest = (s.group g).highest ∧
          (w.group g).store = (s.group g).store ∧ (w.group g).building = (s.group g).building ∧
          (w.group g).ctx = (if (s.group g).ctx = .forming ∧ (s.group g).minLanes ≤ w.memberCount g then .up
            else (s.group g).ctx)
    else
      ((afterReport l g S r).lane l).assoc = (if s.keptAssoc m l = .suspended g then .suspended g else .none) ∧
        ((afterReport l g S r).lane l).mismatch = true ∧
        (afterReport l g S r).laneCount l .groupMismatch = s.laneCount l .groupMismatch + 1 := by
  have hhold : ¬((r.lane l).assoc = .suspended g ∧ (r.lane l).skewHold ≠ none) := by
    rw [hr.assoc, hr.hold]
    rintro ⟨hsusp, hrun⟩
    refine hh ⟨hsusp, ?_⟩
    intro hnone
    rw [hnone, ite_self] at hrun
    exact hrun rfl
  obtain ⟨r', hready, hj⟩ := judgeAssoc_named S (by rw [hr.assoc]; exact hk) hhold
  rw [hr.assoc] at hj
  by_cases hadm : r'.admissible l g = true
  · have hiff := (hready.admissible_iff hr).1 hadm
    rw [if_pos hiff]
    rw [if_pos hadm] at hj
    by_cases hsusp : s.keptAssoc m l = .suspended g
    · rw [if_pos hsusp] at hj
      obtain ⟨hassoc, hmis, hcount, hw⟩ := afterReport_admits S hready hr hk hiff.2.1 hj
      rw [if_pos hsusp, if_pos hsusp]
      exact ⟨hassoc, hmis, hcount .restored (.inr (.inl rfl)), hcount .admitted (.inl rfl), hw⟩
    · rw [if_neg hsusp] at hj
      obtain ⟨hassoc, hmis, hcount, hw⟩ := afterReport_admits S hready hr hk hiff.2.1 hj
      rw [if_neg hsusp, if_neg hsusp]
      exact ⟨hassoc, hmis, hcount .restored (.inr (.inl rfl)), hcount .admitted (.inl rfl), hw⟩
  · rw [if_neg fun h => hadm ((hready.admissible_iff hr).2 h)]
    rw [if_neg hadm] at hj
    exact afterReport_refused S hready hr hk hj

/-- Settles O43: the report and the association are taken on the part with the marker received; the marker is then applied at the
context of its lane's group, where a departure may follow. -/
theorem markerJudgesAssociation : Obligations.MarkerJudgesAssociation := by
  refine ⟨fun s l m S hrx hdiag hcd hm htoken => ?_, fun s l g S mark k was h => ⟨?_, ?_, ?_, ?_⟩, fun s g =>
    ⟨departed_of_idle, departed_of_last, departed_of_members⟩⟩
  · have hr := takeReport_left l m s
    refine ⟨_, exec_segmentTaken_marker S hrx hdiag hcd hm htoken, fun n hn => ?_, ?_⟩
    · rw [(takeMarker_assocJudged l m S _).others n hn]
      exact hr.assoc n
    · cases hnamed : m.role.group? with
      | none =>
        rw [takeMarker_none hnamed]
        exact judgeAssoc_unnamed hr S
      | some g =>
        dsimp only
        rw [takeMarker_some hnamed]
        by_cases hk : (s.keptAssoc m l).memberOf g = true
        · refine (if_pos hk).mpr ?_
          have hmember := afterReport_member S hr hk
          rw [State.received_eq] at hmember ⊢
          exact hmember
        · refine (if_neg hk).mpr ?_
          by_cases hh : s.keptAssoc m l = .suspended g ∧ (s.lane l).skewHold ≠ none
          · exact (if_pos hh).mpr (afterReport_held S hr hh.1 hh.2)
          · exact (if_neg hh).mpr (afterReport_judged S hr (Bool.eq_false_of_not_eq_true hk) hh)
  · exact applyMarker_of_disabled h S was
  · exact applyMarker_of_resync h S was
  · rintro hctx rfl
    exact applyMarker_of_admitted h S hctx
  · rintro hctx rfl
    have hmeasured := applyMarker_of_measured h S hctx
    have hlag := skewLag_eq S (s.group g).highest
    by_cases hle : skewLag S (s.group g).highest ≤ (s.group g).skewLimit
    · exact (if_pos (hlag.ge.trans hle)).mpr (hmeasured.trans (if_pos hle))
    · refine (if_neg fun h => hle (hlag.le.trans h)).mpr ?_
      rw [if_neg hle] at hmeasured
      by_cases hstrike : k + 1 < (s.group g).strikeLimit
      · exact (if_pos hstrike).mpr (hmeasured.trans (if_pos hstrike))
      · rw [if_neg hstrike, suspendForSkew_eq] at hmeasured
        exact (if_neg hstrike).mpr hmeasured

end Sys2Proof.Machine
end

section
/-! Passed marks never move behind their value (R42, law L6). -/

namespace Sys2Proof.Machine

/- The kernel checks the theorems one after another. -/
set_option Elab.async false

/-! ### Marks carried, and marks raised -/

/-- No association changes. -/
structure AssocKept (s t : State) : Prop where
  assoc : ∀ l, (t.lane l).assoc = (s.lane l).assoc

/-- Every mark of `t` stood in `s` at its lane, in its group. -/
structure MarksFrom (s t : State) : Prop where
  stood : ∀ l g n k, (t.lane l).assoc = .member g n k → ∃ j, (s.lane l).assoc = .member g n j

/-- No mark moves behind its value. -/
structure MarksRise (s t : State) : Prop where
  rise : ∀ l g m n j k, (s.lane l).assoc = .member g m j → (t.lane l).assoc = .member g n k → behind n m = false

theorem behind_self {w : Nat} (x : BitVec (w + 1)) : behind x x = false := by
  have h := raiseTo_not_behind x x
  rwa [raiseTo_self] at h

theorem AssocKept.marksFrom {s t : State} (h : AssocKept s t) : MarksFrom s t :=
  ⟨fun l _ _ k ht => ⟨k, (h.assoc l).symm.trans ht⟩⟩

theorem AssocKept.refl (s : State) : AssocKept s s := ⟨fun _ => rfl⟩

theorem AssocKept.trans {s t u : State} (h : AssocKept s t) (k : AssocKept t u) : AssocKept s u :=
  ⟨fun l => (k.assoc l).trans (h.assoc l)⟩

theorem MarksFrom.trans {s t u : State} (h : MarksFrom s t) (k : MarksFrom t u) : MarksFrom s u where
  stood l g n i hu := by
    obtain ⟨j, ht⟩ := k.stood l g n i hu
    exact h.stood l g n j ht

theorem MarksFrom.marksRise {s t : State} (h : MarksFrom s t) : MarksRise s t where
  rise l g m n j k hs ht := by
    obtain ⟨i, hi⟩ := h.stood l g n k ht
    rw [hs] at hi
    cases hi
    exact behind_self m

theorem MarksRise.after_kept {s t u : State} (k : MarksRise t u) (h : AssocKept s t) : MarksRise s u :=
  ⟨fun l g m n i j hs hu => k.rise l g m n i j ((h.assoc l).trans hs) hu⟩

theorem MarksRise.then_from {s t u : State} (h : MarksRise s t) (k : MarksFrom t u) : MarksRise s u where
  rise l g m n i j hs hu := by
    obtain ⟨j', ht⟩ := k.stood l g n j hu
    exact h.rise l g m n i j' hs ht

/-- The raise of the mark of one lane. -/
theorem raise_marksRise (l : LaneIx) (q : Seq) (s : State) :
    MarksRise s (s.modLane l fun x => { x with assoc := x.assoc.withMark fun m => raiseTo m q }) := by
  refine ⟨fun l' g m n j k hs ht => ?_⟩
  rw [State.lane_modLane] at ht
  split at ht
  · next e =>
    rw [← e, hs] at ht
    cases ht
    exact raiseTo_not_behind m q
  · rw [hs] at ht
    cases ht
    exact behind_self m

/-! ### Moves that raise no mark -/

theorem LaneMove.mark_from {s : State} {x x' : LaneState} {k : Aspect} (h : LaneMove s x k x') (hk : k ≠ .mark) {g : GroupIx} {n : Seq}
    {j : Nat} (hx' : x'.assoc = .member g n j) : ∃ i, x.assoc = .member g n i := by
  have hstays : ∀ a, x.assoc.StaysOrSuspends a → a = .member g n j → x.assoc = .member g n j := by
    rintro a (rfl | ⟨_, _, _, -, rfl⟩) ha
    · exact ha
    · cases ha
  cases h with
  | free h =>
    rw [h.rest] at hx'
    exact ⟨j, hx'⟩
  | flight _ _ => exact ⟨j, hx'⟩
  | leave a _ h =>
    rcases h with rfl | ⟨_, _, _, -, rfl⟩ <;> cases hx'
  | strikes i _ =>
    cases ha : x.assoc with
    | member g' n' i' =>
      simp only [ha, Assoc.withStrikes] at hx'
      cases hx'
      exact ⟨i', rfl⟩
    | none => simp [ha, Assoc.withStrikes] at hx'
    | suspended _ => simp [ha, Assoc.withStrikes] at hx'
  | raise _ => exact absurd rfl hk
  | join _ _ _ _ _ => exact absurd rfl hk
  | rx _ _ a _ _ ha _ => exact ⟨j, hstays a ha hx'⟩
  | role _ _ _ => exact ⟨j, hx'⟩
  | op _ => exact ⟨j, hx'⟩
  | queue _ _ _ => exact ⟨j, hx'⟩
  | weight _ _ => exact ⟨j, hx'⟩
  | admin _ _ ha => exact ⟨j, hstays _ ha hx'⟩
  | mode _ _ _ => exact ⟨j, hx'⟩
  | release => exact ⟨j, hx'⟩

theorem Move.marksFrom {s t : State} {k : Aspect} (h : Move s k t) (hk : k ≠ .mark) : MarksFrom s t := by
  have hkept : AssocKept s t → MarksFrom s t := AssocKept.marksFrom
  cases h with
  | plain h => exact hkept ⟨fun l => by rw [h]; rfl⟩
  | egress => exact hkept ⟨fun _ => rfl⟩
  | mgmtOut => exact hkept ⟨fun _ => rfl⟩
  | requests => exact hkept ⟨fun _ => rfl⟩
  | noted h => exact hkept ⟨fun l => by rw [h.notesOnly.lane_eq]⟩
  | lane l f h =>
    refine ⟨fun l' g n i ht => ?_⟩
    rw [State.lane_modLane] at ht
    split at ht
    · next e =>
      rw [e]
      exact h.mark_from hk ht
    · exact ⟨i, ht⟩
  | group => exact hkept ⟨fun _ => rfl⟩
  | streamCounters => exact hkept ⟨fun _ => rfl⟩
  | streamSettings => exact hkept ⟨fun _ => rfl⟩
  | devSettings => exact hkept ⟨fun _ => rfl⟩
  | slots => exact hkept ⟨fun _ => rfl⟩

theorem Moves.marksFrom {as : List Aspect} {s t : State} (h : Moves as s t) (hm : .mark ∉ as) : MarksFrom s t :=
  h.keeps (P := MarksFrom s) (fun u v k hk hmove hu => hu.trans (hmove.marksFrom (by
    rintro rfl
    exact hk.elim nofun hm))) (AssocKept.refl _).marksFrom

/-! ### Data segments (R42) -/

theorem arrive_marksRise (l : LaneIx) (d : DataSeg) (s : State) : MarksRise s (arrive l d s) := by
  have hcount : ∀ c, MarksRise s (s.countGroup d.group c) := fun c =>
    (AssocKept.marksFrom (s := s) (t := s.countGroup d.group c) ⟨fun _ => rfl⟩).marksRise
  unfold arrive
  dsimp only
  split
  · exact hcount _
  · split
    · exact hcount _
    · cases hw : s.waitsAt d.group with
      | none => exact hcount _
      | some e =>
        obtain ⟨hl, he⟩ := State.waitsAt_some.1 hw
        have hraise : MarksRise s (raiseMarks d.group l d.seq s) := (raise_marksRise l d.seq s).then_from
          (AssocKept.marksFrom ⟨fun _ => rfl⟩)
        have hplaced : Moves [] (raiseMarks d.group l d.seq s) (placeArrival d.group d e (raiseMarks d.group l d.seq s)) :=
          placeArrival_moves d (by rw [raiseMarks_group, if_pos rfl]; exact hl) (by rw [raiseMarks_group, if_pos rfl]; exact he)
        exact hraise.then_from ((hplaced.trans (resolve_moves ..)).marksFrom nofun)

/-! ### Markers (R53, R128) -/

/-- A lane judged for a group that it is not MEMBER of is MEMBER of that one, or of none. -/
theorem afterReport_other {l : LaneIx} {g h : GroupIx} {S n : Seq} {k : Nat} {r : State} (hm : (r.lane l).assoc.memberOf g = false)
    (hh : ¬((r.lane l).assoc = .suspended g ∧ (r.lane l).skewHold ≠ none))
    (ht : ((afterReport l g S r).lane l).assoc = .member h n k) : h = g := by
  obtain ⟨r', hready, hj⟩ := judgeAssoc_named S hm hh
  obtain ⟨hold, hlane⟩ := hready.lane
  have hadmit : ∀ c ctr, judgeAssoc l (some g) S r = admitLane l g S c ctr r' → h = g := fun c ctr e => by
    have hassoc : ((admitLane l g S c ctr r').lane l).assoc = .member g (S - 1) 0 := by rw [admitLane_lane]
    have hmember : (admitLane l g S c ctr r').isMember g l = true := by
      unfold State.isMember
      rw [hassoc]
      exact decide_eq_true rfl
    unfold afterReport at ht
    rw [e, if_pos hmember, show r.isMember g l = false from hm, applyMarker_admitted_lane hassoc, hassoc] at ht
    cases ht
    rfl
  split at hj
  · split at hj
    · exact hadmit _ _ hj
    · exact hadmit _ _ hj
  · have hassoc : ((refuseAdmission l g r').lane l).assoc =
        if (r.lane l).assoc = .suspended g then .suspended g else .none := by rw [refuseAdmission_lane, hlane]
    have hnot : ¬(refuseAdmission l g r').isMember g l = true := by
      unfold State.isMember
      rw [hassoc]
      split <;> exact Bool.false_ne_true
    unfold afterReport at ht
    rw [hj, if_neg hnot, hassoc] at ht
    split at ht <;> cases ht

/-- A lane judged and its marker applied, on the part that the report left. -/
theorem afterReport_mark {l : LaneIx} {g h : GroupIx} {S m n : Seq} {j k : Nat} {r : State} (hr : (r.lane l).assoc = .member h m j)
    (ht : ((afterReport l g S r).lane l).assoc = .member h n k) : behind n m = false := by
  by_cases e : h = g
  · subst e
    obtain ⟨a, hold, hcases, hlane⟩ := applyMarker_member_lane S (show ((clearMismatch l r).lane l).assoc = .member h m j by
      rw [clearMismatch_lane]
      exact hr)
    rw [afterReport_of_member S hr, hlane] at ht
    obtain rfl | ⟨i, rfl⟩ := hcases
    · cases ht
    · cases ht
      exact raiseTo_not_behind ..
  · refine absurd (afterReport_other ?_ ?_ ht) e
    · rw [hr]
      exact decide_eq_false e
    · rw [hr]
      exact fun h => nomatch h.1

/-- A marker that names no group leaves its lane with none (R131). -/
theorem judgeAssoc_unnamed_assoc (l : LaneIx) (S : Seq) (r : State) : ((judgeAssoc l none S r).lane l).assoc = .none := by
  unfold judgeAssoc
  cases ha : (r.lane l).assoc with
  | none => exact (congrArg LaneState.assoc (clearMismatch_lane ..)).trans ha
  | member g mark k =>
    dsimp only
    rw [clearMismatch_lane, leaveGroup_lane]
  | suspended g =>
    dsimp only
    rw [clearMismatch_lane, leaveGroup_lane]

theorem takeMarker_marksRise (l : LaneIx) (m : MarkerBody) (S : Seq) (s : State) : MarksRise s (takeMarker l m S s) := by
  refine ⟨fun n g p q i k hs ht => ?_⟩
  obtain ⟨y, hy, hr⟩ := takeReport_lane l m s n
  have hassoc : ((takeReport l m s).lane n).assoc =
      if (s.lane n).assoc.group?.any (s.reportCompletes m) then .none else (s.lane n).assoc := by
    rw [hr, LaneState.droppedBy, show y.assoc = (s.lane n).assoc by rw [hy.rest]]
    split
    · rfl
    · rw [hy.rest]
  rw [hs] at hassoc
  cases hc : s.reportCompletes m g with
  | true =>
    have hd := (takeReport_reported l m s).disabled g hc
    rw [Assoc.group?, Option.any_some, if_pos hc] at hassoc
    by_cases hn : n = l
    · subst hn
      have hidle := (takeMarker_assocJudged n m S s).idle g hd.ctx (by rw [hd.tx]; decide) (by rw [hassoc]; nofun)
      exact absurd (by rw [ht]; rfl) hidle.2
    · rw [(takeMarker_assocJudged l m S s).others n hn, hassoc] at ht
      cases ht
  | false =>
    rw [Assoc.group?, Option.any_some, hc, if_neg Bool.false_ne_true] at hassoc
    by_cases hn : n = l
    · subst hn
      cases hm : m.role.group? with
      | none =>
        rw [takeMarker_none hm, judgeAssoc_unnamed_assoc] at ht
        cases ht
      | some h =>
        rw [takeMarker_some hm] at ht
        exact afterReport_mark hassoc ht
    · rw [(takeMarker_assocJudged l m S s).others n hn, hassoc] at ht
      cases ht
      exact behind_self p

/-! ### Segments (R15 to R20, R28) -/

theorem countLane_assocKept (l : LaneIx) (c : LaneCtr) (n : Nat) (s : State) : AssocKept s (s.countLane l c n) where
  assoc m := by
    rw [State.lane_countLane]
    split
    · next e => rw [e]
    · rfl

/-- An update of a lane that leaves its association. -/
theorem modLane_assocKept (s : State) (l : LaneIx) (f : LaneState → LaneState)
    (hf : ∀ x, (f x).assoc = x.assoc := by exact fun _ => rfl) : AssocKept s (s.modLane l f) where
  assoc m := by
    rw [State.lane_modLane]
    split
    · next e => rw [hf, e]
    · rfl

theorem loopCopy_assocKept (l : LaneIx) (bytes : List Byte) (s : State) : AssocKept s (loopCopy l bytes s) := by
  unfold loopCopy
  split
  · exact .refl s
  · split
    · exact modLane_assocKept s ..
    · exact countLane_assocKept ..

theorem captureEvent_assocKept (l : LaneIx) (sev : CaptureState) (syn : Byte) (kind : Option SegKind) (s : State) :
    AssocKept s (captureEvent l sev syn kind s) := by
  unfold captureEvent
  dsimp only
  split
  · exact (modLane_assocKept s l fun x => { x with capture := ⟨sev, syn, s.timebase, kind, 0⟩ }).trans
      ⟨fun m => by rw [post_lane]⟩
  · exact modLane_assocKept s ..

theorem takeData_marksRise (l : LaneIx) (h : Header) (payload : List Byte) (s : State) : MarksRise s (takeData l h payload s) := by
  have hcount : ∀ c, AssocKept s (s.countLane l c) := fun c => countLane_assocKept l c 1 s
  unfold takeData
  split
  · exact (hcount _).marksFrom.marksRise
  · split
    · exact (arrive_marksRise ..).after_kept (hcount _)
    · exact (hcount _).marksFrom.marksRise

theorem State.markerTaken_assocKept (s : State) (l : LaneIx) (m : MarkerBody) : AssocKept s (s.markerTaken l m) :=
  ((countLane_assocKept ..).trans (countLane_assocKept ..)).trans (modLane_assocKept ..)

theorem takeValid_marksRise (l : LaneIx) (m : MarkerBody) (S : Seq) (s : State) : MarksRise s (takeValid l m S s) := by
  rw [takeValid_eq]
  split
  · exact (takeMarker_marksRise ..).after_kept (s.markerTaken_assocKept l m)
  · exact (s.markerTaken_assocKept l m).marksFrom.marksRise

theorem takeMarkerSegment_marksRise (l : LaneIx) (h : Header) (bytes : List Byte) (s : State) :
    MarksRise s (takeMarkerSegment l h bytes s) := by
  have hfault : ∀ (f : OriginFault) (u : State), MarksRise u (originFault l f u) := fun f u =>
    ((originFault_moves (as := [.rx]) l f u (by decide)).marksFrom (by decide)).marksRise
  unfold takeMarkerSegment
  split
  · exact MarksRise.after_kept
      ((intervalError_moves (as := [.rx]) l _ (by decide)).marksFrom (by decide)).marksRise (countLane_assocKept ..)
  · have hcopy := loopCopy_assocKept l bytes s
    dsimp only
    split
    · exact (hfault ..).after_kept (hcopy.trans (countLane_assocKept ..))
    · split
      · exact (hfault ..).after_kept (hcopy.trans (countLane_assocKept ..))
      · exact (takeValid_marksRise ..).after_kept hcopy

theorem segmentGoesOn_marksRise (l : LaneIx) (h : Header) (bytes : List Byte) (s : State) :
    MarksRise s (segmentGoesOn l h bytes s) := by
  unfold segmentGoesOn
  split
  · exact (takeData_marksRise ..).after_kept (loopCopy_assocKept ..)
  · exact MarksRise.after_kept ((takeTest_moves (as := []) ..).marksFrom nofun).marksRise (loopCopy_assocKept ..)
  · exact takeMarkerSegment_marksRise ..
  · exact (AssocKept.refl _).marksFrom.marksRise

theorem receiveSegment_marksRise (l : LaneIx) (bytes : List Byte) (s : State) : MarksRise s (receiveSegment l bytes s) := by
  have hseen := countLane_assocKept l .segmentsReceived 1 s
  unfold receiveSegment
  dsimp only
  split
  · exact (segmentGoesOn_marksRise ..).after_kept hseen
  · exact (segmentGoesOn_marksRise ..).after_kept
      ((hseen.trans (countLane_assocKept ..)).trans (captureEvent_assocKept ..))
  · exact MarksRise.after_kept ((intervalError_moves (as := [.rx]) l _ (by decide)).trans
      (captureEvent_moves ..) |>.marksFrom (by decide)).marksRise (hseen.trans (countLane_assocKept ..))

theorem lineSegment_marksRise (l : LaneIx) (bytes : List Byte) (s : State) : MarksRise s (lineSegment l bytes s) := by
  unfold lineSegment
  split
  · exact (AssocKept.refl _).marksFrom.marksRise
  · exact receiveSegment_marksRise ..

theorem endTransmission_marksRise (l : LaneIx) (s : State) : MarksRise s (endTransmission l s) := by
  have hdone : AssocKept s (s.modLane l fun x => { x with flight := none }) := modLane_assocKept s ..
  unfold endTransmission
  split
  · exact (AssocKept.refl _).marksFrom.marksRise
  · unfold loopDelivery
    split
    · exact (receiveSegment_marksRise ..).after_kept hdone
    · exact hdone.marksFrom.marksRise

/-! ### Every command -/

theorem commandAspects_mark {c : Instr} (h : ∀ l bytes, c ≠ .segmentTaken l bytes) (h' : ∀ l, c ≠ .segmentTransmitEnd l) :
    .mark ∉ commandAspects c := by
  cases c with
  | segmentTaken l bytes => exact absurd rfl (h l bytes)
  | segmentTransmitEnd l => exact absurd rfl (h' l)
  | _ => simp [commandAspects, allAspects]

theorem afterReset_marksRise {s t : State} (h : AfterReset s t) : MarksRise s t := by
  have hnone : ∀ l, (t.lane l).assoc = .none := fun l => by
    obtain ⟨cause, rfl | rfl⟩ := afterReset_cases h
    · exact congrArg LaneState.assoc (resetPart_lane cause s l)
    · exact (congrArg LaneState.assoc (post_lane _ _ l)).trans (congrArg LaneState.assoc (resetPart_lane cause s l))
  refine ⟨fun l g m n j k _ ht => ?_⟩
  rw [hnone] at ht
  cases ht

theorem Effect.marksRise {c : Instr} {s t : State} (he : Effect c s t) (h : ∀ l bytes, c ≠ .segmentTaken l bytes)
    (h' : ∀ l, c ≠ .segmentTransmitEnd l) : MarksRise s t := by
  have hsame : ∀ u : State, u.lanes = s.lanes → MarksRise s u := fun u hu =>
    (AssocKept.marksFrom ⟨fun l => by simp only [State.lane, hu]⟩).marksRise
  cases he with
  | moves hm => exact (hm.marksFrom (commandAspects_mark h h')).marksRise
  | inhibit => exact hsame _ rfl
  | pause => exact hsame _ rfl
  | unpause => exact hsame _ (by rw [arbitrate_fields])
  | reset _ hr => exact afterReset_marksRise hr

/-- Settles O18: only an arriving data segment and an applied marker move a mark, and each raises it. -/
theorem passedMarksOnlyRise : Obligations.PassedMarksOnlyRise := by
  intro c s t l g m n j k hexec hs ht
  have hrise : MarksRise s t := by
    by_cases h : ∃ l bytes, c = .segmentTaken l bytes
    · obtain ⟨l, bytes, rfl⟩ := h
      rw [exec_segmentTaken] at hexec
      cases hexec
      exact lineSegment_marksRise ..
    · by_cases h' : ∃ l, c = .segmentTransmitEnd l
      · obtain ⟨l, rfl⟩ := h'
        rw [exec_segmentTransmitEnd] at hexec
        cases hexec
        exact endTransmission_marksRise ..
      · exact (effect_of_exec hexec).marksRise (fun l b e => h ⟨l, b, e⟩) fun l e => h' ⟨l, e⟩
  exact hrise.rise l g m n j k hs ht

end Sys2Proof.Machine
end

section
/-! Endings, takings and completions keep the ties of the operations (R137 to R142, R160, R161). -/

namespace Sys2Proof.Machine

/- The kernel checks the theorems one after another. -/
set_option Elab.async false

/-! ### Slots that end, and slots given -/

theorem SlotBody.isComplete_iff (b : SlotBody) : b.isComplete ↔ b ≠ .empty ∧ b.isInFlight = false := by
  unfold SlotBody.isComplete
  cases b with
  | empty => simp
  | inFlight op a e => simp [SlotBody.isInFlight]
  | complete op a e o t => simp [SlotBody.isInFlight]

/-- The completion order lists the COMPLETE slots once each. -/
structure OrderKept (s : State) : Prop where
  nodup : s.completionOrder.Nodup
  complete : ∀ k, k ∈ s.completionOrder ↔ (s.slot k).body.isComplete

theorem OpsTies.orderKept {s : State} (h : OpsTies s) : OrderKept s := ⟨h.nodup, h.complete⟩

/-- `t` is `s` with the operation in slot `k` ended. -/
structure SlotEnded (k : SlotIx) (o : OpOutcome) (s t : State) : Prop where
  slot : ∀ j, t.slot j = if j = k then ⟨(s.slot k).gen, (s.slot k).body.ended o s.timebase⟩ else s.slot j
  order : t.completionOrder = s.completionOrder ++ [k]

/-- `t` is `s` with slot `k` given to `op`. -/
structure SlotTaken (k : SlotIx) (op : OpKind) (s t : State) : Prop where
  slot : ∀ j, j ≠ k → t.slot j = s.slot j
  holds : t.holdsOp k (t.slot k).gen op
  order : t.completionOrder = s.completionOrder.filter fun j => decide (j ≠ k)

section
variable {s t : State} {k : SlotIx} {o : OpOutcome} {op : OpKind}

theorem SlotEnded.inFlight (h : SlotEnded k o s t) {j : SlotIx} {op : OpKind} {a e : Time} (hb : (t.slot j).body = .inFlight op a e) :
    j ≠ k ∧ (s.slot j).body = .inFlight op a e := by
  rw [h.slot] at hb
  split at hb
  · have hnot := SlotBody.ended_isInFlight (s.slot k).body o s.timebase
    rw [show (s.slot k).body.ended o s.timebase = .inFlight op a e from hb] at hnot
    cases hnot
  · next hj => exact ⟨hj, hb⟩

theorem SlotEnded.orderKept (h : SlotEnded k o s t) (hs : OrderKept s) (hk : (s.slot k).body.isInFlight = true) : OrderKept t where
  nodup := by
    rw [h.order]
    refine hs.nodup.append (List.nodup_singleton k) ?_
    intro j hj hjk
    rw [List.mem_singleton] at hjk
    subst hjk
    rw [hs.complete, SlotBody.isComplete_iff, hk] at hj
    exact Bool.noConfusion hj.2
  complete j := by
    rw [h.order, List.mem_append, List.mem_singleton, hs.complete, h.slot]
    split
    · next e =>
      refine iff_of_true (.inr e) ?_
      cases hb : (s.slot k).body with
      | inFlight op a e => exact ⟨op, a, e, o, s.timebase, rfl⟩
      | empty => rw [hb] at hk; cases hk
      | complete => rw [hb] at hk; cases hk
    · next hj => exact or_iff_left hj

theorem SlotTaken.inFlight (h : SlotTaken k op s t) {j : SlotIx} {op' : OpKind} {a e : Time}
    (hb : (t.slot j).body = .inFlight op' a e) : (j = k ∧ op' = op) ∨ (j ≠ k ∧ (s.slot j).body = .inFlight op' a e) := by
  by_cases hj : j = k
  · subst hj
    obtain ⟨-, a', e', hb'⟩ := h.holds
    rw [hb] at hb'
    cases hb'
    exact .inl ⟨rfl, rfl⟩
  · rw [h.slot j hj] at hb
    exact .inr ⟨hj, hb⟩

theorem SlotTaken.orderKept (h : SlotTaken k op s t) (hs : OrderKept s) : OrderKept t where
  nodup := by
    rw [h.order]
    exact hs.nodup.filter _
  complete j := by
    rw [h.order, List.mem_filter, hs.complete, decide_eq_true_eq]
    by_cases hj : j = k
    · subst hj
      obtain ⟨-, a, e, hb⟩ := h.holds
      refine iff_of_false (fun hin => hin.2 rfl) fun hc => ?_
      rw [hb, SlotBody.isComplete_iff] at hc
      exact Bool.noConfusion hc.2
    · rw [h.slot j hj]
      exact and_iff_left hj

/-- An operation in a slot that stands, stands on. -/
theorem State.holdsOp_of_eq {j : SlotIx} {gen : BitVec 12} (h : s.holdsOp j gen op) (e : t.slot j = s.slot j) : t.holdsOp j gen op := by
  unfold State.holdsOp
  rw [e]
  exact h

/-! ### The ending of a lane's operation (R137, R139, R161) -/

/-- `t` is `s` with the operation `p` of lane `l` ended. -/
structure LaneOpEnded (l : LaneIx) (p : LaneOp) (o : OpOutcome) (s t : State) : Prop extends SlotEnded p.slot o s t where
  op : ∀ n, (t.lane n).op = if n = l then none else (s.lane n).op
  role : ∀ n, (t.lane n).role = (s.lane n).role
  group : ∀ g, t.group g = s.group g

theorem LaneOpEnded.op_some {l : LaneIx} {p : LaneOp} (h : LaneOpEnded l p o s t) {n : LaneIx} {q : LaneOp}
    (hq : (t.lane n).op = some q) : n ≠ l ∧ (s.lane n).op = some q := by
  rw [h.op] at hq
  split at hq
  · cases hq
  · next hn => exact ⟨hn, hq⟩

theorem OpsTies.laneOpEnded {l : LaneIx} {p : LaneOp} (hs : OpsTies s) (hp : (s.lane l).op = some p) (h : LaneOpEnded l p o s t) :
    OpsTies t := by
  have hflight : (s.slot p.slot).body.isInFlight = true := by
    obtain ⟨-, a, e, hb⟩ := hs.laneSlot l p hp
    rw [hb]
    rfl
  have horder := h.toSlotEnded.orderKept hs.orderKept hflight
  have hkept : ∀ j, j ≠ p.slot → t.slot j = s.slot j := fun j hj => by rw [h.slot, if_neg hj]
  refine { laneSlot := fun n q hq => ?_, setSlot := fun g d hd => ?_, owned := fun j op a e hb => ?_, disabling := fun g => ?_,
           member := fun g d n hd hin => ?_, live := fun n g hg => ?_, named := fun n g d hg hd => ?_, opGroup := fun n q hq => ?_,
           nodup := horder.nodup, complete := horder.complete }
  · obtain ⟨hn, hq'⟩ := h.op_some hq
    exact State.holdsOp_of_eq (hs.laneSlot n q hq') (hkept _ (hs.lane_slots hp hq' hn))
  · rw [h.group] at hd
    exact State.holdsOp_of_eq (hs.setSlot g d hd) (hkept _ (hs.set_slot hp hd))
  · obtain ⟨hj, hb'⟩ := h.toSlotEnded.inFlight hb
    have howns := hs.owned j op a e hb'
    have hlane : ∀ n kind, (∃ q, (s.lane n).op = some q ∧ q.slot = j ∧ q.kind = kind) →
        ∃ q, (t.lane n).op = some q ∧ q.slot = j ∧ q.kind = kind := by
      rintro n kind ⟨q, hq, hqj, hqk⟩
      have hn : n ≠ l := by
        rintro rfl
        rw [hp] at hq
        cases hq
        exact hj hqj.symm
      exact ⟨q, by rw [h.op, if_neg hn]; exact hq, hqj, hqk⟩
    cases op with
    | laneAdd n => exact hlane n .add howns
    | laneRemove n => exact hlane n .remove howns
    | groupDisable g =>
      obtain ⟨d, hd, hdj⟩ := howns
      exact ⟨d, by rw [h.group]; exact hd, hdj⟩
  · rw [h.group]
    exact hs.disabling g
  · rw [h.group] at hd
    obtain ⟨hop, hrole⟩ := hs.member g d n hd hin
    rw [h.op, h.role, hop, ite_self]
    exact ⟨rfl, hrole⟩
  · rw [h.group]
    rw [h.role] at hg
    exact hs.live n g hg
  · rw [h.group] at hd
    rw [h.role] at hg
    exact hs.named n g d hg hd
  · rw [h.group]
    exact hs.opGroup n q (h.op_some hq).2

theorem OpsTies.endLaneOp (hs : OpsTies s) (l : LaneIx) (o : OpOutcome) : OpsTies (endLaneOp l o s) := by
  cases hp : (s.lane l).op with
  | none =>
    rw [endLaneOp_of_none o hp]
    exact hs
  | some p =>
    have hflight : (s.slot p.slot).body.isInFlight = true := by
      obtain ⟨-, a, e, hb⟩ := hs.laneSlot l p hp
      rw [hb]
      rfl
    refine hs.laneOpEnded (o := o) hp
      { slot := fun j => ?_, order := ?_, op := fun n => ?_, role := fun n => ?_, group := endLaneOp_group l o s }
    · rw [endLaneOp_slot, hp]
      dsimp only
      split
      · next e => rw [e]
      · rfl
    · rw [(endLaneOp_emits l o s).notesOnly.completionOrder_eq]
      unfold laneOpEnds
      rw [hp]
      exact (slotEnds_order ..).trans (if_pos hflight)
    · rw [endLaneOp_lane]
      split <;> rfl
    · rw [endLaneOp_lane]
      split
      · next e => rw [e]
      · rfl

/-! ### The completion of a GROUP-DISABLE (R142) -/

/-- `t` is `s` with the disable `d` of `g` completed. -/
structure DisableEnded (g : GroupIx) (d : DisableRec) (o : OpOutcome) (s t : State) : Prop extends SlotEnded d.slot o s t where
  op : ∀ n, (t.lane n).op = (s.lane n).op
  role : ∀ n, (t.lane n).role = (s.lane n).role
  queue : ∀ n, (t.lane n).queue = (s.lane n).queue
  disable : (t.group g).disable = none
  tx : (t.group g).tx = .disabled
  group : ∀ h, h ≠ g → t.group h = s.group h

theorem DisableEnded.disable_some {g : GroupIx} {d : DisableRec} (h : DisableEnded g d o s t) {i : GroupIx} {e : DisableRec}
    (he : (t.group i).disable = some e) : i ≠ g ∧ (s.group i).disable = some e := by
  have hi : i ≠ g := by
    rintro rfl
    rw [h.disable] at he
    cases he
  exact ⟨hi, by rw [← h.group i hi]; exact he⟩

theorem OpsTies.set_inFlight (hs : OpsTies s) {g : GroupIx} {d : DisableRec} (hd : (s.group g).disable = some d) :
    (s.slot d.slot).body.isInFlight = true := by
  obtain ⟨-, a, e, hb⟩ := hs.setSlot g d hd
  rw [hb]
  rfl

theorem OpsTies.disableEnded {g : GroupIx} {d : DisableRec} (hs : OpsTies s) (hd : (s.group g).disable = some d)
    (hroles : ∀ n, (s.lane n).role.group? ≠ some g) (h : DisableEnded g d o s t) : OpsTies t := by
  have hflight := hs.set_inFlight hd
  have horder := h.toSlotEnded.orderKept hs.orderKept hflight
  have hkept : ∀ j, j ≠ d.slot → t.slot j = s.slot j := fun j hj => by rw [h.slot, if_neg hj]
  refine { laneSlot := fun n q hq => ?_, setSlot := fun i e he => ?_, owned := fun j op a e hb => ?_, disabling := fun i => ?_,
           member := fun i e n he hin => ?_, live := fun n i hi => ?_, named := fun n i e hi he => ?_, opGroup := fun n q hq => ?_,
           nodup := horder.nodup, complete := horder.complete }
  · rw [h.op] at hq
    exact State.holdsOp_of_eq (hs.laneSlot n q hq) (hkept _ (hs.set_slot hq hd).symm)
  · obtain ⟨hi, he'⟩ := h.disable_some he
    exact State.holdsOp_of_eq (hs.setSlot i e he') (hkept _ (hs.set_slots hd he' hi))
  · obtain ⟨hj, hb'⟩ := h.toSlotEnded.inFlight hb
    have howns := hs.owned j op a e hb'
    cases op with
    | laneAdd n =>
      obtain ⟨q, hq, hrest⟩ := howns
      exact ⟨q, (h.op n).trans hq, hrest⟩
    | laneRemove n =>
      obtain ⟨q, hq, hrest⟩ := howns
      exact ⟨q, (h.op n).trans hq, hrest⟩
    | groupDisable i =>
      obtain ⟨e', he', hj'⟩ := howns
      have hi : i ≠ g := by
        rintro rfl
        rw [hd] at he'
        cases he'
        exact hj hj'.symm
      exact ⟨e', by rw [h.group i hi]; exact he', hj'⟩
  · by_cases hi : i = g
    · subst hi
      rw [h.disable, h.tx]
      exact iff_of_false (by decide) (by decide)
    · rw [h.group i hi]
      exact hs.disabling i
  · obtain ⟨hi, he'⟩ := h.disable_some he
    rw [h.op, h.role]
    exact hs.member i e n he' hin
  · rw [h.role] at hi
    have hne : i ≠ g := fun e => hroles n (e ▸ hi)
    rw [h.group i hne]
    exact hs.live n i hi
  · obtain ⟨-, he'⟩ := h.disable_some he
    rw [h.role] at hi
    exact hs.named n i e hi he'
  · rw [h.op] at hq
    have hnone := hs.opGroup n q hq
    by_cases hi : q.group = g
    · rw [hi]
      exact h.disable
    · rw [h.group _ hi]
      exact hnone

/-- The roles stand as lawfully once a disable whose lanes are OFF has completed. -/
theorem DisableEnded.roleLawful {g : GroupIx} {d : DisableRec} (h : DisableEnded g d o s t)
    (hroles : ∀ n, (s.lane n).role.group? ≠ some g) {l : LaneIx} (hl : s.RoleLawful l) : t.RoleLawful l := by
  refine hl.alike (h.role l) (h.queue l) (h.op l) fun i e he hin hdrain => ⟨e, ?_, hin⟩
  have hi : i ≠ g := by
    rintro rfl
    exact hroles l (by rw [hdrain]; rfl)
  rw [h.group i hi]
  exact he

theorem State.groupDisabled_order (s : State) (g : GroupIx) : (s.groupDisabled g).completionOrder = s.completionOrder := rfl

theorem completeDisable_ended {g : GroupIx} {d : DisableRec} (o : OpOutcome) {s : State}
    (hflight : (s.slot d.slot).body.isInFlight = true) : DisableEnded g d o s (completeDisable g d o s) := by
  have hnotes := (completeDisable_emits g d o s).notesOnly
  have hlane : ∀ n, (completeDisable g d o s).lane n = (s.lane n).dropped g := fun n => by
    rw [hnotes.lane_eq, slotEnds_lane, State.groupDisabled_lane]
  have hgroup : ∀ h, (completeDisable g d o s).group h = (s.groupDisabled g).group h := fun h => by
    rw [hnotes.group_eq, slotEnds_group]
  refine { slot := fun j => ?_, order := ?_, op := fun n => ?_, role := fun n => ?_, queue := fun n => ?_, disable := ?_, tx := ?_,
           group := fun h hne => ?_ }
  · rw [hnotes.slot_eq, slotEnds_slot, State.groupDisabled_slot, State.groupDisabled_timebase, State.groupDisabled_slot]
  · rw [hnotes.completionOrder_eq, slotEnds_order, State.groupDisabled_slot, if_pos hflight, State.groupDisabled_order]
  · rw [hlane, LaneState.dropped]
    split <;> rfl
  · rw [hlane, LaneState.dropped_role]
  · rw [hlane, LaneState.dropped_queue]
  · rw [hgroup, State.groupDisabled_group]
    rfl
  · rw [hgroup, State.groupDisabled_group]
    rfl
  · rw [hgroup, State.groupDisabled_group_of_ne _ hne]

theorem completeDisable_lawful {g : GroupIx} {d : DisableRec} (hs : s.OpsLawful) (o : OpOutcome)
    (hd : (s.group g).disable = some d) (hoff : ∀ n, inSet d.set n = true → (s.lane n).role = .off) :
    (completeDisable g d o s).OpsLawful := by
  have hroles : ∀ n, (s.lane n).role.group? ≠ some g := fun n hn => by
    have hr := hoff n (hs.ties.named n g d hn hd)
    rw [hr] at hn
    cases hn
  have hended := completeDisable_ended (g := g) o (hs.ties.set_inFlight hd)
  generalize completeDisable g d o s = t at hended ⊢
  exact t.opsLawful_iff.2 ⟨hs.ties.disableEnded hd hroles hended, fun l => hended.roleLawful hroles (hs.roles l)⟩

/-! ### Slots given (R137, R139, R141, R160) -/

/-- `t` is `s` with the operation `p` given to lane `l`. -/
structure LaneOpGiven (l : LaneIx) (p : LaneOp) (s t : State) : Prop extends SlotTaken p.slot (p.kind.on l) s t where
  gen : (t.slot p.slot).gen = p.gen
  op : ∀ n, (t.lane n).op = if n = l then some p else (s.lane n).op
  role : ∀ n, (t.lane n).role = (s.lane n).role
  group : ∀ g, t.group g = s.group g

/-- A slot that is not in flight is no operation's. -/
theorem OpsTies.lane_slot_ne (hs : OpsTies s) (hk : (s.slot k).body.isInFlight = false) {n : LaneIx} {q : LaneOp}
    (hq : (s.lane n).op = some q) : q.slot ≠ k := by
  rintro rfl
  obtain ⟨-, a, e, hb⟩ := hs.laneSlot n q hq
  rw [hb] at hk
  cases hk

theorem OpsTies.set_slot_ne (hs : OpsTies s) (hk : (s.slot k).body.isInFlight = false) {g : GroupIx} {d : DisableRec}
    (hd : (s.group g).disable = some d) : d.slot ≠ k := by
  rintro rfl
  rw [hs.set_inFlight hd] at hk
  cases hk

theorem OpsTies.laneOpGiven {l : LaneIx} {p : LaneOp} (hs : OpsTies s) (hk : (s.slot p.slot).body.isInFlight = false)
    (hfree : (s.lane l).op = none) (hset : ∀ g d, (s.group g).disable = some d → inSet d.set l = false)
    (hgroup : (s.group p.group).disable = none) (h : LaneOpGiven l p s t) : OpsTies t := by
  have horder := h.toSlotTaken.orderKept hs.orderKept
  have hop_ne : ∀ n, n ≠ l → (t.lane n).op = (s.lane n).op := fun n hn => by rw [h.op, if_neg hn]
  have hop_self : (t.lane l).op = some p := by rw [h.op, if_pos rfl]
  refine { laneSlot := fun n q hq => ?_, setSlot := fun g d hd => ?_, owned := fun j op a e hb => ?_, disabling := fun g => ?_,
           member := fun g d n hd hin => ?_, live := fun n g hg => ?_, named := fun n g d hg hd => ?_, opGroup := fun n q hq => ?_,
           nodup := horder.nodup, complete := horder.complete }
  · by_cases hn : n = l
    · subst hn
      rw [hop_self] at hq
      cases hq
      rw [← h.gen]
      exact h.holds
    · rw [hop_ne n hn] at hq
      exact State.holdsOp_of_eq (hs.laneSlot n q hq) (h.slot _ (hs.lane_slot_ne hk hq))
  · rw [h.group] at hd
    exact State.holdsOp_of_eq (hs.setSlot g d hd) (h.slot _ (hs.set_slot_ne hk hd))
  · obtain ⟨rfl, rfl⟩ | ⟨hj, hb'⟩ := h.toSlotTaken.inFlight hb
    · cases hkind : p.kind with
      | add => exact ⟨p, hop_self, rfl, hkind⟩
      | remove => exact ⟨p, hop_self, rfl, hkind⟩
    · have howns := hs.owned j op a e hb'
      have hlane : ∀ n kind, (∃ q, (s.lane n).op = some q ∧ q.slot = j ∧ q.kind = kind) →
          ∃ q, (t.lane n).op = some q ∧ q.slot = j ∧ q.kind = kind := by
        rintro n kind ⟨q, hq, hrest⟩
        have hn : n ≠ l := by
          rintro rfl
          cases hfree.symm.trans hq
        exact ⟨q, by rw [hop_ne n hn]; exact hq, hrest⟩
      cases op with
      | laneAdd n => exact hlane n .add howns
      | laneRemove n => exact hlane n .remove howns
      | groupDisable g =>
        obtain ⟨d, hd, hdj⟩ := howns
        exact ⟨d, by rw [h.group]; exact hd, hdj⟩
  · rw [h.group]
    exact hs.disabling g
  · rw [h.group] at hd
    have hn : n ≠ l := by
      rintro rfl
      rw [hset g d hd] at hin
      cases hin
    rw [hop_ne n hn, h.role]
    exact hs.member g d n hd hin
  · rw [h.group]
    rw [h.role] at hg
    exact hs.live n g hg
  · rw [h.group] at hd
    rw [h.role] at hg
    exact hs.named n g d hg hd
  · rw [h.group]
    by_cases hn : n = l
    · subst hn
      rw [hop_self] at hq
      cases hq
      exact hgroup
    · rw [hop_ne n hn] at hq
      exact hs.opGroup n q hq

/-- `t` is `s` with the disable `d` of `g` begun, roles aside. -/
structure DisableGiven (g : GroupIx) (d : DisableRec) (s t : State) : Prop extends SlotTaken d.slot (.groupDisable g) s t where
  gen : (t.slot d.slot).gen = d.gen
  op : ∀ n, (t.lane n).op = (s.lane n).op
  disable : (t.group g).disable = some d
  tx : (t.group g).tx = .disabling
  group : ∀ h, h ≠ g → t.group h = s.group h

theorem OpsTies.disableGiven {g : GroupIx} {d : DisableRec} (hs : OpsTies s) (hk : (s.slot d.slot).body.isInFlight = false)
    (hfree : (s.group g).disable = none) (hops : ∀ n p, (s.lane n).op = some p → p.group ≠ g)
    (hset : ∀ n, inSet d.set n = true → (s.lane n).op = none ∧ ((t.lane n).role = .off ∨ (t.lane n).role = .draining g))
    (hnames : ∀ n, (t.lane n).role.group? = some g → inSet d.set n = true)
    (hothers : ∀ n, inSet d.set n = false → (t.lane n).role = (s.lane n).role)
    (hfirst : ∀ n, inSet d.set n = true → ∀ h e, (s.group h).disable = some e → inSet e.set n = true → (t.lane n).role = .off)
    (h : DisableGiven g d s t) : OpsTies t := by
  have horder := h.toSlotTaken.orderKept hs.orderKept
  have hsome : ∀ i e, (t.group i).disable = some e → (i = g ∧ e = d) ∨ (i ≠ g ∧ (s.group i).disable = some e) := fun i e he => by
    by_cases hi : i = g
    · subst hi
      rw [h.disable] at he
      exact .inl ⟨rfl, (Option.some.inj he).symm⟩
    · rw [h.group i hi] at he
      exact .inr ⟨hi, he⟩
  have hnamed : ∀ n i, i ≠ g → (t.lane n).role.group? = some i → (s.lane n).role.group? = some i := fun n i hi hn => by
    cases hin : inSet d.set n with
    | false => rwa [hothers n hin] at hn
    | true =>
      rcases (hset n hin).2 with hr | hr
      · rw [hr] at hn
        cases hn
      · rw [hr] at hn
        exact absurd (Option.some.inj hn).symm hi
  refine { laneSlot := fun n q hq => ?_, setSlot := fun i e he => ?_, owned := fun j op a e hb => ?_, disabling := fun i => ?_,
           member := fun i e n he hin => ?_, live := fun n i hi => ?_, named := fun n i e hi he => ?_, opGroup := fun n q hq => ?_,
           nodup := horder.nodup, complete := horder.complete }
  · rw [h.op] at hq
    exact State.holdsOp_of_eq (hs.laneSlot n q hq) (h.slot _ (hs.lane_slot_ne hk hq))
  · obtain ⟨rfl, rfl⟩ | ⟨hi, he'⟩ := hsome i e he
    · rw [← h.gen]
      exact h.holds
    · exact State.holdsOp_of_eq (hs.setSlot i e he') (h.slot _ (hs.set_slot_ne hk he'))
  · obtain ⟨rfl, rfl⟩ | ⟨hj, hb'⟩ := h.toSlotTaken.inFlight hb
    · exact ⟨d, h.disable, rfl⟩
    · have howns := hs.owned j op a e hb'
      cases op with
      | laneAdd n =>
        obtain ⟨q, hq, hrest⟩ := howns
        exact ⟨q, (h.op n).trans hq, hrest⟩
      | laneRemove n =>
        obtain ⟨q, hq, hrest⟩ := howns
        exact ⟨q, (h.op n).trans hq, hrest⟩
      | groupDisable i =>
        obtain ⟨e', he', hj'⟩ := howns
        have hi : i ≠ g := by
          rintro rfl
          cases hfree.symm.trans he'
        exact ⟨e', by rw [h.group i hi]; exact he', hj'⟩
  · by_cases hi : i = g
    · subst hi
      rw [h.disable, h.tx]
      exact iff_of_true rfl rfl
    · rw [h.group i hi]
      exact hs.disabling i
  · rw [h.op]
    obtain ⟨rfl, rfl⟩ | ⟨hi, he'⟩ := hsome i e he
    · exact hset n hin
    · obtain ⟨hop, hrole⟩ := hs.member i e n he' hin
      refine ⟨hop, ?_⟩
      cases hd : inSet d.set n with
      | false => rwa [hothers n hd]
      | true => exact .inl (hfirst n hd i e he' hin)
  · by_cases hne : i = g
    · rw [hne, h.tx]
      decide
    · rw [h.group i hne]
      exact hs.live n i (hnamed n i hne hi)
  · obtain ⟨rfl, rfl⟩ | ⟨hne, he'⟩ := hsome i e he
    · exact hnames n hi
    · exact hs.named n i e (hnamed n i hne hi) he'
  · rw [h.op] at hq
    rw [h.group _ (hops n q hq)]
    exact hs.opGroup n q hq

end

end Sys2Proof.Machine
end

section
/-! Changes of role and judgments of lanes keep the laws of the operations (R126, R130, R137, R139, R141, R142). -/

namespace Sys2Proof.Machine

/- The kernel checks the theorems one after another. -/
set_option Elab.async false

/-! ### Transmit states and loss marks are alike -/

theorem TxJudged.disabling {x y : GroupState} (h : TxJudged x y) : y.tx = .disabling ↔ x.tx = .disabling := by
  cases hx : x.tx.cutting with
  | false => rw [h.kept hx]
  | true =>
    have hy := h.cutting hx
    constructor
    · intro e
      rw [e] at hy
      cases hy
    · intro e
      rw [e] at hx
      cases hx

theorem TxJudged.disabled {x y : GroupState} (h : TxJudged x y) : y.tx = .disabled ↔ x.tx = .disabled := by
  cases hx : x.tx.cutting with
  | false => rw [h.kept hx]
  | true =>
    have hy := h.cutting hx
    constructor
    · intro e
      rw [e] at hy
      cases hy
    · intro e
      rw [e] at hx
      cases hx

theorem TxJudged.disable {x y : GroupState} (h : TxJudged x y) : y.disable = x.disable := by
  rw [h.rest]

theorem GroupState.lossMarked_tie (l : LaneIx) (x : GroupState) :
    (x.lossMarked l).disable.map DisableRec.tie = x.disable.map DisableRec.tie := by
  unfold GroupState.lossMarked
  split
  · next d hd =>
    split
    · rw [hd]
      rfl
    · rfl
  · rfl

theorem GroupState.lossMarked_tx (l : LaneIx) (x : GroupState) : (x.lossMarked l).tx = x.tx := by
  unfold GroupState.lossMarked
  split
  · split <;> rfl
  · rfl

section
variable {s t : State} {l : LaneIx}

theorem setRole_alike (l : LaneIx) (r : Role) (c : RoleCause) (s : State) : OpsAlike s (setRole l r c s) where
  op n := by
    rw [setRole_lane]
    split
    · next e => rw [e]
    · rfl
  slot k := setRole_slot ..
  order := setRole_order ..
  disabling g := (setRole_txJudged l r c s g).disabling
  disabled g := (setRole_txJudged l r c s g).disabled
  tie g := by rw [(setRole_txJudged l r c s g).disable]

theorem markLoss_alike (l : LaneIx) (s : State) : OpsAlike s (markLoss l s) where
  op _ := rfl
  slot _ := rfl
  order := rfl
  disabling g := by rw [markLoss_group, GroupState.lossMarked_tx]
  disabled g := by rw [markLoss_group, GroupState.lossMarked_tx]
  tie g := by rw [markLoss_group, GroupState.lossMarked_tie]

/-- An update of a lane that leaves its operation. -/
theorem modLane_alike (s : State) (l : LaneIx) (f : LaneState → LaneState) (hf : ∀ x, (f x).op = x.op := by exact fun _ => rfl) :
    OpsAlike s (s.modLane l f) where
  op n := by
    rw [State.lane_modLane]
    split
    · next e => rw [hf, e]
    · rfl
  slot _ := rfl
  order := rfl
  disabling _ := Iff.rfl
  disabled _ := Iff.rfl
  tie _ := rfl

theorem countLane_same (s : State) (l : LaneIx) (c : LaneCtr) (n : Nat) : OpsSame s (s.countLane l c n) where
  toOpsAlike := modLane_alike s ..
  role m := by
    rw [State.lane_countLane]
    split
    · next e => rw [e]
    · rfl
  queue m := by
    rw [State.lane_countLane]
    split
    · next e => rw [e]
    · rfl

theorem flush_alike (l : LaneIx) (c : LaneCtr) (s : State) : OpsAlike s (flush l c s) :=
  (modLane_alike s l fun x => { x with queue := [] }).trans (countLane_same ..).toOpsAlike

theorem flush_role (l : LaneIx) (c : LaneCtr) (s : State) (n : LaneIx) : ((flush l c s).lane n).role = (s.lane n).role := by
  rw [flush_eq, State.lane_modLane]
  split
  · next e => rw [e]
  · rfl

/-! ### Roles that fit -/

/-- A lane with an operation, or with a role that is not of a drained one, is of no disable set. -/
theorem OpsTies.not_member (hs : OpsTies s) (h : (s.lane l).op ≠ none ∨ ((s.lane l).role ≠ .off ∧ ∀ g, (s.lane l).role ≠ .draining g))
    {g : GroupIx} {d : DisableRec} (hd : (s.group g).disable = some d) : inSet d.set l = false := by
  refine Bool.eq_false_of_not_eq_true fun hin => ?_
  obtain ⟨hop, hrole⟩ := hs.member g d l hd hin
  rcases h with h | ⟨hoff, hdrain⟩
  · exact h hop
  · exact hrole.elim hoff (hdrain g)

/-- A role that names the group the lane's role names, of a lane of no disable set, fits. -/
theorem OpsTies.fits_of_group (hs : OpsTies s) (hset : ∀ g d, (s.group g).disable = some d → inSet d.set l = false) {r : Role}
    (hg : r.group? = (s.lane l).role.group?) : RoleFits s l r where
  member g d hd hin := by
    rw [hset g d hd] at hin
    cases hin
  live g hr := hs.live l g (hg.symm.trans hr)
  named g d hr hd := hs.named l g d (hg.symm.trans hr) hd

theorem OpsTies.setRole (hs : OpsTies s) {r : Role} (c : RoleCause) (hfit : RoleFits s l r) : OpsTies (setRole l r c s) := by
  refine hs.alike (setRole_alike ..) fun n => ?_
  rw [setRole_lane]
  split
  · next e =>
    rw [e]
    exact hfit
  · exact hs.roleFits n

theorem OpsTies.flush (hs : OpsTies s) (l : LaneIx) (c : LaneCtr) : OpsTies (flush l c s) := by
  refine hs.alike (flush_alike ..) fun n => ?_
  rw [flush_role]
  exact hs.roleFits n

theorem OpsTies.markLoss (hs : OpsTies s) (l : LaneIx) : OpsTies (markLoss l s) :=
  hs.alike (markLoss_alike ..) fun n => hs.roleFits n

theorem OpsTies.countLane (hs : OpsTies s) (l : LaneIx) (c : LaneCtr) (n : Nat) : OpsTies (s.countLane l c n) := by
  refine hs.alike (countLane_same ..).toOpsAlike fun m => ?_
  rw [(countLane_same ..).role]
  exact hs.roleFits m

/-! ### A lane judged by a report (R130) -/

theorem State.OpsLawful.judgeBits_ties (hs : s.OpsLawful) (acc al was : Bool) (l : LaneIx) : OpsTies (judgeBits acc al was l s) := by
  have hrole := hs.roles l
  have hties := hs.ties
  unfold State.RoleLawful at hrole
  unfold judgeBits
  cases hr : (s.lane l).role with
  | off =>
    dsimp only
    split
    · exact hties.endLaneOp l .done
    · exact hties
  | probation g =>
    have hset := fun i d => hties.not_member (l := l) (.inr ⟨by rw [hr]; nofun, by rw [hr]; nofun⟩) (g := i) (d := d)
    dsimp only
    split
    · exact (hties.setRole .accepted (hties.fits_of_group hset (by rw [hr]; rfl))).endLaneOp l .done
    · split
      · exact (hties.setRole .fault (.off s l)).endLaneOp l .laneFault
      · exact hties
  | active g =>
    have hset := fun i d => hties.not_member (l := l) (.inr ⟨by rw [hr]; nofun, by rw [hr]; nofun⟩) (g := i) (d := d)
    dsimp only
    split
    · exact hties
    · refine ((hties.flush l _).countLane l _ 1).setRole .notAccepted (OpsTies.fits_of_group ((hties.flush l _).countLane l _ 1) hset ?_)
      rw [(countLane_same ..).role, flush_role, hr]
      rfl
  | withdrawn g =>
    have hset := fun i d => hties.not_member (l := l) (.inr ⟨by rw [hr]; nofun, by rw [hr]; nofun⟩) (g := i) (d := d)
    dsimp only
    split
    · refine (hties.countLane l _ 1).setRole .accepted (OpsTies.fits_of_group (hties.countLane l _ 1) hset ?_)
      rw [(countLane_same ..).role, hr]
      rfl
    · exact hties
  | draining g =>
    have hdrop : OpsTies (setRole l .off .loss (Machine.markLoss l (Machine.flush l .discardedOnWithdraw s))) :=
      ((hties.flush l _).markLoss l).setRole .loss (.off _ l)
    dsimp only
    split
    · exact hties
    · split
      · exact hdrop.endLaneOp l .doneWithLoss
      · exact hdrop

/-- The group's record of its set, after a judgment. -/
theorem LaneJudged.set_of {new : Role} {q : List DataSeg} {o : Option OpOutcome} {loss : Bool} (h : LaneJudged new q o loss l s t)
    {g : GroupIx} {d : DisableRec} (hd : (s.group g).disable = some d) :
    ∃ d', (t.group g).disable = some d' ∧ d'.set = d.set := by
  have htie : (t.group g).disable.map DisableRec.tie = (s.group g).disable.map DisableRec.tie := by
    rw [(h.group g).disable]
    split
    · exact GroupState.lossMarked_tie ..
    · rfl
  rw [hd, Option.map_some, Option.map_eq_some_iff] at htie
  obtain ⟨d', hd', heq⟩ := htie
  simp only [DisableRec.tie, Prod.mk.injEq] at heq
  exact ⟨d', hd', heq.2.2⟩

theorem State.OpsLawful.judgeBits_roleLawful (hs : s.OpsLawful) (acc al was : Bool) (l n : LaneIx) :
    (judgeBits acc al was l s).RoleLawful n := by
  have hj := judgeBits_judged acc al was l s
  generalize judgeBits acc al was l s = t at hj ⊢
  by_cases hn : n = l
  · subst hn
    obtain ⟨-, hrole, hqueue, hop, -⟩ := hj.lane
    have hs' := hs.roles n
    unfold State.RoleLawful at hs' ⊢
    rw [hrole, hqueue, hop]
    unfold judgedRole LaneState.judgedQueue LaneState.ending
    cases hr : (s.lane n).role with
    | off =>
      rw [hr] at hs'
      exact ⟨hs'.1, fun p hp => hs'.2 p (Option.ite_none_left_eq_some.1 hp).2⟩
    | probation g =>
      rw [hr] at hs'
      cases acc with
      | true => rfl
      | false =>
        cases hf : !al && was with
        | true => exact ⟨hs'.1, nofun⟩
        | false => exact hs'
    | active g =>
      rw [hr] at hs'
      cases acc with
      | true => exact hs'
      | false => exact ⟨rfl, hs'⟩
    | withdrawn g =>
      rw [hr] at hs'
      cases acc with
      | true => exact hs'.2
      | false => exact hs'
    | draining g =>
      rw [hr] at hs'
      cases acc with
      | true =>
        obtain ⟨hq, hrem | ⟨hnone, d, hd, hin⟩⟩ := hs'
        · exact ⟨hq, .inl hrem⟩
        · obtain ⟨d', hd', hset⟩ := hj.set_of hd
          exact ⟨hq, .inr ⟨hnone, d', hd', by rw [hset]; exact hin⟩⟩
      | false =>
        refine ⟨rfl, fun p hp => ?_⟩
        obtain ⟨-, ⟨q, hq, hkind, -⟩ | ⟨hnone, -⟩⟩ := hs'
        · have hrem : (s.lane n).beingRemoved = true := by
            unfold LaneState.beingRemoved
            rw [hq]
            exact decide_eq_true hkind
          rw [hrem] at hp
          cases hp
        · rw [hnone, ite_self] at hp
          cases hp
  · have hlane := hj.others n hn
    refine (hs.roles n).alike (by rw [hlane]) (by rw [hlane]) (by rw [hlane]) fun g d hd hin _ => ?_
    obtain ⟨d', hd', hset⟩ := hj.set_of hd
    exact ⟨d', hd', by rw [hset]; exact hin⟩

theorem State.OpsLawful.judgeBits (hs : s.OpsLawful) (acc al was : Bool) (l : LaneIx) : (judgeBits acc al was l s).OpsLawful :=
  (State.opsLawful_iff _).2 ⟨hs.judgeBits_ties acc al was l, hs.judgeBits_roleLawful acc al was l⟩

/-! ### Disables judged (R142) -/

theorem State.OpsLawful.checkDisableOf (hs : s.OpsLawful) (l : LaneIx) : (checkDisableOf l s).OpsLawful := by
  rw [checkDisableOf_eq]
  refine List.foldlRecOn allGroups _ hs fun u hu g _ => ?_
  cases hd : (u.group g).disable with
  | none =>
    rw [checkStep_of_none hd]
    exact hu
  | some d =>
    rw [checkStep_of_some hd]
    split
    · next h =>
      have hdone := (Bool.and_eq_true_iff.1 h).2
      unfold State.disableDone at hdone
      rw [Bool.and_eq_true, List.all_eq_true] at hdone
      refine completeDisable_lawful hu _ hd fun n hn => ?_
      have hoff := hdone.1 n (mem_allLanes n)
      rwa [hn, Bool.not_true, Bool.false_or, decide_eq_true_eq] at hoff
    · exact hu

/-! ### A report, and a marker (R128) -/

theorem State.OpsLawful.takeReport (hs : s.OpsLawful) (l : LaneIx) (m : MarkerBody) : (takeReport l m s).OpsLawful := by
  have hstart : OpsSame s { s with peerReport := some ⟨m.aligned, m.accepted, l⟩ } := ⟨⟨fun _ => rfl, fun _ => rfl, rfl,
    fun _ => Iff.rfl, fun _ => Iff.rfl, fun _ => rfl⟩, fun _ => rfl, fun _ => rfl⟩
  unfold Machine.takeReport
  refine List.foldlRecOn allLanes _ (hstart.lawful hs) fun u hu n _ => ?_
  rw [judgeLane_eq]
  exact (hu.judgeBits ..).checkDisableOf n

theorem AssocJudged.opsSame (h : AssocJudged l s t) : OpsSame s t where
  op n := by rw [h.lane_eq]
  slot := h.slot
  order := h.order
  disabling g := by rw [h.tx]
  disabled g := by rw [h.tx]
  tie g := by rw [h.disable]
  role n := by rw [h.lane_eq]
  queue n := by rw [h.lane_eq]

theorem State.OpsLawful.takeMarker (hs : s.OpsLawful) (l : LaneIx) (m : MarkerBody) (S : Seq) : (takeMarker l m S s).OpsLawful :=
  (takeMarker_assocJudged l m S s).opsSame.lawful (hs.takeReport l m)

end

end Sys2Proof.Machine
end

section
/-! Received segments, timeouts, placements and transmissions keep the laws of the operations (R108, R113, R118, R130, R137, R139,
R142). -/

namespace Sys2Proof.Machine

/- The kernel checks the theorems one after another. -/
set_option Elab.async false

/-! ### Moves that touch no operation -/

theorem LaneMove.opsKept {s : State} {x x' : LaneState} {k : Aspect} (h : LaneMove s x k x') (hk : k ≠ .ops) :
    x'.op = x.op ∧ x'.role = x.role ∧ x'.queue = x.queue := by
  cases h with
  | free h =>
    rw [h.rest]
    exact ⟨rfl, rfl, rfl⟩
  | admin h _ _ =>
    rw [h]
    exact ⟨rfl, rfl, rfl⟩
  | role _ _ _ => exact absurd rfl hk
  | op _ => exact absurd rfl hk
  | queue _ _ _ => exact absurd rfl hk
  | _ => exact ⟨rfl, rfl, rfl⟩

theorem GroupState.push_tx (x : GroupState) (c : Cls) (f : TxFrame) : (x.push c f).tx = x.tx ∧ (x.push c f).disable = x.disable := by
  cases c <;> exact ⟨rfl, rfl⟩

theorem GroupState.pop_tx (x : GroupState) (c : Cls) : (x.pop c).tx = x.tx ∧ (x.pop c).disable = x.disable := by
  cases c <;> exact ⟨rfl, rfl⟩

/-- A move of a group that touches no operation leaves its disable, and the transmit states that do not cut. -/
theorem GroupMove.opsKept {x x' : GroupState} {k : Aspect} (h : GroupMove x k x') (hk : k ≠ .ops) :
    (x'.tx = x.tx ∨ (x.tx.cutting = true ∧ x'.tx.cutting = true)) ∧ x'.disable = x.disable := by
  cases h with
  | free h =>
    rw [h.rest]
    exact ⟨.inl rfl, rfl⟩
  | settings h _ _ _ =>
    rw [h]
    exact ⟨.inl rfl, rfl⟩
  | txFlip t hx ht => exact ⟨.inr ⟨hx, ht⟩, rfl⟩
  | push c f _ _ _ => exact ⟨.inl (x.push_tx c f).1, (x.push_tx c f).2⟩
  | pop c _ _ => exact ⟨.inl (x.pop_tx c).1, (x.pop_tx c).2⟩
  | enable _ => exact absurd rfl hk
  | disabling _ _ _ => exact absurd rfl hk
  | disabled _ => exact absurd rfl hk
  | loss _ _ _ => exact absurd rfl hk
  | _ => exact ⟨.inl rfl, rfl⟩

theorem TxState.alike_of_cutting {a b : TxState} (h : b = a ∨ (a.cutting = true ∧ b.cutting = true)) :
    (b = .disabling ↔ a = .disabling) ∧ (b = .disabled ↔ a = .disabled) := by
  rcases h with rfl | ⟨ha, hb⟩
  · exact ⟨Iff.rfl, Iff.rfl⟩
  · cases a <;> cases ha <;> cases b <;> cases hb <;> decide

/-- An update of a group that leaves its disable, and the transmit states that do not cut. -/
theorem modGroup_same (s : State) (g : GroupIx) (f : GroupState → GroupState)
    (hf : ((f (s.group g)).tx = (s.group g).tx ∨ ((s.group g).tx.cutting = true ∧ (f (s.group g)).tx.cutting = true)) ∧
      (f (s.group g)).disable = (s.group g).disable := by exact ⟨.inl rfl, rfl⟩) : OpsSame s (s.modGroup g f) where
  op _ := rfl
  slot _ := rfl
  order := rfl
  disabling i := by
    rw [State.group_modGroup]
    split
    · next e =>
      rw [e]
      exact (TxState.alike_of_cutting hf.1).1
    · rfl
  disabled i := by
    rw [State.group_modGroup]
    split
    · next e =>
      rw [e]
      exact (TxState.alike_of_cutting hf.1).2
    · rfl
  tie i := by
    rw [State.group_modGroup]
    split
    · next e => rw [e, hf.2]
    · rfl
  role _ := rfl
  queue _ := rfl

/-- An update of a lane that leaves role, operation and queue. -/
theorem modLane_same (s : State) (l : LaneIx) (f : LaneState → LaneState)
    (hf : (f (s.lane l)).op = (s.lane l).op ∧ (f (s.lane l)).role = (s.lane l).role ∧ (f (s.lane l)).queue = (s.lane l).queue := by
      exact ⟨rfl, rfl, rfl⟩) : OpsSame s (s.modLane l f) where
  op n := by
    rw [State.lane_modLane]
    split
    · next e => rw [e, hf.1]
    · rfl
  slot _ := rfl
  order := rfl
  disabling _ := Iff.rfl
  disabled _ := Iff.rfl
  tie _ := rfl
  role n := by
    rw [State.lane_modLane]
    split
    · next e => rw [e, hf.2.1]
    · rfl
  queue n := by
    rw [State.lane_modLane]
    split
    · next e => rw [e, hf.2.2]
    · rfl

/-- Parts with the same lanes, groups, slots and completion order. -/
theorem OpsSame.of_eq {s t : State} (hl : t.lanes = s.lanes) (hg : t.groups = s.groups) (hk : t.slots = s.slots)
    (ho : t.completionOrder = s.completionOrder) : OpsSame s t where
  op n := by rw [State.lane_congr hl]
  slot k := State.slot_congr hk k
  order := ho
  disabling g := by rw [State.group, State.group, hg]
  disabled g := by rw [State.group, State.group, hg]
  tie g := by rw [State.group, State.group, hg]
  role n := by rw [State.lane_congr hl]
  queue n := by rw [State.lane_congr hl]

theorem OpsSame.of_notes {s t : State} (h : NotesOnly s t) : OpsSame s t :=
  .of_eq (by rw [h.1]) (by rw [h.1]) (by rw [h.1]) h.completionOrder_eq

theorem Move.opsSame {s t : State} {k : Aspect} (h : Move s k t) (hk : k ≠ .ops) : OpsSame s t := by
  cases h with
  | plain h => exact .of_eq (by rw [h]) (by rw [h]) (by rw [h]) (by rw [h])
  | egress => exact .of_eq rfl rfl rfl rfl
  | mgmtOut => exact .of_eq rfl rfl rfl rfl
  | requests => exact .of_eq rfl rfl rfl rfl
  | noted h => exact .of_notes h.notesOnly
  | lane l f h => exact modLane_same s l f (h.opsKept hk)
  | group g f pool store h _ _ =>
    have hpools : OpsSame s { s with poolFree := pool, storeFree := store } := .of_eq rfl rfl rfl rfl
    exact hpools.trans (modGroup_same _ g f (h.opsKept hk))
  | streamCounters => exact .of_eq rfl rfl rfl rfl
  | streamSettings => exact .of_eq rfl rfl rfl rfl
  | devSettings => exact .of_eq rfl rfl rfl rfl
  | slots => exact absurd rfl hk

theorem Moves.opsSame {as : List Aspect} {s t : State} (h : Moves as s t) (ho : .ops ∉ as) : OpsSame s t :=
  h.keeps (P := OpsSame s) (fun u v k hk hmove hu => hu.trans (hmove.opsSame (by
    rintro rfl
    exact hk.elim nofun ho))) (.refl s)

section
variable {s t : State} {l : LaneIx}

theorem State.OpsLawful.moves (hs : s.OpsLawful) {as : List Aspect} (h : Moves as s t) (ho : .ops ∉ as) : t.OpsLawful :=
  (h.opsSame ho).lawful hs

/-! ### Received segments (R15 to R20, R28, R128) -/

theorem State.OpsLawful.takeValid (hs : s.OpsLawful) (m : MarkerBody) (S : Seq) : (takeValid l m S s).OpsLawful := by
  have htaken : OpsSame s (s.markerTaken l m) :=
    ((countLane_same ..).trans (countLane_same ..)).trans (modLane_same ..)
  rw [takeValid_eq]
  split
  · exact (htaken.lawful hs).takeMarker l m S
  · exact htaken.lawful hs

theorem State.OpsLawful.segmentGoesOn (hs : s.OpsLawful) (h : Header) (bytes : List Byte) : (segmentGoesOn l h bytes s).OpsLawful := by
  have hcopy : Moves [.rx, .mark] s (loopCopy l bytes s) := loopCopy_moves ..
  have hcopied : (loopCopy l bytes s).OpsLawful := hs.moves hcopy (by decide)
  unfold Machine.segmentGoesOn
  split
  · exact hs.moves (hcopy.trans (takeData_moves _ _ _ _ (by decide))) (by decide)
  · exact hs.moves (hcopy.trans (takeTest_moves ..)) (by decide)
  · unfold takeMarkerSegment
    split
    · exact hs.moves (as := [.rx]) ((countLane_moves ..).trans (intervalError_moves _ _ (by decide))) (by decide)
    · dsimp only
      split
      · exact hcopied.moves (as := [.rx]) ((countLane_moves ..).trans (originFault_moves _ _ _ (by decide))) (by decide)
      · split
        · exact hcopied.moves (as := [.rx]) ((countLane_moves ..).trans (originFault_moves _ _ _ (by decide))) (by decide)
        · exact hcopied.takeValid ..
  · exact hs

theorem State.OpsLawful.receiveSegment (hs : s.OpsLawful) (l : LaneIx) (bytes : List Byte) : (receiveSegment l bytes s).OpsLawful := by
  have hseen := (countLane_same s l .segmentsReceived 1).lawful hs
  unfold Machine.receiveSegment
  dsimp only
  split
  · exact hseen.segmentGoesOn ..
  · exact State.OpsLawful.segmentGoesOn (hseen.moves (as := []) ((countLane_moves ..).trans (captureEvent_moves ..)) (by decide)) ..
  · exact hseen.moves (as := [.rx])
      ((countLane_moves ..).trans ((intervalError_moves _ _ (by decide)).trans (captureEvent_moves ..))) (by decide)

theorem State.OpsLawful.lineSegment (hs : s.OpsLawful) (l : LaneIx) (bytes : List Byte) : (lineSegment l bytes s).OpsLawful := by
  unfold Machine.lineSegment
  split
  · exact hs
  · exact hs.receiveSegment l bytes

theorem State.OpsLawful.endTransmission (hs : s.OpsLawful) (l : LaneIx) : (endTransmission l s).OpsLawful := by
  have hdone := (modLane_same s l fun x => { x with flight := none }).lawful hs
  unfold Machine.endTransmission
  split
  · exact hs
  · unfold loopDelivery
    split
    · exact hdone.receiveSegment ..
    · exact hdone

end

end Sys2Proof.Machine
end

section
/-! Timeouts, placements and transmissions keep the laws of the operations (R108, R113, R118, R130, R137, R139, R142). -/

namespace Sys2Proof.Machine

/- The kernel checks the theorems one after another. -/
set_option Elab.async false

section
variable {s t : State} {l : LaneIx} {g : GroupIx}

/-! ### One lane changed -/

/-- The records of the disable sets are the same but for their loss marks. -/
def SetsKept (s t : State) : Prop :=
  ∀ g, (t.group g).disable.map DisableRec.tie = (s.group g).disable.map DisableRec.tie

theorem SetsKept.set_of (h : SetsKept s t) {g : GroupIx} {d : DisableRec} (hd : (s.group g).disable = some d) :
    ∃ d', (t.group g).disable = some d' ∧ d'.set = d.set := by
  have htie := h g
  rw [hd, Option.map_some, Option.map_eq_some_iff] at htie
  obtain ⟨d', hd', heq⟩ := htie
  simp only [DisableRec.tie, Prod.mk.injEq] at heq
  exact ⟨d', hd', heq.2.2⟩

/-- A lawful part with one lane changed, the ties kept. -/
theorem State.OpsLawful.of_lane (hs : s.OpsLawful) (l : LaneIx) (ht : OpsTies t) (hset : SetsKept s t)
    (hothers : ∀ n, n ≠ l → t.lane n = s.lane n) (hl : t.RoleLawful l) : t.OpsLawful := by
  refine t.opsLawful_iff.2 ⟨ht, fun n => ?_⟩
  by_cases hn : n = l
  · rw [hn]
    exact hl
  · have hlane := hothers n hn
    refine (hs.roles n).alike (by rw [hlane]) (by rw [hlane]) (by rw [hlane]) fun g d hd hin _ => ?_
    obtain ⟨d', hd', hset'⟩ := hset.set_of hd
    exact ⟨d', hd', by rw [hset']; exact hin⟩

theorem State.RoleLawful.of_off (hrole : (s.lane l).role = .off) (hqueue : (s.lane l).queue = [])
    (hop : ∀ p, (s.lane l).op = some p → p.kind = .remove) : s.RoleLawful l := by
  unfold State.RoleLawful
  rw [hrole]
  exact ⟨hqueue, hop⟩

theorem State.OpsLawful.queue_of_off (hs : s.OpsLawful) (hrole : (s.lane l).role = .off) : (s.lane l).queue = [] := by
  have h := hs.roles l
  unfold State.RoleLawful at h
  rw [hrole] at h
  exact h.1

/-- The operation of a lane that drains, if any, removes it. -/
theorem State.OpsLawful.op_of_draining (hs : s.OpsLawful) (hrole : (s.lane l).role = .draining g) {p : LaneOp}
    (hp : (s.lane l).op = some p) : p.kind = .remove := by
  have h := hs.roles l
  unfold State.RoleLawful at h
  rw [hrole] at h
  obtain ⟨-, ⟨q, hq, hkind, -⟩ | ⟨hnone, -⟩⟩ := h
  · rw [hp] at hq
    cases hq
    exact hkind
  · cases hnone.symm.trans hp

/-- The ending of the operation of a lane that is OFF (R139). -/
theorem State.OpsLawful.endLaneOp_off (hs : s.OpsLawful) (hrole : (s.lane l).role = .off) (o : OpOutcome) :
    (endLaneOp l o s).OpsLawful := by
  have hlane : (endLaneOp l o s).lane l = { s.lane l with op := none } := by rw [endLaneOp_lane, if_pos rfl]
  refine hs.of_lane l (hs.ties.endLaneOp l o) (fun g => by rw [endLaneOp_group]) (fun n hn => by rw [endLaneOp_lane, if_neg hn]) ?_
  refine .of_off (by rw [hlane]; exact hrole) (by rw [hlane]; exact hs.queue_of_off hrole) fun p hp => ?_
  rw [hlane] at hp
  cases hp

/-- The end of a drain (R114, R130): the lane is OFF with its queue empty. -/
theorem State.OpsLawful.drainEnds (hs : s.OpsLawful) (hrole : (s.lane l).role = .draining g) (c : RoleCause) {u : State}
    (hu : OpsAlike s u) (hroles : ∀ n, (u.lane n).role = (s.lane n).role) (hothers : ∀ n, n ≠ l → u.lane n = s.lane n)
    (hqueue : (u.lane l).queue = []) : (setRole l .off c u).OpsLawful := by
  have hties : OpsTies u := hs.ties.alike hu fun n => by
    rw [hroles]
    exact hs.ties.roleFits n
  have halike := hu.trans (setRole_alike l .off c u)
  have hlane : (setRole l .off c u).lane l = { u.lane l with role := .off, deficit := 0 } := by rw [setRole_lane, if_pos rfl]
  refine hs.of_lane l (hties.setRole c (.off u l)) halike.tie (fun n hn => by rw [setRole_lane, if_neg hn, hothers n hn]) ?_
  refine .of_off (by rw [hlane]) (by rw [hlane]; exact hqueue) fun p hp => hs.op_of_draining hrole ?_
  rw [← halike.op]
  exact hp

theorem State.OpsLawful.forceOff (hs : s.OpsLawful) (l : LaneIx) : (forceOff l s).OpsLawful := by
  unfold Machine.forceOff
  split
  · next h =>
    have hlane : ∀ n, (flush l .discardedOnForce s).lane n = if n = l then
        { s.lane l with queue := [], ctr := raiseCounter (s.lane l).ctr LaneCtr.discardedOnForce.ix (s.lane l).queue.length }
        else s.lane n := fun n => by rw [flush_eq, State.lane_modLane]
    exact hs.drainEnds h .timeout (flush_alike ..) (fun n => flush_role ..) (fun n hn => by rw [hlane, if_neg hn])
      (by rw [hlane, if_pos rfl])
  · exact hs

theorem forceOff_lane (l : LaneIx) (s : State) (n : LaneIx) :
    (forceOff l s).lane n = if n = l then (s.lane l).forced else s.lane n := by
  rw [(forceOff_emits l s).notesOnly.lane_eq, State.lane_modLane]

/-! ### Timeouts (R137, R139, R142) -/

theorem State.OpsLawful.timeoutAdd (hs : s.OpsLawful) {p : LaneOp} (hp : (s.lane l).op = some p) (hkind : p.kind = .add) :
    (timeoutAdd l s).OpsLawful := by
  have hqueue : (s.lane l).queue = [] := by
    have h := hs.roles l
    unfold State.RoleLawful at h
    cases hr : (s.lane l).role with
    | off => exact hs.queue_of_off hr
    | probation g =>
      rw [hr] at h
      exact h.1
    | active g =>
      rw [hr] at h
      cases (show (s.lane l).op = none from h).symm.trans hp
    | withdrawn g =>
      rw [hr] at h
      exact h.1
    | draining g =>
      have hrem := hs.op_of_draining hr hp
      rw [hkind] at hrem
      cases hrem
  have hlane : (Machine.timeoutAdd l s).lane l = { s.lane l with role := .off, deficit := 0, op := none } := by
    unfold Machine.timeoutAdd
    rw [endLaneOp_lane, if_pos rfl, setRole_lane, if_pos rfl]
  have he : Machine.timeoutAdd l s = endLaneOp l .timeout (Machine.setRole l .off .timeout s) := rfl
  rw [he] at hlane ⊢
  refine hs.of_lane l ((hs.ties.setRole .timeout (.off s l)).endLaneOp l .timeout) (fun g => ?_) (fun n hn => ?_) ?_
  · rw [endLaneOp_group]
    exact (setRole_alike ..).tie g
  · rw [endLaneOp_lane, if_neg hn, setRole_lane, if_neg hn]
  · refine .of_off (by rw [hlane]) (by rw [hlane]; exact hqueue) fun q hq => ?_
    rw [hlane] at hq
    cases hq

theorem State.OpsLawful.timeoutRemove (hs : s.OpsLawful) {p : LaneOp} (hp : (s.lane l).op = some p) (hkind : p.kind = .remove) :
    (timeoutRemove l s).OpsLawful := by
  refine (hs.forceOff l).endLaneOp_off ?_ .timeout
  rw [forceOff_lane, if_pos rfl, LaneState.forced]
  have h := hs.roles l
  unfold State.RoleLawful at h
  cases hr : (s.lane l).role with
  | off => exact hr
  | draining g => rfl
  | probation g =>
    rw [hr] at h
    obtain ⟨-, q, hq, hadd, -⟩ := h
    rw [hp] at hq
    cases hq
    cases hkind.symm.trans hadd
  | active g =>
    rw [hr] at h
    cases (show (s.lane l).op = none from h).symm.trans hp
  | withdrawn g =>
    rw [hr] at h
    cases h.2.symm.trans hp

theorem State.OpsLawful.timeoutDisable (hs : s.OpsLawful) (g : GroupIx) : (timeoutDisable g s).OpsLawful := by
  unfold Machine.timeoutDisable
  split
  · exact hs
  · next d hd =>
    have hforced : (allLanes.foldl (fun s l => if inSet d.set l then Machine.forceOff l s else s) s).OpsLawful := by
      refine List.foldlRecOn allLanes _ hs fun u hu n _ => ?_
      split
      · exact hu.forceOff n
      · exact hu
    have hnotes := (forceAll_emits d.set s).notesOnly
    refine completeDisable_lawful hforced .timeout ?_ fun n hn => ?_
    · rw [hnotes.group_eq, foldl_modLane]
      exact hd
    · rw [hnotes.lane_eq, foldl_modLane_lane, LaneState.forcedIn, if_pos hn, LaneState.forced]
      rcases (hs.ties.member g d n hd hn).2 with hr | hr
      · rw [hr]
        exact hr
      · rw [hr]

theorem State.OpsLawful.operationExpires (hs : s.OpsLawful) (k : SlotIx) : (operationExpires k s).OpsLawful := by
  have hpast : ∀ e, (s.passTo e).OpsLawful := fun e => (OpsSame.of_eq (t := s.passTo e) rfl rfl rfl rfl).lawful hs
  cases hb : (s.slot k).body with
  | empty => exact (operationExpires_of_not_inFlight (s := s) (k := k) (by rw [hb]; nofun)).symm ▸ hs
  | complete => exact (operationExpires_of_not_inFlight (s := s) (k := k) (by rw [hb]; nofun)).symm ▸ hs
  | inFlight op a e =>
    have howns := hs.ties.owned k op a e hb
    cases op with
    | laneAdd l =>
      obtain ⟨p, hp, -, hkind⟩ := howns
      rw [operationExpires_of_laneAdd hb]
      exact (hpast e).timeoutAdd hp hkind
    | laneRemove l =>
      obtain ⟨p, hp, -, hkind⟩ := howns
      rw [operationExpires_of_laneRemove hb]
      exact (hpast e).timeoutRemove hp hkind
    | groupDisable g =>
      rw [operationExpires_of_groupDisable hb]
      exact (hpast e).timeoutDisable g

/-! ### Placements (R108, R110, R113) -/

/-- A lane that is ACTIVE may have any queue. -/
theorem State.OpsLawful.requeue (hs : s.OpsLawful) (hrole : (s.lane l).role = .active g) {f : LaneState → LaneState}
    (hf : ∀ x, (f x).op = x.op ∧ (f x).role = x.role) : (s.modLane l f).OpsLawful := by
  have halike : OpsAlike s (s.modLane l f) := modLane_alike s l f fun x => (hf x).1
  have hroles : ∀ n, ((s.modLane l f).lane n).role = (s.lane n).role := fun n => by
    rw [State.lane_modLane]
    split
    · next e => rw [(hf _).2, e]
    · rfl
  refine hs.of_lane l (hs.ties.alike halike fun n => ?_) halike.tie (fun n hn => by rw [State.lane_modLane, if_neg hn]) ?_
  · rw [hroles]
    exact hs.ties.roleFits n
  · have h := hs.roles l
    unfold State.RoleLawful at h ⊢
    rw [hrole] at h
    rw [hroles, hrole]
    exact (halike.op l).trans h

theorem State.OpsLawful.placeOn (hs : s.OpsLawful) (hrole : (s.lane l).role = .active g) (h : GroupIx) (d : DataSeg) :
    (placeOn h l d s).OpsLawful := by
  have hqueued := hs.requeue (f := fun x => { x with queue := x.queue ++ [d], deficit := x.deficit - 1 }) hrole
    fun _ => ⟨rfl, rfl⟩
  exact (((countLane_same ..).trans (modGroup_same ..)).trans (modGroup_same ..)).lawful hqueued

theorem judgeHold_same (g : GroupIx) (s : State) : OpsSame s (judgeHold g s) := by
  rcases judgeHold_cases g s with e | e | e
  · rw [e]
    exact .refl s
  · rw [e]
    exact modGroup_same ..
  · rw [e]
    exact (modGroup_same s g fun y => { y with hold := true }).trans (modGroup_same ..)

theorem frameLeaves_same (g : GroupIx) (c : Cls) (f : TxFrame) (s : State) : OpsSame s (frameLeaves g c f s) := by
  have hstore : OpsSame s { s with storeFree := s.storeFree + f.bonded.length } := .of_eq rfl rfl rfl rfl
  rw [frameLeaves_eq]
  refine ((hstore.trans (modGroup_same _ g (fun x => x.pop c) ?_)).trans (modGroup_same ..)).trans (judgeHold_same ..)
  exact ⟨.inl (GroupState.pop_tx ..).1, (GroupState.pop_tx ..).2⟩

theorem State.OpsLawful.placeSegment (hs : s.OpsLawful) (g : GroupIx) : (placeSegment g s).OpsLawful := by
  unfold Machine.placeSegment
  split
  · exact hs
  · split
    · exact hs
    · dsimp only
      split
      · exact hs
      · next l hl =>
        have hel : (refill g s).eligible g l = true := by
          have hfound := List.find?_some hl
          exact (Bool.and_eq_true_iff.1 hfound).1
        have hplaced := (hs.moves (refill_moves (as := []) g s) (by decide)).placeOn ((State.eligible_iff ..).1 hel).1 g
        split
        · exact (frameLeaves_same ..).lawful (hplaced _)
        · exact (modGroup_same ..).lawful (hplaced _)

/-! ### Transmissions (R113, R118, R130) -/

theorem startMarker_same (l : LaneIx) (c : LaneCtr) (s : State) : OpsSame s (startMarker l c s) :=
  ((((modLane_same s l _).trans (modLane_same ..)).trans (countLane_same ..)).trans (countLane_same ..))

theorem startTest_same (l : LaneIx) (s : State) : OpsSame s (startTest l s) :=
  ((modLane_same s l _).trans (modLane_same ..)).trans (countLane_same ..)

theorem startReturned_same (l : LaneIx) (s : State) : OpsSame s (startReturned l s) := by
  unfold startReturned
  split
  · exact .refl s
  · exact ((modLane_same s l _).trans (modLane_same ..)).trans (countLane_same ..)

theorem State.dataBegun_alike (s : State) (l : LaneIx) (d : DataSeg) (rest : List DataSeg) : OpsAlike s (s.dataBegun l d rest) :=
  ((modLane_alike s l _).trans (modLane_alike _ l fun y => { y with queue := rest })).trans (countLane_same ..).toOpsAlike

theorem State.dataBegun_role (s : State) (l : LaneIx) (d : DataSeg) (rest : List DataSeg) (n : LaneIx) :
    ((s.dataBegun l d rest).lane n).role = (s.lane n).role := by
  by_cases h : n = l
  · rw [h]
    exact (s.dataBegun_lane l d rest).1
  · rw [State.dataBegun_other s l d rest h]

theorem State.OpsLawful.startData (hs : s.OpsLawful) (l : LaneIx) : (startData l s).OpsLawful := by
  cases hq : (s.lane l).queue with
  | nil =>
    unfold Machine.startData
    rw [hq]
    exact hs
  | cons d rest =>
    have halike := s.dataBegun_alike l d rest
    have hroles := s.dataBegun_role l d rest
    have hqueue := (s.dataBegun_lane l d rest).2
    have hothers := fun n hn => s.dataBegun_other l d rest (n := n) hn
    rw [startData_eq hq]
    generalize s.dataBegun l d rest = u at halike hroles hqueue hothers ⊢
    have hlawful : u.RoleLawful l → u.OpsLawful := hs.of_lane l
      (hs.ties.alike halike fun n => by rw [hroles]; exact hs.ties.roleFits n) halike.tie hothers
    have h := hs.roles l
    unfold State.RoleLawful at h hlawful
    rw [hroles, hqueue] at hlawful
    cases hr : (s.lane l).role with
    | off =>
      rw [hr] at h
      cases h.1.symm.trans hq
    | probation g =>
      rw [hr] at h
      cases h.1.symm.trans hq
    | withdrawn g =>
      rw [hr] at h
      cases h.1.symm.trans hq
    | active g =>
      rw [hr] at h hlawful
      rw [drainIfEmpty_of_not (.inr (by rw [hroles, hr]; nofun))]
      exact hlawful ((halike.op l).trans h)
    | draining g =>
      by_cases hrest : rest = []
      · rw [drainIfEmpty_of_draining ((hroles l).trans hr) (hqueue.trans hrest)]
        exact (hs.drainEnds hr .drained halike hroles hothers (hqueue.trans hrest)).checkDisableOf l
      · rw [drainIfEmpty_of_not (.inl (by rw [hqueue]; exact hrest))]
        rw [hr] at h hlawful
        refine hlawful ⟨hrest, ?_⟩
        rw [halike.op]
        refine h.2.imp_right fun ⟨hnone, d', hd', hin⟩ => ⟨hnone, ?_⟩
        obtain ⟨d2, hd2, hset⟩ := halike.set_of hd'
        exact ⟨d2, hd2, by rw [hset]; exact hin⟩

theorem State.OpsLawful.startTransmission (hs : s.OpsLawful) (l : LaneIx) : (startTransmission l s).OpsLawful := by
  unfold Machine.startTransmission
  split
  · exact (startMarker_same ..).lawful hs
  · exact (startMarker_same ..).lawful hs
  · exact hs.startData l
  · exact (startTest_same ..).lawful hs
  · exact (startReturned_same ..).lawful hs
  · exact hs

end

end Sys2Proof.Machine
end

section
/-! The requests that begin long operations keep the laws of the operations (R136, R137, R139, R141, R156, R158, R160). -/

namespace Sys2Proof.Machine

/- The kernel checks the theorems one after another. -/
set_option Elab.async false

theorem ite_eq_mul_toNat (b : Bool) (n : Nat) : (if b = true then n else 0) = n * b.toNat := by
  cases b <;> simp

/-- The lanes of a set given by a test. -/
theorem inSet_laneSet (p : LaneIx → Bool) (l : LaneIx) : inSet (laneSet p) l = p l := by
  have hle : ∀ m, (p m).toNat ≤ 1 := fun m => Bool.toNat_le _
  have hsum : (allLanes.map fun m => if p m then 2 ^ m.val else 0).sum =
      (p 0).toNat + 2 * (p 1).toNat + 4 * (p 2).toNat + 8 * (p 3).toNat + 16 * (p 4).toNat + 32 * (p 5).toNat +
        64 * (p 6).toNat + 128 * (p 7).toNat := by
    simp only [ite_eq_mul_toNat, allLanes, List.map_cons, List.map_nil, List.sum_cons, List.sum_nil]
    simp only [show ((0 : LaneIx).val = 0) from rfl, show ((1 : LaneIx).val = 1) from rfl, show ((2 : LaneIx).val = 2) from rfl,
      show ((3 : LaneIx).val = 3) from rfl, show ((4 : LaneIx).val = 4) from rfl, show ((5 : LaneIx).val = 5) from rfl,
      show ((6 : LaneIx).val = 6) from rfl, show ((7 : LaneIx).val = 7) from rfl]
    omega
  have hbit : ∀ m, p m = decide ((p m).toNat = 1) := fun m => by cases p m <;> rfl
  have h0 := hle 0
  have h1 := hle 1
  have h2 := hle 2
  have h3 := hle 3
  have h4 := hle 4
  have h5 := hle 5
  have h6 := hle 6
  have h7 := hle 7
  unfold inSet laneSet
  rw [hsum, hbit l, BitVec.getLsbD_ofNat, decide_eq_true l.isLt, Bool.true_and, Nat.testBit_eq_decide_div_mod_eq]
  refine decide_eq_decide.2 ?_
  fin_cases l <;> simp only [Fin.zero_eta, Fin.mk_one, Fin.reduceFinMk, Fin.isValue] <;> omega

section
variable {s t : State} {l : LaneIx} {g : GroupIx} {k : SlotIx}

/-! ### GROUP-ENABLE (R156) -/

/-- `t` is `s` with the disabled group `g` cutting again. -/
structure GroupEnabledAgain (g : GroupIx) (s t : State) : Prop where
  op : ∀ n, (t.lane n).op = (s.lane n).op
  role : ∀ n, (t.lane n).role = (s.lane n).role
  queue : ∀ n, (t.lane n).queue = (s.lane n).queue
  slot : ∀ j, t.slot j = s.slot j
  order : t.completionOrder = s.completionOrder
  tx : (t.group g).tx = .forming
  group : ∀ h, h ≠ g → t.group h = s.group h
  disable : ∀ h, (t.group h).disable = (s.group h).disable

theorem OpsTies.enabled (hs : OpsTies s) (hg : (s.group g).tx = .disabled) (h : GroupEnabledAgain g s t) : OpsTies t := by
  have htx : ∀ i, (t.group i).tx = if i = g then .forming else (s.group i).tx := fun i => by
    split
    · next e =>
      rw [e]
      exact h.tx
    · next e => rw [h.group i e]
  refine { laneSlot := fun n q hq => ?_, setSlot := fun i e he => ?_, owned := fun j op a e hb => ?_, disabling := fun i => ?_,
           member := fun i e n he hin => ?_, live := fun n i hi => ?_, named := fun n i e hi he => ?_, opGroup := fun n q hq => ?_,
           nodup := by rw [h.order]; exact hs.nodup, complete := fun j => by rw [h.order, h.slot]; exact hs.complete j }
  · rw [h.op] at hq
    exact State.holdsOp_of_eq (hs.laneSlot n q hq) (h.slot _)
  · rw [h.disable] at he
    exact State.holdsOp_of_eq (hs.setSlot i e he) (h.slot _)
  · have howns := hs.owned j op a e (by rw [← h.slot]; exact hb)
    cases op with
    | laneAdd n =>
      obtain ⟨q, hq, hrest⟩ := howns
      exact ⟨q, (h.op n).trans hq, hrest⟩
    | laneRemove n =>
      obtain ⟨q, hq, hrest⟩ := howns
      exact ⟨q, (h.op n).trans hq, hrest⟩
    | groupDisable i =>
      obtain ⟨e', he', hj⟩ := howns
      exact ⟨e', (h.disable i).trans he', hj⟩
  · rw [h.disable, htx, hs.disabling]
    split
    · next e =>
      rw [e, hg]
      decide
    · rfl
  · rw [h.disable] at he
    rw [h.op, h.role]
    exact hs.member i e n he hin
  · rw [h.role] at hi
    rw [htx]
    split
    · decide
    · exact hs.live n i hi
  · rw [h.role] at hi
    rw [h.disable] at he
    exact hs.named n i e hi he
  · rw [h.op] at hq
    rw [h.disable]
    exact hs.opGroup n q hq

theorem enableGroup_enabled (g : GroupIx) (s : State) : GroupEnabledAgain g s (enableGroup g s) := by
  have hn := (setTx_emits g .forming (s.modGroup g fun x => { x with nextSeq := 0, rrPos := 0 })).notesOnly
  have hm := (setCtx_emits g .resync (setTx g .forming (s.modGroup g fun x => { x with nextSeq := 0, rrPos := 0 }))).notesOnly
  have hlane : ∀ n, (enableGroup g s).lane n = s.lane n := fun n => by
    unfold enableGroup
    rw [hm.lane_eq, State.lane_modGroup, hn.lane_eq, State.lane_modGroup, State.lane_modGroup]
  have hgroup : ∀ h, (enableGroup g s).group h =
      if h = g then { s.group g with nextSeq := 0, rrPos := 0, tx := .forming, ctx := .resync } else s.group h := fun h => by
    unfold enableGroup
    rw [hm.group_eq]
    simp only [State.group_modGroup, hn.group_eq, if_true]
    split <;> rfl
  have hslot : ∀ j, (enableGroup g s).slot j = s.slot j := fun j => by
    unfold enableGroup
    rw [hm.slot_eq]
    exact hn.slot_eq j
  have horder : (enableGroup g s).completionOrder = s.completionOrder := by
    unfold enableGroup
    rw [hm.completionOrder_eq]
    exact hn.completionOrder_eq
  refine { op := fun n => by rw [hlane], role := fun n => by rw [hlane], queue := fun n => by rw [hlane], slot := hslot,
           order := horder, tx := by rw [hgroup, if_pos rfl], group := fun h hne => by rw [hgroup, if_neg hne], disable := fun h => ?_ }
  rw [hgroup]
  split
  · next e => rw [e]
  · rfl

theorem State.OpsLawful.enableGroup (hs : s.OpsLawful) (hg : (s.group g).tx = .disabled) : (enableGroup g s).OpsLawful := by
  have h := enableGroup_enabled g s
  exact (State.opsLawful_iff _).2 ⟨hs.ties.enabled hg h, fun n => (hs.roles n).alike (h.role n) (h.queue n) (h.op n)
    fun i d hd hin _ => ⟨d, (h.disable i).trans hd, hin⟩⟩

/-! ### Slots chosen (R160) -/

/-- A slot chosen holds no operation in flight. -/
theorem OpsTies.chosen (hs : OpsTies s) (hk : s.chooseSlot = some k) : (s.slot k).body.isInFlight = false := by
  rcases chooseSlot_cases hk with h | ⟨-, h⟩
  · rw [h]
    rfl
  · exact ((SlotBody.isComplete_iff _).1 ((hs.complete k).1 (List.mem_of_mem_head? h))).2

theorem takeSlot_taken (k : SlotIx) (op : OpKind) (s : State) : SlotTaken k op s (takeSlot k op s) where
  slot j hj := by rw [takeSlot_slot, if_neg hj]
  holds := ⟨rfl, _, _, congrArg Slot.body ((takeSlot_slot k k op s).trans (if_pos rfl))⟩
  order := rfl

theorem SlotTaken.of_slots {op : OpKind} {u : State} (h : SlotTaken k op s t) (hslot : ∀ j, u.slot j = t.slot j)
    (horder : u.completionOrder = t.completionOrder) : SlotTaken k op s u where
  slot j hj := (hslot j).trans (h.slot j hj)
  holds := by
    rw [hslot]
    exact State.holdsOp_of_eq h.holds (hslot k)
  order := horder.trans h.order

theorem State.inDisableSet_eq_false (h : s.inDisableSet l = false) {d : DisableRec} (hd : (s.group g).disable = some d) :
    inSet d.set l = false := by
  have hg := (List.any_eq_false.1 h) g (mem_allGroups g)
  rw [hd] at hg
  exact Bool.eq_false_of_not_eq_true hg

theorem opGiven_given (l : LaneIx) (k : SlotIx) (kind : LaneOpKind) (g : GroupIx) (s : State) :
    LaneOpGiven l ⟨kind, k, (s.slot k).gen + 1, g⟩ s (s.opGiven l k kind g) where
  toSlotTaken := (takeSlot_taken k (kind.on l) s).of_slots (fun _ => rfl) rfl
  gen := takeSlot_gen k (kind.on l) s
  op n := by
    unfold State.opGiven
    rw [State.lane_modLane]
    split <;> rfl
  role n := by
    unfold State.opGiven
    rw [State.lane_modLane]
    split
    · next e => rw [e]; rfl
    · rfl
  group _ := rfl

theorem opGiven_other (k : SlotIx) (kind : LaneOpKind) (g : GroupIx) (s : State) {n : LaneIx} (hn : n ≠ l) :
    (s.opGiven l k kind g).lane n = s.lane n := by
  unfold State.opGiven
  rw [State.lane_modLane, if_neg hn]
  rfl

/-- A group whose disable is in flight places no segment. -/
theorem OpsTies.disable_of_cutting (hs : OpsTies s) (h : (s.group g).tx.cutting = true) : (s.group g).disable = none := by
  refine Option.not_isSome_iff_eq_none.1 fun hsome => ?_
  rw [(hs.disabling g).1 hsome] at h
  cases h

/-! ### LANE-ADD (R137, R158) -/

theorem State.OpsLawful.acceptAdd (hs : s.OpsLawful) (hcut : (s.group g).tx.cutting = true) (hrole : (s.lane l).role = .off)
    (hop : (s.lane l).op = none) (hset : s.inDisableSet l = false) (hk : s.chooseSlot = some k) :
    (acceptAdd g l k s).OpsLawful := by
  have hgiven := opGiven_given l k .add g s
  have hsets : ∀ h d, ((s.opGiven l k .add g).group h).disable = some d → inSet d.set l = false := fun h d hd =>
    State.inDisableSet_eq_false hset (by rw [← hgiven.group h]; exact hd)
  have hnone := hs.ties.disable_of_cutting hcut
  have hties := hs.ties.laneOpGiven (hs.ties.chosen hk) hop (fun h d hd => State.inDisableSet_eq_false hset hd) hnone hgiven
  have hlane : (setRole l (.probation g) .add (s.opGiven l k .add g)).lane l =
      { s.lane l with role := .probation g, deficit := 0, op := some ⟨.add, k, (s.slot k).gen + 1, g⟩ } := by
    rw [setRole_lane, if_pos rfl, State.opGiven_lane]
  rw [acceptAdd_eq]
  refine hs.of_lane l (hties.setRole .add ⟨fun h d hd hin => ?_, fun h hg => ?_, fun h d hg hd => ?_⟩) (fun h => ?_)
    (fun n hn => by rw [setRole_lane, if_neg hn, opGiven_other _ _ _ _ hn]) ?_
  · rw [hsets h d hd] at hin
    cases hin
  · obtain rfl := Option.some.inj hg
    rw [hgiven.group]
    intro e
    rw [e] at hcut
    cases hcut
  · obtain rfl := Option.some.inj hg
    rw [hgiven.group, hnone] at hd
    cases hd
  · rw [(setRole_alike ..).tie, hgiven.group]
  · unfold State.RoleLawful
    rw [hlane]
    exact ⟨hs.queue_of_off hrole, _, rfl, rfl, rfl⟩

theorem State.OpsLawful.reqLaneAdd (hs : s.OpsLawful) (group lane : Byte) : (reqLaneAdd group lane s).part.OpsLawful := by
  unfold Machine.reqLaneAdd
  split
  · next g l _ _ =>
    split_ifs with hcut hservice hrole hassoc hengaged
    · exact hs
    · exact hs
    · exact hs
    · exact hs
    · exact hs
    · split
      · exact hs
      · next k hk =>
        obtain ⟨hop, hset⟩ := Bool.or_eq_false_iff.1 (Bool.eq_false_of_not_eq_true hengaged)
        exact hs.acceptAdd (by simpa using hcut) (not_not.1 hrole) (Option.isNone_iff_eq_none.1 (Option.isSome_eq_false_iff.1 hop))
          hset hk
  · exact hs

/-! ### LANE-REMOVE (R139, R158) -/

/-- The role a removed lane takes: OFF, or DRAINING while segments wait in its queue. -/
theorem removeRole_eq (hq : (s.lane l).queue = [] ∨ (s.lane l).role = .active g)
    (hr : (s.lane l).role = .active g ∨ (s.lane l).role = .withdrawn g ∨ (s.lane l).role = .probation g) :
    ∃ r, removeRole l s = setRole l r .remove s ∧
      ((r = .off ∧ (s.lane l).queue = []) ∨ (r = .draining g ∧ (s.lane l).queue ≠ [])) := by
  unfold removeRole
  rcases hr with hr | hr | hr <;> rw [hr] at hq ⊢
  · refine ⟨_, rfl, ?_⟩
    unfold State.drainRole
    by_cases h : (s.lane l).queue = []
    · exact .inl ⟨if_pos (by rw [h]; rfl), h⟩
    · exact .inr ⟨if_neg (by rwa [List.isEmpty_iff]), h⟩
  · exact ⟨_, rfl, .inl ⟨rfl, hq.resolve_right nofun⟩⟩
  · exact ⟨_, rfl, .inl ⟨rfl, hq.resolve_right nofun⟩⟩

/-- The roles from which a lane can be removed. -/
theorem State.RoleLawful.removable (h : s.RoleLawful l) (hset : ∀ i d, (s.group i).disable = some d → inSet d.set l = false)
    (hremoving : s.removing l = false) (hg : (s.lane l).role.group? = some g) :
    ((s.lane l).queue = [] ∨ (s.lane l).role = .active g) ∧
      ((s.lane l).role = .active g ∨ (s.lane l).role = .withdrawn g ∨ (s.lane l).role = .probation g) := by
  unfold State.RoleLawful at h
  cases hr : (s.lane l).role <;> rw [hr] at h hg
  case off => cases hg
  case probation i =>
    obtain rfl := Option.some.inj hg
    exact ⟨.inl h.1, .inr (.inr rfl)⟩
  case active i =>
    obtain rfl := Option.some.inj hg
    exact ⟨.inr rfl, .inl rfl⟩
  case withdrawn i =>
    obtain rfl := Option.some.inj hg
    exact ⟨.inl h.1, .inr (.inl rfl)⟩
  case draining i =>
    obtain ⟨-, ⟨p, hp, hkind, -⟩ | ⟨-, d, hd, hin⟩⟩ := h
    · unfold State.removing at hremoving
      rw [hp] at hremoving
      exact absurd hkind (of_decide_eq_false hremoving)
    · rw [hset i d hd] at hin
      cases hin

theorem State.OpsLawful.acceptRemove (hs : s.OpsLawful) (hset : s.inDisableSet l = false)
    (hremoving : s.removing l = false) (hg : (s.lane l).role.group? = some g)
    (hk : (endLaneOp l .aborted s).chooseSlot = some k) : (acceptRemove g l k (endLaneOp l .aborted s)).OpsLawful := by
  have hsets := fun i d (hd : (s.group i).disable = some d) => State.inDisableSet_eq_false hset hd
  obtain ⟨hqueue, hrole⟩ := (hs.roles l).removable hsets hremoving hg
  have hnone : (s.group g).disable = none := Option.eq_none_iff_forall_ne_some.2 fun d hd => by
    have hin := hs.ties.named l g d hg hd
    rw [hsets g d hd] at hin
    cases hin
  have hended := hs.ties.endLaneOp l .aborted
  have hlane := fun n => endLaneOp_lane l .aborted s n
  have hgroup := fun i => endLaneOp_group l .aborted s i
  generalize Machine.endLaneOp l .aborted s = v at *
  have hself : v.lane l = { s.lane l with op := none } := (hlane l).trans (if_pos rfl)
  have hgiven := opGiven_given l k .remove g v
  have hties := hended.laneOpGiven (hended.chosen hk) (by rw [hself]) (fun i d hd => hsets i d (by rw [← hgroup]; exact hd))
    (by rw [hgroup]; exact hnone) hgiven
  have hgroups : ∀ i, (v.opGiven l k .remove g).group i = s.group i := fun i => (hgiven.group i).trans (hgroup i)
  have hwlane : (v.opGiven l k .remove g).lane l = { s.lane l with op := some ⟨.remove, k, (v.slot k).gen + 1, g⟩ } := by
    rw [State.opGiven_lane, hself]
  have hothers : ∀ n, n ≠ l → (v.opGiven l k .remove g).lane n = s.lane n := fun n hn => by
    rw [opGiven_other _ _ _ _ hn, hlane, if_neg hn]
  rw [acceptRemove_eq]
  generalize v.opGiven l k .remove g = w at *
  obtain ⟨r, hremove, hr⟩ := removeRole_eq (s := w) (l := l) (g := g) (by rw [hwlane]; exact hqueue) (by rw [hwlane]; exact hrole)
  rw [hremove]
  have hfit : RoleFits w l r := by
    rcases hr with ⟨rfl, -⟩ | ⟨rfl, -⟩
    · exact .off w l
    · refine hties.fits_of_group (fun i d hd => hsets i d (by rw [← hgroups]; exact hd)) ?_
      rw [hwlane]
      exact hg.symm
  have hfinal : (Machine.setRole l r .remove w).lane l =
      { s.lane l with role := r, deficit := 0, op := some ⟨.remove, k, (v.slot k).gen + 1, g⟩ } := by
    rw [setRole_lane, if_pos rfl, hwlane]
  refine hs.of_lane l (hties.setRole .remove hfit) (fun i => by rw [(setRole_alike ..).tie, hgroups])
    (fun n hn => by rw [setRole_lane, if_neg hn, hothers n hn]) ?_
  unfold State.RoleLawful
  rw [hwlane] at hr
  rw [hfinal]
  rcases hr with ⟨rfl, hq⟩ | ⟨rfl, hq⟩
  · exact ⟨hq, fun p hp => by cases hp; rfl⟩
  · exact ⟨hq, .inl ⟨_, rfl, rfl, rfl⟩⟩

theorem State.OpsLawful.reqLaneRemove (hs : s.OpsLawful) (lane : Byte) : (reqLaneRemove lane s).part.OpsLawful := by
  unfold Machine.reqLaneRemove
  split
  · exact hs
  · next l _ =>
    split
    · exact hs
    · next hset =>
      split
      · exact hs
      · next g hg =>
        split
        · exact hs
        · next hremoving =>
          dsimp only
          split
          · exact hs
          · next k hk =>
            exact hs.acceptRemove (Bool.eq_false_of_not_eq_true hset) (Bool.eq_false_of_not_eq_true hremoving) hg hk

end

end Sys2Proof.Machine
end

section
/-! GROUP-DISABLE keeps the laws of the operations (R141, R142, R158). -/

namespace Sys2Proof.Machine

/- The kernel checks the theorems one after another. -/
set_option Elab.async false

section
variable {s : State} {l : LaneIx} {g : GroupIx} {k : SlotIx}

theorem OpsTies.abortOps (hs : OpsTies s) (g : GroupIx) : OpsTies (abortOps g s) :=
  foldl_keeps (P := OpsTies) (f := fun s l => if s.opOn g l then Machine.endLaneOp l .aborted s else s) allLanes hs
    fun u l _ hu => by
      split
      · exact hu.endLaneOp l .aborted
      · exact hu

/-! ### The lanes of a disabled group -/

/-- A lane as a GROUP-DISABLE of `g` leaves it: its operation for `g` aborted, its role changed. -/
def LaneState.leaving (g : GroupIx) (x : LaneState) : LaneState := (x.aborted g).disableRole g

theorem LaneState.leaving_of_not {x : LaneState} (h : x.role.group? ≠ some g) : x.leaving g = x.aborted g := by
  unfold LaneState.leaving LaneState.disableRole
  exact if_pos h

theorem LaneState.leaving_op (g : GroupIx) (x : LaneState) : (x.leaving g).op = (x.aborted g).op := by
  unfold LaneState.leaving
  rw [LaneState.disableRole_aborted]
  rfl

theorem LaneState.leaving_queue (g : GroupIx) (x : LaneState) : (x.leaving g).queue = x.queue := by
  unfold LaneState.leaving
  rw [LaneState.disableRole_aborted]

theorem LaneState.aborted_op_of_some {x : LaneState} {p : LaneOp} (hp : x.op = some p) (hg : p.group = g) : (x.aborted g).op = none := by
  unfold LaneState.aborted LaneState.actsFor
  rw [hp]
  exact if_pos (decide_eq_true hg)

theorem LaneState.aborted_op_of_none {x : LaneState} (hp : x.op = none) : (x.aborted g).op = none := by
  unfold LaneState.aborted
  rw [hp]
  exact ite_self _

theorem LaneState.aborted_op_of_ne {x : LaneState} {p : LaneOp} (hp : x.op = some p) (hg : p.group ≠ g) :
    (x.aborted g).op = some p := by
  unfold LaneState.aborted LaneState.actsFor
  rw [hp]
  exact if_neg (by simpa using hg)

theorem LaneState.aborted_op_eq_some {x : LaneState} {p : LaneOp} (h : (x.aborted g).op = some p) :
    x.op = some p ∧ p.group ≠ g := by
  cases hx : x.op with
  | none => rw [LaneState.aborted_op_of_none hx] at h; cases h
  | some q =>
    by_cases hq : q.group = g
    · rw [LaneState.aborted_op_of_some hx hq] at h
      cases h
    · rw [LaneState.aborted_op_of_ne hx hq] at h
      obtain rfl := Option.some.inj h
      exact ⟨rfl, hq⟩

/-- The operation of a lane that names `g` acts for `g`. -/
theorem State.RoleLawful.aborted_op (h : s.RoleLawful l) (hg : (s.lane l).role.group? = some g) :
    ((s.lane l).aborted g).op = none := by
  unfold State.RoleLawful at h
  cases hr : (s.lane l).role <;> rw [hr] at h hg
  case off => cases hg
  case probation i =>
    obtain rfl := Option.some.inj hg
    obtain ⟨-, p, hp, -, hpg⟩ := h
    exact LaneState.aborted_op_of_some hp hpg
  case active i => exact LaneState.aborted_op_of_none h
  case withdrawn i => exact LaneState.aborted_op_of_none h.2
  case draining i =>
    obtain rfl := Option.some.inj hg
    obtain ⟨-, ⟨p, hp, -, hpg⟩ | ⟨hnone, -⟩⟩ := h
    · exact LaneState.aborted_op_of_some hp hpg
    · exact LaneState.aborted_op_of_none hnone

/-- A lane that names `g` is OFF once its queue is empty, and drains until then. -/
theorem State.RoleLawful.leaving_role (h : s.RoleLawful l) (hg : (s.lane l).role.group? = some g) :
    (((s.lane l).leaving g).role = .off ∧ (s.lane l).queue = []) ∨
      (((s.lane l).leaving g).role = .draining g ∧ (s.lane l).queue ≠ []) := by
  unfold LaneState.leaving
  rw [LaneState.disableRole_aborted]
  unfold State.RoleLawful at h
  dsimp only
  cases hr : (s.lane l).role <;> rw [hr] at h hg
  case off => cases hg
  case probation i =>
    obtain rfl := Option.some.inj hg
    exact .inl ⟨if_pos rfl, h.1⟩
  case withdrawn i =>
    obtain rfl := Option.some.inj hg
    exact .inl ⟨if_pos rfl, h.1⟩
  case draining i =>
    obtain rfl := Option.some.inj hg
    exact .inr ⟨rfl, h.1⟩
  case active i =>
    obtain rfl := Option.some.inj hg
    dsimp only
    rw [if_pos rfl]
    by_cases hq : (s.lane l).queue = []
    · exact .inl ⟨if_pos hq, hq⟩
    · exact .inr ⟨if_neg hq, hq⟩

/-- The lanes of the disable set: those that name the group, and those OFF that are being removed from it. -/
theorem State.OpsLawful.mem_disableSet (hs : s.OpsLawful) (h : inSet (s.disableSet g) l = true) :
    (s.lane l).role.group? = some g ∨
      ((s.lane l).role = .off ∧ (s.lane l).op ≠ none ∧ ((s.lane l).aborted g).op = none) := by
  unfold State.disableSet at h
  rw [inSet_laneSet, Bool.or_eq_true, decide_eq_true_eq, Bool.and_eq_true] at h
  rcases h with h | ⟨hon, hrem⟩
  · exact .inl h
  obtain ⟨p, hp, hpg⟩ := ((s.lane l).actsFor_iff g).1 hon
  have hkind : p.kind = .remove := by
    unfold State.removing at hrem
    rw [hp] at hrem
    exact of_decide_eq_true hrem
  have hrole := hs.roles l
  unfold State.RoleLawful at hrole
  cases hr : (s.lane l).role <;> rw [hr] at hrole
  case off => exact .inr ⟨rfl, by rw [hp]; nofun, LaneState.aborted_op_of_some hp hpg⟩
  case probation i =>
    obtain ⟨-, q, hq, hadd, -⟩ := hrole
    cases hp.symm.trans hq
    cases hkind.symm.trans hadd
  case active i => cases hp.symm.trans hrole
  case withdrawn i => cases hp.symm.trans hrole.2
  case draining i =>
    obtain ⟨-, ⟨q, hq, -, hqi⟩ | ⟨hnone, -⟩⟩ := hrole
    · cases hp.symm.trans hq
      exact .inl (congrArg some (hqi.symm.trans hpg))
    · cases hp.symm.trans hnone

theorem State.mem_disableSet_of_role (h : (s.lane l).role.group? = some g) : inSet (s.disableSet g) l = true := by
  unfold State.disableSet
  rw [inSet_laneSet, decide_eq_true h, Bool.true_or]

/-! ### The request accepted -/

/-- `t` is `s` with a GROUP-DISABLE of `g` taken, its operations aborted, its roles changed. -/
structure DisableTaken (g : GroupIx) (d : DisableRec) (s t : State) : Prop where
  given : ∃ v, OpsTies v ∧ (v.slot d.slot).body.isInFlight = false ∧ (∀ n, v.lane n = (s.lane n).aborted g) ∧
    (∀ h, v.group h = s.group h) ∧ DisableGiven g d v t
  set : d.set = s.disableSet g
  lane : ∀ n, t.lane n = (s.lane n).leaving g

theorem State.OpsLawful.disableTaken_ties (hs : s.OpsLawful) {t : State} {d : DisableRec} (hnone : (s.group g).disable = none)
    (h : DisableTaken g d s t) : OpsTies t := by
  obtain ⟨⟨v, hv, hk, hlane, hgroup, hgiven⟩, hset, htlane⟩ := h
  have hnot : ∀ n, inSet d.set n = false → (s.lane n).role.group? ≠ some g := fun n hn hg => by
    rw [hset, State.mem_disableSet_of_role hg] at hn
    cases hn
  refine hv.disableGiven hk (by rw [hgroup]; exact hnone) (fun n p hp => ?_) (fun n hn => ?_) (fun n hn => ?_) (fun n hn => ?_)
    (fun n hn i e he hin => ?_) hgiven
  · rw [hlane] at hp
    exact (LaneState.aborted_op_eq_some hp).2
  · rw [hset] at hn
    rw [hlane, htlane]
    rcases hs.mem_disableSet hn with hg | ⟨hoff, -, hop⟩
    · exact ⟨(hs.roles n).aborted_op hg, ((hs.roles n).leaving_role hg).imp And.left And.left⟩
    · refine ⟨hop, .inl ?_⟩
      rw [LaneState.leaving_of_not (by rw [hoff]; nofun)]
      exact hoff
  · refine Bool.of_not_eq_false fun hin => ?_
    rw [htlane, LaneState.leaving_of_not (hnot n hin)] at hn
    exact hnot n hin hn
  · rw [htlane, hlane, LaneState.leaving_of_not (hnot n hn)]
  · rw [hgroup] at he
    rw [hset] at hn
    obtain ⟨hop, hrole⟩ := hs.ties.member i e n he hin
    rcases hs.mem_disableSet hn with hg | ⟨-, hne, -⟩
    · rcases hrole with hr | hr <;> rw [hr] at hg
      · cases hg
      · obtain rfl := Option.some.inj hg
        cases hnone.symm.trans he
    · exact absurd hop hne

theorem State.OpsLawful.disableTaken_role (hs : s.OpsLawful) {t : State} {d : DisableRec} (h : DisableTaken g d s t) (n : LaneIx) :
    t.RoleLawful n := by
  obtain ⟨⟨v, -, -, -, hgroup, hgiven⟩, hset, hlane⟩ := h
  have hrole := hs.roles n
  by_cases hg : (s.lane n).role.group? = some g
  · have hop : (t.lane n).op = none := by rw [hlane, LaneState.leaving_op, hrole.aborted_op hg]
    unfold State.RoleLawful
    rcases hrole.leaving_role hg with ⟨hr, hq⟩ | ⟨hr, hq⟩
    · rw [hlane, hr, ← hlane, hop, hlane, LaneState.leaving_queue]
      exact ⟨hq, nofun⟩
    · rw [hlane, hr, ← hlane, hop, hlane, LaneState.leaving_queue]
      exact ⟨hq, .inr ⟨rfl, d, hgiven.disable, by rw [hset]; exact State.mem_disableSet_of_role hg⟩⟩
  · have hl : t.lane n = (s.lane n).aborted g := by rw [hlane, LaneState.leaving_of_not hg]
    have hr : (t.lane n).role = (s.lane n).role := by rw [hl]; rfl
    have hq : (t.lane n).queue = (s.lane n).queue := by rw [hl]; rfl
    have hne : ∀ {i}, (s.lane n).role.group? = some i → i ≠ g := fun hi e => hg (e ▸ hi)
    have hfree : (s.lane n).op = none → (t.lane n).op = none := fun h => by rw [hl, LaneState.aborted_op_of_none h]
    have hkept : ∀ {p : LaneOp}, (s.lane n).op = some p → p.group ≠ g → (t.lane n).op = some p := fun hp hpg => by
      rw [hl, LaneState.aborted_op_of_ne hp hpg]
    unfold State.RoleLawful at hrole ⊢
    rw [hr, hq]
    cases hs' : (s.lane n).role <;> rw [hs'] at hrole hne
    case off =>
      refine ⟨hrole.1, fun p hp => hrole.2 p ?_⟩
      rw [hl] at hp
      exact (LaneState.aborted_op_eq_some hp).1
    case probation i =>
      obtain ⟨hempty, p, hp, hadd, hi⟩ := hrole
      exact ⟨hempty, p, hkept hp (hi ▸ hne rfl), hadd, hi⟩
    case active i => exact hfree hrole
    case withdrawn i => exact ⟨hrole.1, hfree hrole.2⟩
    case draining i =>
      obtain ⟨hwaits, ⟨p, hp, hrem, hi⟩ | ⟨hop, e, he, hin⟩⟩ := hrole
      · exact ⟨hwaits, .inl ⟨p, hkept hp (hi ▸ hne rfl), hrem, hi⟩⟩
      · refine ⟨hwaits, .inr ⟨hfree hop, e, ?_, hin⟩⟩
        rw [hgiven.group i (hne rfl), hgroup]
        exact he

theorem State.OpsLawful.disableTaken (hs : s.OpsLawful) {t : State} {d : DisableRec} (hnone : (s.group g).disable = none)
    (h : DisableTaken g d s t) : t.OpsLawful :=
  t.opsLawful_iff.2 ⟨hs.disableTaken_ties hnone h, hs.disableTaken_role h⟩

theorem disableTaken_notes {t : State} (hs : s.OpsLawful) (hk : (abortOps g s).chooseSlot = some k)
    (hn : NotesOnly ((abortOps g s).disableBegun g (s.disableSet g) k) t) :
    DisableTaken g ((abortOps g s).disableRec k (s.disableSet g)) s t := by
  have hties := hs.ties.abortOps g
  have hlane := abortOps_lane g s
  have hgroup := abortOps_group g s
  generalize abortOps g s = v at *
  have hd := v.disableTaken_discards g (s.disableSet g) k
  obtain ⟨hold, ctr, hdis⟩ := hd.group
  have htlane : ∀ n, t.lane n = (s.lane n).leaving g := fun n => by
    rw [hn.lane_eq, State.disableBegun_lane, hlane]
    rfl
  have hslot : ∀ j, t.slot j = (takeSlot k (.groupDisable g) v).slot j := fun j => by
    rw [hn.slot_eq, State.disableBegun_slot]
  have horder : t.completionOrder = (takeSlot k (.groupDisable g) v).completionOrder := by
    obtain ⟨lanes, e⟩ := v.disableBegun_rest g (s.disableSet g) k
    rw [hn.completionOrder_eq, e]
    exact hd.order
  have htgroup : ∀ h, t.group h = (v.disableTaken g (s.disableSet g) k).group h := fun h => by
    rw [hn.group_eq, State.disableBegun_group]
  refine { given := ⟨v, hties, hties.chosen hk, hlane, hgroup, ?_⟩, set := rfl, lane := htlane }
  refine { toSlotTaken := (takeSlot_taken k (.groupDisable g) v).of_slots hslot horder, gen := ?_, op := fun n => ?_, disable := ?_,
           tx := ?_, group := fun h hne => ?_ }
  · exact (congrArg Slot.gen (hslot k)).trans (takeSlot_gen k _ v)
  · rw [htlane, LaneState.leaving_op, hlane]
  · rw [htgroup, hdis]
    rfl
  · rw [htgroup, hdis]
    rfl
  · rw [htgroup, hd.other h hne]
    rfl

theorem State.OpsLawful.acceptDisable (hs : s.OpsLawful) (hcut : (s.group g).tx.cutting = true)
    (hk : (abortOps g s).chooseSlot = some k) : (acceptDisable g (s.disableSet g) k (abortOps g s)).OpsLawful := by
  have hnone := hs.ties.disable_of_cutting hcut
  have htaken := disableTaken_notes hs hk
    ((abortOps g s).disableBegun_noted g (s.disableSet g) k (.groupTx g ((abortOps g s).group g).tx .disabling)).notesOnly
  have hset := htaken.set
  rw [acceptDisable_eq]
  generalize post (.groupTx g ((Machine.abortOps g s).group g).tx .disabling)
    (allLanes.foldl (disableRole g) ((Machine.abortOps g s).disableTaken g (s.disableSet g) k)) = t at *
  have ht := hs.disableTaken hnone htaken
  split
  · next hempty =>
    obtain ⟨⟨v, -, -, -, -, hgiven⟩, -, -⟩ := htaken
    refine completeDisable_lawful ht .done hgiven.disable fun n hn => ?_
    rw [hset, hempty] at hn
    exact absurd hn (by rw [inSet, show (0 : LaneSet) = 0#8 from rfl, BitVec.getLsbD_zero]; decide)
  · exact ht

theorem State.OpsLawful.reqGroupDisable (hs : s.OpsLawful) (group : Byte) : (reqGroupDisable group s).part.OpsLawful := by
  unfold Machine.reqGroupDisable
  split
  · exact hs
  · next g _ =>
    split
    · exact hs
    · next hcut =>
      dsimp only
      split
      · exact hs
      · next k hk => exact hs.acceptDisable (by simpa using hcut) hk

theorem State.OpsLawful.reqGroupEnable (hs : s.OpsLawful) (group : Byte) : (reqGroupEnable group s).part.OpsLawful := by
  unfold Machine.reqGroupEnable
  split
  · exact hs
  · next g _ =>
    split_ifs with htx hpool
    · exact hs
    · exact hs
    · exact hs.enableGroup (not_not.1 htx)

end

end Sys2Proof.Machine
end

section
/-! Every request and every command keeps the laws of the operations (R147 to R158, R173, R180). -/

namespace Sys2Proof.Machine

/- The kernel checks the theorems one after another. -/
set_option Elab.async false

section
variable {s t : State} {c : Instr}

/-! ### Requests and frames (R147 to R158) -/

theorem State.OpsLawful.run (hs : s.OpsLawful) (r : Req) : (r.run s).part.OpsLawful := by
  cases r
  case groupEnable g => exact hs.reqGroupEnable g
  case groupDisable g => exact hs.reqGroupDisable g
  case laneAdd g l => exact hs.reqLaneAdd g l
  case laneRemove l => exact hs.reqLaneRemove l
  all_goals exact hs.moves (Req.run_moves _ s) (by simp [Req.aspects])

theorem State.OpsLawful.judgeEntry (hs : s.OpsLawful) (o : Origin) (code : Byte) (clears : Bool) (req : Option Req)
    (used later : Nat) : (judgeEntry o code clears req used later s).part.OpsLawful := by
  rcases judgeEntry_cases o code clears req used later s with e | e | ⟨r, -, e⟩
  · rw [e]
    exact hs.moves (as := []) (countDev_moves ..) (by decide)
  · rw [e]
    exact hs
  · rw [e]
    exact hs.run r

theorem State.OpsLawful.entryRow (hs : s.OpsLawful) (o : Origin) (code : Byte) (clears : Bool) (req : Option Req) :
    (entryRow o code clears req s).OpsLawful := by
  unfold Machine.entryRow
  split
  · exact hs
  · exact (OpsSame.of_eq rfl rfl rfl rfl).lawful (hs.judgeEntry o code clears req 8 0)

theorem State.OpsLawful.processFrame (hs : s.OpsLawful) (f : RequestFrame) : (processFrame f s).OpsLawful := by
  unfold Machine.processFrame
  split
  · exact hs.moves (as := []) (countDev_moves ..) (by decide)
  · next entries _ =>
    have hrun : (runEntries f.origin (frameStop f.bytes) entries ⟨s, [], false, false⟩).part.OpsLawful :=
      runEntries_keeps (fun code clears req used later u hu => hu.judgeEntry f.origin code clears req used later) entries hs
    exact hrun.moves (as := []) ((countDev_moves ..).trans (offerResponse_moves ..)) (by decide)

theorem State.OpsLawful.engineTakes (hs : s.OpsLawful) : (engineTakes s).OpsLawful := by
  unfold Machine.engineTakes
  split
  · next f rest _ _ => exact ((OpsSame.of_eq (t := { s with requestQueue := rest }) rfl rfl rfl rfl).lawful hs).processFrame f
  · exact hs

/-! ### Commands -/

/-- A command that touches no operation keeps their laws, and so does a reset. -/
theorem Effect.opsLawful (h : Effect c s t) (hs : s.OpsLawful) (ho : .ops ∉ commandAspects c) : t.OpsLawful := by
  cases h with
  | moves h => exact hs.moves h ho
  | inhibit b => exact (OpsSame.of_eq (t := { s with txInhibit := b }) rfl rfl rfl rfl).lawful hs
  | pause => exact (OpsSame.of_eq (t := { s with egressPause := true }) rfl rfl rfl rfl).lawful hs
  | unpause =>
    rw [arbitrate_fields]
    exact (OpsSame.of_eq rfl rfl rfl rfl).lawful hs
  | reset _ h =>
    have hafresh : ∀ cause b, (s.afresh cause b).OpsLawful := fun cause b => by
      obtain ⟨-, -, -, -, -, -, -, -, -, hops⟩ := afresh_safe cause s b
      exact hops
    obtain ⟨cause, rfl | rfl⟩ := afterReset_cases h
    · exact hafresh cause true
    · exact (hafresh cause false).moves (as := []) (post_moves ..) (by decide)

theorem State.OpsLawful.exec (hs : s.OpsLawful) (he : exec c s = .next t) : t.OpsLawful := by
  have hnext : ∀ {u}, Machine.exec c s = .next u → u.OpsLawful → t.OpsLawful := fun hu h =>
    Host.Outcome.next.inj (hu.symm.trans he) ▸ h
  cases c
  case segmentTaken l bytes => exact hnext (exec_segmentTaken s l bytes) (hs.lineSegment l bytes)
  case segmentTransmitEnd l => exact hnext (exec_segmentTransmitEnd s l) (hs.endTransmission l)
  case operationTimeout k => exact hnext (exec_operationTimeout s k) (hs.operationExpires k)
  case segmentPlacement g => exact hnext (exec_segmentPlacement s g) (hs.placeSegment g)
  case segmentTransmitStart l => exact hnext (exec_segmentTransmitStart s l) (hs.startTransmission l)
  case engineTakeFrame => exact hnext (exec_engineTakeFrame s) hs.engineTakes
  case groupEnable o g => exact hnext (exec_groupEnable s o g) (hs.entryRow ..)
  case groupDisable o g => exact hnext (exec_groupDisable s o g) (hs.entryRow ..)
  case laneAdd o g l => exact hnext (exec_laneAdd s o g l) (hs.entryRow ..)
  case laneRemove o l => exact hnext (exec_laneRemove s o l) (hs.entryRow ..)
  all_goals exact (effect_of_exec he).opsLawful hs (by simp [commandAspects])

end

/-- Settles O13: the moves that touch operations one by one, every other by the operations it leaves. -/
theorem operationLawKept : Obligations.OperationLawKept := fun s t hs hstep =>
  step_keeps (P := State.OpsLawful) (fun s q h => (OpsSame.of_eq (t := { s with pending := q }) rfl rfl rfl rfl).lawful h)
    (fun s h => by
      unfold tick
      split
      · exact h
      · exact (OpsSame.of_eq rfl rfl rfl rfl).lawful h) (fun _ _ _ h he => h.exec he) hs hstep

end Sys2Proof.Machine
end
